-- ==== Sys2Proof/Word.lean ====
section
/-! DEFINITION. The byte, the unit of link frames and store images. -/

namespace Sys2Proof

/-- One byte of a link frame or of a store image. -/
abbrev Byte := BitVec 8

end Sys2Proof
end

