-- ==== Sys2Proof/Machine/Crc.lean ====
section
/-! DEFINITION. The CRC-16 of link frames (R162) and the CRC-32 of store images (R174). -/

namespace Sys2Proof.Machine

/-- One bit into the CRC-16 register (R162): compare the register's most significant bit with the data bit, shift left,
and combine with 0x1021 where they differed. -/
def crc16Bit (reg : BitVec 16) (bit : Bool) : BitVec 16 :=
  if reg.msb != bit then (reg <<< 1) ^^^ 0x1021#16 else reg <<< 1

/-- One byte into the CRC-16 register, most significant bit first. -/
def crc16Byte (reg : BitVec 16) (b : Byte) : BitVec 16 :=
  [7, 6, 5, 4, 3, 2, 1, 0].foldl (fun r i => crc16Bit r (b.getLsbD i)) reg

/-- The CRC-16 over bytes in the order they are sent (R162). -/
def crc16 (bytes : List Byte) : BitVec 16 :=
  bytes.foldl crc16Byte 0xFFFF#16

/-- One bit into the CRC-32 register (R174): compare the register's least significant bit with the data bit, shift
right, and combine with 0xEDB88320 where they differed. -/
def crc32Bit (reg : BitVec 32) (bit : Bool) : BitVec 32 :=
  if reg.getLsbD 0 != bit then (reg >>> 1) ^^^ 0xEDB88320#32 else reg >>> 1

/-- One byte into the CRC-32 register, least significant bit first. -/
def crc32Byte (reg : BitVec 32) (b : Byte) : BitVec 32 :=
  [0, 1, 2, 3, 4, 5, 6, 7].foldl (fun r i => crc32Bit r (b.getLsbD i)) reg

/-- The CRC-32 over a body (R174). -/
def crc32 (bytes : List Byte) : BitVec 32 :=
  bytes.foldl crc32Byte 0xFFFFFFFF#32 ^^^ 0xFFFFFFFF#32

end Sys2Proof.Machine
end

