-- ==== Sys2Proof/Config.lean ====
section
/-! DEFINITION. The constants the manual fixes for the part, and the one value it leaves open. -/

namespace Sys2Proof.Config

/-- The acceleration of gravity, mm/s² (00_scope.md, "Units and signs"). -/
abbrev gravity : Nat := 9807

/-- REST_V, the rest threshold, mm/s (00_scope.md; R29). -/
abbrev restV : Nat := 20

/-- The sync byte of a link frame (10_link_ports_requests_and_events.md, "Link frames"). -/
abbrev syncByte : Byte := 0xC3#8

/-- The greatest payload length of a link frame (R161). -/
abbrev maxPayload : Nat := 60

/-- A gap of more than this many milliseconds discards a frame (R163). -/
abbrev gapLimit : Nat := 5

/-- The number of replies that may wait on a port (R168). -/
abbrev replyListCapacity : Nat := 4

/-- The number of attempts of an image write and of the read of a slot (R176, R177). -/
abbrev storeAttempts : Nat := 3

/-- The format version of an image (R174). -/
abbrev formatVersion : Nat := 1

/-- The signature of a SURVEY image (12, "Store images"). -/
abbrev surveySignature : Nat := 0x00A1F362

/-- The signature of an INVENTORY image (12, "Store images"). -/
abbrev inventorySignature : Nat := 0x00A2F362

/-- The body length of a SURVEY image in bytes (12, "Store images"). -/
abbrev surveyBodyLength : Nat := 130

/-- The body length of an INVENTORY image in bytes (12, "Store images"). -/
abbrev inventoryBodyLength : Nat := 337

/-- A free value: whether a default service table entry names L when its value is neither 0 nor 1, the values to which
R4 gives a frame. R184 keeps such an entry beyond the table length as read, and a later length can take it in (log 44,
DESIGN CHOICE). -/
opaque entryNamesL : Nat → Bool

end Sys2Proof.Config
end

