-- ==== Sys2Proof/Syntax.lean ====
section
/-! DEFINITION. The commands of the AJF-362: one constructor of `Instr` per row of spec/opcode_table.json, with the
row's operands in the widths of 12_message_and_image_layouts.md (R182). -/

namespace Sys2Proof

/-- The two lifting frames (00_scope.md, "Frames, landings, bays and masses"). -/
inductive Frame where
  | U
  | L
  deriving DecidableEq, Repr

/-- "The other frame" is the one that is not f. -/
def Frame.other : Frame → Frame
  | .U => .L
  | .L => .U

/-- A link port, LINK0 to LINK3. -/
abbrev PortId := Fin 4

/-- The causes with which the FRAME_DISCARDED row discards a link frame (R163); the cause GAP has its own row. -/
inductive DiscardCause where
  | length
  | crc
  | overflow
  deriving DecidableEq, Repr

/-- The request types of R165, by name. -/
inductive Req where
  | position | requestTravel | releaseTravel | readGrant | readTask | transfer
  | submitTask | cancelTask | redirectTask | takeCompletion
  | hold | resume | lockout | unlock | ackStop | clearTrip
  | setTuning | setSurveyItem | saveSurvey
  | declareMass | confirmInventory | saveInventory | setBayService | setLandingService
  | readStatus | readFrame | readMass | readBay | readEnergy | readSurveyItem | readTaskById
  | readEvents | clearEvents | setEventMask
  deriving DecidableEq, Repr

/-- The commands. A request command stands for the completion, on port `p`, of a link frame of that type whose CRC
matches and whose payload holds the operands (R166); multi-byte operands are the little-endian payload fields. -/
inductive Instr where
  /-- POSITION (R18): elevation, velocity (two's complement), payload (two's complement), flag byte. -/
  | position (p : PortId) (e : BitVec 32) (v : BitVec 16) (m : BitVec 32) (flags : Byte)
  /-- REQUEST_TRAVEL (R52): the target elevation. -/
  | requestTravel (p : PortId) (target : BitVec 32)
  /-- RELEASE_TRAVEL (R56). -/
  | releaseTravel (p : PortId)
  /-- READ_GRANT (R69). -/
  | readGrant (p : PortId)
  /-- READ_TASK (R127). -/
  | readTask (p : PortId)
  /-- TRANSFER (R132). -/
  | transfer (p : PortId)
  /-- SUBMIT_TASK (R110): frame 0 U, 1 L, 2 ANY. -/
  | submitTask (p : PortId) (tag : BitVec 16) (mass bay frame : Byte)
  /-- CANCEL_TASK (R122). -/
  | cancelTask (p : PortId) (id : Byte)
  /-- REDIRECT_TASK (R125). -/
  | redirectTask (p : PortId) (id bay : Byte)
  /-- TAKE_COMPLETION (R126). -/
  | takeCompletion (p : PortId)
  /-- HOLD (R150). -/
  | hold (p : PortId)
  /-- RESUME (R151). -/
  | resume (p : PortId)
  /-- LOCKOUT (R152). -/
  | lockout (p : PortId)
  /-- UNLOCK (R153). -/
  | unlock (p : PortId)
  /-- ACK_STOP (R155). -/
  | ackStop (p : PortId)
  /-- CLEAR_TRIP (R156). -/
  | clearTrip (p : PortId) (frame : Byte)
  /-- SET_TUNING (R14): presence bits, VL and LEG of U and of L, table length and the eight table entries. -/
  | setTuning (p : PortId) (present : Byte) (vlU : BitVec 16) (legU : Byte) (vlL : BitVec 16) (legL : Byte)
      (len : Byte) (entries : List Byte)
  /-- SET_SURVEY_ITEM (R6). -/
  | setSurveyItem (p : PortId) (item index : Byte) (value : BitVec 32)
  /-- SAVE_SURVEY (R8). -/
  | saveSurvey (p : PortId)
  /-- DECLARE_MASS (R99): id, nominal, location kind and the two place bytes (R182). -/
  | declareMass (p : PortId) (id : Byte) (nominal : BitVec 16) (kind place1 place2 : Byte)
  /-- CONFIRM_INVENTORY (R100). -/
  | confirmInventory (p : PortId)
  /-- SAVE_INVENTORY (R95). -/
  | saveInventory (p : PortId)
  /-- SET_BAY_SERVICE (R101). -/
  | setBayService (p : PortId) (bay flag : Byte)
  /-- SET_LANDING_SERVICE (R102). -/
  | setLandingService (p : PortId) (landing flag : Byte)
  /-- READ_STATUS (R173). -/
  | readStatus (p : PortId)
  /-- READ_FRAME (R35). -/
  | readFrame (p : PortId) (frame : Byte)
  /-- READ_MASS (R103). -/
  | readMass (p : PortId) (id : Byte)
  /-- READ_BAY (R103). -/
  | readBay (p : PortId) (bay : Byte)
  /-- READ_ENERGY (R104). -/
  | readEnergy (p : PortId)
  /-- READ_SURVEY_ITEM (R7). -/
  | readSurveyItem (p : PortId) (item index copy : Byte)
  /-- READ_TASK_BY_ID (R128). -/
  | readTaskById (p : PortId) (id : Byte)
  /-- READ_EVENTS (R171). -/
  | readEvents (p : PortId)
  /-- CLEAR_EVENTS (R172): bit i names flag i. -/
  | clearEvents (p : PortId) (flags : BitVec 16)
  /-- SET_EVENT_MASK (R171): bit i enables flag i. -/
  | setEventMask (p : PortId) (enables : BitVec 16)
  /-- UNKNOWN_REQUEST (R166): a taken link frame of a type that R165 does not list, with its payload. -/
  | unknownRequest (p : PortId) (type : Byte) (payload : List Byte)
  /-- FRAME_DISCARDED (R163). -/
  | frameDiscarded (p : PortId) (cause : DiscardCause)
  /-- GAP_EXPIRY (R163). -/
  | gapExpiry (p : PortId)
  /-- LINK_BREAK (R164): the receive line has been low for 2 ms. -/
  | linkBreak (p : PortId)
  /-- REPLY_SENT (R168): the last byte of the reply at the front of the list has gone out. -/
  | replySent (p : PortId)
  /-- STALENESS_EXPIRY (R30). -/
  | stalenessExpiry (f : Frame)
  /-- TRANSFER_TIMER_EXPIRY (R141): the timer of frame f's transfer. -/
  | transferTimerExpiry (f : Frame)
  /-- STOP_N_ASSERTION (R154). -/
  | stopNAssertion
  /-- STOP_N_RELEASE (R155). -/
  | stopNRelease
  /-- GDONE_RISING (R139, R143) at landing k. -/
  | gdoneRising (k : Fin 12)
  /-- GFLT_RISING (R140, R143) at landing k. -/
  | gfltRising (k : Fin 12)
  /-- COLD_RESET (R178): the strap codes of LINK0 to LINK3 and the level of STOP_N as the part comes out of reset. -/
  | coldReset (strap0 strap1 strap2 strap3 : BitVec 2) (stopAsserted : Bool)
  /-- SURVEY_READ_END (R177, R178): for each slot, what its read attempts found, in the order they were made. -/
  | surveyReadEnd (slotA slotB : List (List Byte))
  /-- INVENTORY_READ_END (R177, R179): for each slot, what its read attempts found. -/
  | inventoryReadEnd (slotA slotB : List (List Byte))
  /-- STORE_ATTEMPT_END (R176): the bytes read back, or none where a store transfer did not complete. -/
  | storeAttemptEnd (readBack : Option (List Byte))
  /-- LINK_BYTE_RECEIVED (R161). -/
  | linkByteReceived (p : PortId) (b : Byte)
  /-- LINK_BREAK_END (R164): the receive line of a broken port rises. -/
  | linkBreakEnd (p : PortId)
  deriving DecidableEq, Repr

end Sys2Proof
end

