-- ==== Sys2Proof/Decode.lean ====
section
/-! DEFINITION. The request table of R165 and R182, the reading of a taken link frame as a request command and the
writing of a request command as a frame's type and payload, and the two names the host asks for. The opcode table gives
no row bits, so `decodeTableWord` reads no word. -/

namespace Sys2Proof

/-- The roles that may send a request (R165): the two winder roles, DISPATCH alone, or every role. -/
inductive RoleClass where
  | winder
  | dispatch
  | all
  deriving DecidableEq, Repr

/-- The request types in the order of R165. -/
def Req.list : List Req :=
  [.position, .requestTravel, .releaseTravel, .readGrant, .readTask, .transfer, .submitTask, .cancelTask, .redirectTask, .takeCompletion, .hold, .resume, .lockout, .unlock, .ackStop, .clearTrip,
   .setTuning, .setSurveyItem, .saveSurvey, .declareMass, .confirmInventory, .saveInventory, .setBayService, .setLandingService, .readStatus, .readFrame, .readMass, .readBay, .readEnergy, .readSurveyItem, .readTaskById, .readEvents, .clearEvents, .setEventMask]

/-- The type byte of a request (R165). -/
def Req.typeByte : Req → Byte
  | .position => 0x01#8
  | .requestTravel => 0x02#8
  | .releaseTravel => 0x03#8
  | .readGrant => 0x04#8
  | .readTask => 0x05#8
  | .transfer => 0x06#8
  | .submitTask => 0x20#8
  | .cancelTask => 0x21#8
  | .redirectTask => 0x22#8
  | .takeCompletion => 0x23#8
  | .hold => 0x28#8
  | .resume => 0x29#8
  | .lockout => 0x2A#8
  | .unlock => 0x2B#8
  | .ackStop => 0x2C#8
  | .clearTrip => 0x2D#8
  | .setTuning => 0x30#8
  | .setSurveyItem => 0x31#8
  | .saveSurvey => 0x32#8
  | .declareMass => 0x38#8
  | .confirmInventory => 0x39#8
  | .saveInventory => 0x3A#8
  | .setBayService => 0x3B#8
  | .setLandingService => 0x3C#8
  | .readStatus => 0x40#8
  | .readFrame => 0x41#8
  | .readMass => 0x42#8
  | .readBay => 0x43#8
  | .readEnergy => 0x44#8
  | .readSurveyItem => 0x45#8
  | .readTaskById => 0x46#8
  | .readEvents => 0x48#8
  | .clearEvents => 0x49#8
  | .setEventMask => 0x4A#8

/-- The roles that may send a request (R165). -/
def Req.roles : Req → RoleClass
  | .position => .winder
  | .requestTravel => .winder
  | .releaseTravel => .winder
  | .readGrant => .winder
  | .readTask => .winder
  | .transfer => .winder
  | .submitTask => .dispatch
  | .cancelTask => .dispatch
  | .redirectTask => .dispatch
  | .takeCompletion => .dispatch
  | .hold => .dispatch
  | .resume => .dispatch
  | .lockout => .dispatch
  | .unlock => .dispatch
  | .ackStop => .dispatch
  | .clearTrip => .dispatch
  | .setTuning => .dispatch
  | .setSurveyItem => .dispatch
  | .saveSurvey => .dispatch
  | .declareMass => .dispatch
  | .confirmInventory => .dispatch
  | .saveInventory => .dispatch
  | .setBayService => .dispatch
  | .setLandingService => .dispatch
  | .readStatus => .all
  | .readFrame => .all
  | .readMass => .all
  | .readBay => .all
  | .readEnergy => .all
  | .readSurveyItem => .all
  | .readTaskById => .all
  | .readEvents => .all
  | .clearEvents => .all
  | .setEventMask => .all

/-- The payload length of a request (R182). -/
def Req.payloadLength : Req → Nat
  | .position => 11
  | .requestTravel => 4
  | .releaseTravel => 0
  | .readGrant => 0
  | .readTask => 0
  | .transfer => 0
  | .submitTask => 5
  | .cancelTask => 1
  | .redirectTask => 2
  | .takeCompletion => 0
  | .hold => 0
  | .resume => 0
  | .lockout => 0
  | .unlock => 0
  | .ackStop => 0
  | .clearTrip => 1
  | .setTuning => 16
  | .setSurveyItem => 6
  | .saveSurvey => 0
  | .declareMass => 6
  | .confirmInventory => 0
  | .saveInventory => 0
  | .setBayService => 2
  | .setLandingService => 2
  | .readStatus => 0
  | .readFrame => 1
  | .readMass => 1
  | .readBay => 1
  | .readEnergy => 0
  | .readSurveyItem => 3
  | .readTaskById => 1
  | .readEvents => 0
  | .clearEvents => 2
  | .setEventMask => 2

/-- Whether a request is admitted while the survey is UNCONFIGURED (R181). -/
def Req.admittedUnconfigured : Req → Bool
  | .position => false
  | .requestTravel => false
  | .releaseTravel => false
  | .readGrant => true
  | .readTask => true
  | .transfer => false
  | .submitTask => false
  | .cancelTask => false
  | .redirectTask => false
  | .takeCompletion => false
  | .hold => false
  | .resume => false
  | .lockout => false
  | .unlock => false
  | .ackStop => false
  | .clearTrip => false
  | .setTuning => true
  | .setSurveyItem => true
  | .saveSurvey => true
  | .declareMass => false
  | .confirmInventory => false
  | .saveInventory => false
  | .setBayService => false
  | .setLandingService => false
  | .readStatus => true
  | .readFrame => true
  | .readMass => true
  | .readBay => true
  | .readEnergy => true
  | .readSurveyItem => true
  | .readTaskById => true
  | .readEvents => true
  | .clearEvents => true
  | .setEventMask => true

/-- The request of a type byte, none where R165 does not list it. -/
def Req.ofType (t : Byte) : Option Req :=
  Req.list.find? (fun r => r.typeByte == t)

/-- A 16-bit field from its bytes, low byte first (12, opening). -/
def word16 (b0 b1 : Byte) : BitVec 16 :=
  b1 ++ b0

/-- A 32-bit field from its bytes, low byte first (12, opening). -/
def word32 (b0 b1 b2 b3 : Byte) : BitVec 32 :=
  b3 ++ b2 ++ b1 ++ b0

/-- The bytes of a 16-bit field, low byte first. -/
def bytes16 (w : BitVec 16) : List Byte :=
  [w.extractLsb' 0 8, w.extractLsb' 8 8]

/-- The bytes of a 32-bit field, low byte first. -/
def bytes32 (w : BitVec 32) : List Byte :=
  [w.extractLsb' 0 8, w.extractLsb' 8 8, w.extractLsb' 16 8, w.extractLsb' 24 8]

/-- The request command that a taken frame spells on port `p`: its type and its payload, whose length must be the one
R182 gives. None where the length is another. -/
def decodeRequest (p : PortId) (r : Req) (payload : List Byte) : Option Instr :=
  match r, payload with
  | .position, [e0, e1, e2, e3, v0, v1, m0, m1, m2, m3, fl] =>
      some (.position p (word32 e0 e1 e2 e3) (word16 v0 v1) (word32 m0 m1 m2 m3) fl)
  | .requestTravel, [t0, t1, t2, t3] => some (.requestTravel p (word32 t0 t1 t2 t3))
  | .submitTask, [t0, t1, mass, bay, frame] => some (.submitTask p (word16 t0 t1) mass bay frame)
  | .cancelTask, [id] => some (.cancelTask p id)
  | .redirectTask, [id, bay] => some (.redirectTask p id bay)
  | .clearTrip, [frame] => some (.clearTrip p frame)
  | .setTuning, [pr, vu0, vu1, lu, vl0, vl1, ll, len, t0, t1, t2, t3, t4, t5, t6, t7] =>
      some (.setTuning p pr (word16 vu0 vu1) lu (word16 vl0 vl1) ll len [t0, t1, t2, t3, t4, t5, t6, t7])
  | .setSurveyItem, [item, index, v0, v1, v2, v3] => some (.setSurveyItem p item index (word32 v0 v1 v2 v3))
  | .declareMass, [id, n0, n1, kind, a, b] => some (.declareMass p id (word16 n0 n1) kind a b)
  | .setBayService, [bay, flag] => some (.setBayService p bay flag)
  | .setLandingService, [landing, flag] => some (.setLandingService p landing flag)
  | .readFrame, [frame] => some (.readFrame p frame)
  | .readMass, [id] => some (.readMass p id)
  | .readBay, [bay] => some (.readBay p bay)
  | .readSurveyItem, [item, index, copy] => some (.readSurveyItem p item index copy)
  | .readTaskById, [id] => some (.readTaskById p id)
  | .clearEvents, [f0, f1] => some (.clearEvents p (word16 f0 f1))
  | .setEventMask, [f0, f1] => some (.setEventMask p (word16 f0 f1))
  | .releaseTravel, [] => some (.releaseTravel p)
  | .readGrant, [] => some (.readGrant p)
  | .readTask, [] => some (.readTask p)
  | .transfer, [] => some (.transfer p)
  | .takeCompletion, [] => some (.takeCompletion p)
  | .hold, [] => some (.hold p)
  | .resume, [] => some (.resume p)
  | .lockout, [] => some (.lockout p)
  | .unlock, [] => some (.unlock p)
  | .ackStop, [] => some (.ackStop p)
  | .saveSurvey, [] => some (.saveSurvey p)
  | .confirmInventory, [] => some (.confirmInventory p)
  | .saveInventory, [] => some (.saveInventory p)
  | .readStatus, [] => some (.readStatus p)
  | .readEnergy, [] => some (.readEnergy p)
  | .readEvents, [] => some (.readEvents p)
  | _, _ => none

/-- The port, request and payload of the frame that spells a request command; none for the commands that are not
requests of R165. -/
def encodeRequest : Instr → Option (PortId × Req × List Byte)
  | .position p e v m fl => some (p, .position, bytes32 e ++ bytes16 v ++ bytes32 m ++ [fl])
  | .requestTravel p t => some (p, .requestTravel, bytes32 t)
  | .submitTask p tag mass bay frame => some (p, .submitTask, bytes16 tag ++ [mass, bay, frame])
  | .cancelTask p id => some (p, .cancelTask, [id])
  | .redirectTask p id bay => some (p, .redirectTask, [id, bay])
  | .clearTrip p frame => some (p, .clearTrip, [frame])
  | .setTuning p pr vu lu vl ll len es =>
      some (p, .setTuning, [pr] ++ bytes16 vu ++ [lu] ++ bytes16 vl ++ [ll, len] ++ es)
  | .setSurveyItem p item index v => some (p, .setSurveyItem, [item, index] ++ bytes32 v)
  | .declareMass p id n kind a b => some (p, .declareMass, [id] ++ bytes16 n ++ [kind, a, b])
  | .setBayService p bay flag => some (p, .setBayService, [bay, flag])
  | .setLandingService p landing flag => some (p, .setLandingService, [landing, flag])
  | .readFrame p frame => some (p, .readFrame, [frame])
  | .readMass p id => some (p, .readMass, [id])
  | .readBay p bay => some (p, .readBay, [bay])
  | .readSurveyItem p item index copy => some (p, .readSurveyItem, [item, index, copy])
  | .readTaskById p id => some (p, .readTaskById, [id])
  | .clearEvents p fl => some (p, .clearEvents, bytes16 fl)
  | .setEventMask p en => some (p, .setEventMask, bytes16 en)
  | .releaseTravel p => some (p, .releaseTravel, [])
  | .readGrant p => some (p, .readGrant, [])
  | .readTask p => some (p, .readTask, [])
  | .transfer p => some (p, .transfer, [])
  | .takeCompletion p => some (p, .takeCompletion, [])
  | .hold p => some (p, .hold, [])
  | .resume p => some (p, .resume, [])
  | .lockout p => some (p, .lockout, [])
  | .unlock p => some (p, .unlock, [])
  | .ackStop p => some (p, .ackStop, [])
  | .saveSurvey p => some (p, .saveSurvey, [])
  | .confirmInventory p => some (p, .confirmInventory, [])
  | .saveInventory p => some (p, .saveInventory, [])
  | .readStatus p => some (p, .readStatus, [])
  | .readEnergy p => some (p, .readEnergy, [])
  | .readEvents p => some (p, .readEvents, [])
  | .unknownRequest _ _ _ => none
  | .frameDiscarded _ _ => none
  | .gapExpiry _ => none
  | .linkBreak _ => none
  | .replySent _ => none
  | .stalenessExpiry _ => none
  | .transferTimerExpiry _ => none
  | .stopNAssertion => none
  | .stopNRelease => none
  | .gdoneRising _ => none
  | .gfltRising _ => none
  | .coldReset _ _ _ _ _ => none
  | .surveyReadEnd _ _ => none
  | .inventoryReadEnd _ _ => none
  | .storeAttemptEnd _ => none
  | .linkByteReceived _ _ => none
  | .linkBreakEnd _ => none

/-- The command that a word spells by the bits of spec/opcode_table.json. The table gives its rows no bits, so no word
spells one. -/
def decodeTableWord (_nbits _w : Nat) : Option Instr :=
  none

end Sys2Proof
end

