-- ==== Sys2Proof/Machine/State.lean ====
section
/-! DEFINITION. The state of the AJF-362: every item the manual gives its blocks, as plain data, and the state at cold
reset. Each field's docstring names the rule that gives it. -/

namespace Sys2Proof.Machine

/-- A fixed number of like records, in index order. -/
structure Bank (α : Type) (n : Nat) where
  toList : List α
  len : toList.length = n
  deriving DecidableEq, Repr

/-- The bank whose record i is `f i`. -/
def Bank.ofFn {α : Type} (n : Nat) (f : Nat → α) : Bank α n :=
  ⟨(List.range n).map f, by simp⟩

/-- The record at index i, or `d` where the bank has no such index. -/
def Bank.getD {α : Type} {n : Nat} (b : Bank α n) (i : Nat) (d : α) : α :=
  b.toList.getD i d

/-- The bank with record i replaced; unchanged where it has no such index. -/
def Bank.set {α : Type} {n : Nat} (b : Bank α n) (i : Nat) (a : α) : Bank α n :=
  ⟨b.toList.set i a, by simp [b.len]⟩

/-- The bank with every record mapped. -/
def Bank.map {α β : Type} {n : Nat} (f : α → β) (b : Bank α n) : Bank β n :=
  ⟨b.toList.map f, by simp [b.len]⟩

/-- One item for each frame. -/
structure Pair (α : Type) where
  u : α
  l : α
  deriving DecidableEq, Repr

/-- The item of frame f. -/
def Pair.get {α : Type} (x : Pair α) : Frame → α
  | .U => x.u
  | .L => x.l

/-- The pair with frame f's item replaced. -/
def Pair.set {α : Type} (x : Pair α) (f : Frame) (a : α) : Pair α :=
  match f with
  | .U => { x with u := a }
  | .L => { x with l := a }

/-! ### Link Unit -/

/-- The roles of R159. -/
inductive Role where
  | monitor
  | winderU
  | winderL
  | dispatch
  deriving DecidableEq, Repr

/-- The last link error cause (R163, 12 codes). -/
inductive LinkCause where
  | none
  | length
  | crc
  | gap
  | overflow
  deriving DecidableEq, Repr

/-- The receive state of a port with what it has gathered (R161); `last` is the time of the last byte taken. -/
inductive Rx where
  | hunt
  | type (last : BitVec 32)
  | length (type : Byte) (last : BitVec 32)
  | payload (type : Byte) (got : List Byte) (left : Nat) (last : BitVec 32)
  | check (type : Byte) (payload : List Byte) (first : Option Byte) (last : BitVec 32)
  deriving DecidableEq, Repr

/-- A reply waiting on a port (R166, R168): its type, its payload beginning with the status, and the CRC of R162. -/
structure Reply where
  type : Byte
  payload : List Byte
  crc : BitVec 16
  deriving DecidableEq, Repr

/-- One link port. -/
structure PortState where
  /-- The role (R159). -/
  role : Role
  /-- A taken break's low period is still going on (R164). -/
  lineLow : Bool
  /-- The receive state (R161). -/
  rx : Rx
  /-- The reply list, the reply being sent first (R168). -/
  replies : List Reply
  /-- The link error count, 0 to 255 (R163). -/
  errorCount : Nat
  /-- The last link error cause (R163). -/
  errorCause : LinkCause
  /-- The event flags, bit i for flag number i (R169). -/
  flags : BitVec 16
  /-- The enable mask, bit i for flag number i (R170). -/
  mask : BitVec 16
  /-- The ATTN line (R170). -/
  attn : Bool
  deriving DecidableEq, Repr

/-! ### Survey Table -/

/-- The winder items of R4 for one frame. -/
structure Winder where
  /-- AB, braking deceleration, mm/s². -/
  ab : Nat
  /-- TR, reaction time, ms. -/
  tr : Nat
  /-- VL_MAX, speed ceiling, mm/s. -/
  vlMax : Nat
  /-- K, rope stretch coefficient. -/
  k : Nat
  /-- OVR, overrun allowance, mm. -/
  ovr : Nat
  /-- PL, payload limit, kg. -/
  pl : Nat
  /-- RTO, report timeout, ms. -/
  rto : Nat
  /-- PTOL, plausibility tolerance, mm. -/
  ptol : Nat
  /-- default VL, mm/s. -/
  defaultVl : Nat
  /-- default LEG, zones. -/
  defaultLeg : Nat
  deriving DecidableEq, Repr

/-- One copy of the survey: every item of R4 that is not derived. -/
structure Survey where
  /-- SL, shaft length, mm. -/
  sl : Nat
  /-- ZL, zone length, mm. -/
  zl : Nat
  /-- HE, head elevation, mm. -/
  he : Nat
  /-- FH, frame height, mm. -/
  fh : Nat
  /-- C, clearance, mm. -/
  c : Nat
  /-- LVT, level tolerance, mm. -/
  lvt : Nat
  /-- LDT, load tolerance, kg. -/
  ldt : Nat
  /-- TTO, transfer timeout, s. -/
  tto : Nat
  /-- NL, landing count. -/
  nl : Nat
  /-- LE_k, landing floor elevations, mm. -/
  le : Bank Nat 12
  /-- Bays at landing k. -/
  bays : Bank Nat 12
  /-- The winder items of U and of L. -/
  winder : Pair Winder
  /-- Default service table length. -/
  tableLen : Nat
  /-- Default service table entries, 0 for U and 1 for L. -/
  table : Bank Nat 8
  deriving DecidableEq, Repr

/-- The survey states of R3. -/
inductive SurveyState where
  | unconfigured
  | valid
  | edited
  deriving DecidableEq, Repr

/-- The tuning of one frame (R13). -/
structure Tuning where
  /-- Working VL. -/
  vl : Nat
  /-- Working LEG. -/
  leg : Nat
  /-- Pending VL. -/
  pendingVl : Option Nat
  /-- Pending LEG. -/
  pendingLeg : Option Nat
  deriving DecidableEq, Repr

/-- SVT's state (R3, R13). -/
structure Svt where
  working : Survey
  edit : Survey
  state : SurveyState
  saveOutstanding : Bool
  tuning : Pair Tuning
  deriving DecidableEq, Repr

/-! ### Frame Trackers -/

/-- The tracking states of R19. -/
inductive Tracking where
  | unknown
  | tracked
  | stale
  | tripped
  deriving DecidableEq, Repr

/-- An accepted report (R19): m is the payload as clamped (R24). -/
structure Report where
  e : Nat
  v : Int
  m : Nat
  brakeSet : Bool
  arrival : BitVec 32
  deriving DecidableEq, Repr

/-- One tracker's state (R19). -/
structure Tracker where
  state : Tracking
  last : Option Report
  /-- The implausible count, 0 to 255. -/
  count : Nat
  /-- The staleness timer: stopped, or its expiry time. -/
  timer : Option (BitVec 32)
  /-- The trip reason set, bit i for reason i of the codes of 12. -/
  reasons : BitVec 16
  deriving DecidableEq, Repr

/-! ### Grant Unit -/

/-- A run of zones, both ends included. -/
structure Run where
  lo : Nat
  hi : Nat
  deriving DecidableEq, Repr

/-- The direction of a travel request. -/
inductive Dir where
  | up
  | down
  deriving DecidableEq, Repr

/-- A travel request (R48). -/
structure Travel where
  target : Nat
  dir : Dir
  deriving DecidableEq, Repr

/-- The last end reasons of R48. -/
inductive EndReason where
  | none
  | arrived
  | released
  | yield
  | cleared
  deriving DecidableEq, Repr

/-- GRU's state (R46 to R48, R67). The zone table is held as the two grants: the entry of a zone is U or L where that
frame's grant holds it and FREE otherwise (R47); `State.zoneOwner` reads it. -/
structure Gru where
  grants : Pair (Option Run)
  requests : Pair (Option Travel)
  lastEnd : Pair EndReason
  /-- The PERMIT_U and PERMIT_L outputs. -/
  permit : Pair Bool
  deriving DecidableEq, Repr

/-! ### Grant Arbiter -/

/-- ARB's state (R70). -/
structure Arb where
  table : List Frame
  pendingTable : Option (List Frame)
  pointer : Nat
  blockedReported : Pair Bool
  lastLoser : Option Frame
  deriving DecidableEq, Repr

/-! ### Inventory Unit -/

/-- The mass states of R84. -/
inductive MassState where
  | absent
  | stored
  | carried
  | inTransfer
  | unaccounted
  deriving DecidableEq, Repr

/-- A mass record (R84). -/
structure Mass where
  state : MassState
  nominal : Nat
  bay : Option Nat
  frame : Option Frame
  landing : Option Nat
  task : Option Nat
  deriving DecidableEq, Repr

/-- A bay record (R85). -/
structure Bay where
  content : Option Nat
  inService : Bool
  task : Option Nat
  deriving DecidableEq, Repr

/-- A landing record (R85). -/
structure Landing where
  inService : Bool
  late : Bool
  unexpected : Bool
  deriving DecidableEq, Repr

/-- The save states of R92. -/
inductive SaveState where
  | clean
  | writing
  | writingDirty
  | notSaved
  deriving DecidableEq, Repr

/-- Which change of a transfer XFC waits on (R91). -/
inductive Change where
  | commit
  | restore
  | verified
  deriving DecidableEq, Repr

/-- A requester waiting on a save (R91): XFC, for the transfer of a frame. -/
structure Waiter where
  frame : Frame
  change : Change
  deriving DecidableEq, Repr

/-- INV's state (R84, R85, R90, R92, R93, R96). -/
structure Inv where
  masses : Bank Mass 40
  bays : Bank Bay 40
  landings : Bank Landing 12
  /-- The inventory state is VERIFIED (R90). -/
  verified : Bool
  save : SaveState
  /-- Requesters whose change the write in flight carries. -/
  carriedWaiters : List Waiter
  /-- Requesters whose change waits for the next write. -/
  nextWaiters : List Waiter
  /-- S_raw. -/
  sRaw : Nat
  /-- STORED_kJ. -/
  storedKJ : Nat
  deriving DecidableEq, Repr

/-! ### Task Unit -/

/-- The task phases of R105. -/
inductive Phase where
  | queued
  | toPickup
  | loading
  | toDrop
  | unloading
  | done
  | failed
  | cancelled
  deriving DecidableEq, Repr

/-- A task's outcome (R105). -/
structure Outcome where
  phase : Phase
  mass : MassState
  deriving DecidableEq, Repr

/-- A task record (R105); its number is its index. -/
structure Task where
  tag : BitVec 16
  mass : Nat
  source : Option Nat
  dest : Nat
  frame : Frame
  phase : Phase
  cancelPending : Bool
  /-- The task reason set, bit i for reason i of the codes of 12. -/
  reasons : BitVec 16
  /-- The energy delta, kJ. -/
  delta : Int
  outcome : Option Outcome
  deriving DecidableEq, Repr

/-- TKU's state (R105, R106). -/
structure Tku where
  tasks : Bank Task 32
  free : List Nat
  queues : Pair (List Nat)
  completion : List Nat
  deriving DecidableEq, Repr

/-! ### Transfer Controller -/

/-- The transfer phases of R130; an IDLE context holds no transfer. -/
inductive XPhase where
  | committing
  | gearRunning
  | abandoning
  | verifying
  | finishing
  deriving DecidableEq, Repr

/-- The transfer kinds of R130. -/
inductive Kind where
  | load
  | unload
  deriving DecidableEq, Repr

/-- The transfer causes of R147. -/
inductive Cause where
  | none
  | storeFault
  | stop
  | brakeReleased
  | transferFault
  | transferTimeout
  | transferAbort
  | loadMismatch
  deriving DecidableEq, Repr

/-- Where a restore puts the mass (R130). -/
inductive ReturnPlace where
  | bay (b : Nat)
  | frame (f : Frame) (landing : Nat)
  deriving DecidableEq, Repr

/-- A transfer in a context (R130). -/
structure Transfer where
  phase : XPhase
  kind : Kind
  task : Nat
  mass : Nat
  landing : Nat
  bay : Nat
  ret : ReturnPlace
  /-- The expected payload, kg. -/
  expected : Nat
  /-- The transfer span's lower end, mm. -/
  spanLo : Int
  /-- The transfer span's upper end, mm. -/
  spanHi : Int
  /-- The transfer timer: stopped, or its expiry time. -/
  timer : Option (BitVec 32)
  cause : Cause
  deriving DecidableEq, Repr

/-- The outcomes of R147. -/
inductive XOutcome where
  | completed
  | abandoned
  | failed
  deriving DecidableEq, Repr

/-- A last transfer result (R147). -/
structure TransferResult where
  kind : Kind
  task : Nat
  mass : Nat
  landing : Nat
  bay : Nat
  outcome : XOutcome
  cause : Cause
  saved : Bool
  deriving DecidableEq, Repr

/-- XFC's state (R130, R131, R147). -/
structure Xfc where
  /-- The contexts; none is IDLE. -/
  contexts : Pair (Option Transfer)
  /-- The timed-out markers. -/
  timedOut : Bank Bool 12
  lastResult : Pair (Option TransferResult)
  /-- The LDCMD_k outputs. -/
  ldcmd : Bank Bool 12
  /-- The ULCMD_k outputs. -/
  ulcmd : Bank Bool 12
  deriving DecidableEq, Repr

/-! ### Mode Controller -/

/-- The shaft modes of R148. -/
inductive Mode where
  | run
  | hold
  | lockout
  deriving DecidableEq, Repr

/-- MDC's state (R148). -/
structure Mdc where
  mode : Mode
  /-- The stop latch is set. -/
  latch : Bool
  /-- STOP_N is asserted. -/
  stopN : Bool
  strapFault : Bool
  /-- The FAULT output. -/
  fault : Bool
  deriving DecidableEq, Repr

/-! ### Store Interface -/

/-- The regions of the store (R174). -/
inductive Region where
  | survey
  | inventory
  deriving DecidableEq, Repr

/-- The slots of a region (R174). -/
inductive Slot where
  | a
  | b
  deriving DecidableEq, Repr

/-- One item for each region. -/
structure PerRegion (α : Type) where
  survey : α
  inventory : α
  deriving DecidableEq, Repr

/-- The item of a region. -/
def PerRegion.get {α : Type} (x : PerRegion α) : Region → α
  | .survey => x.survey
  | .inventory => x.inventory

/-- The items with one region's replaced. -/
def PerRegion.set {α : Type} (x : PerRegion α) (r : Region) (a : α) : PerRegion α :=
  match r with
  | .survey => { x with survey := a }
  | .inventory => { x with inventory := a }

/-- The store operation in flight (R175). -/
inductive StoreOp where
  | idle
  | read (region : Region)
  | write (region : Region) (slot : Slot) (generation : BitVec 32) (image : List Byte)
  deriving DecidableEq, Repr

/-- STI's state (R175). -/
structure Sti where
  op : StoreOp
  /-- The attempt count, 0 to 3. -/
  attempts : Nat
  /-- The waiting write of each region: the body handed over, without its generation. -/
  waiting : PerRegion (Option (List Byte))
  current : PerRegion (Option Slot)
  generation : PerRegion (BitVec 32)
  deriving DecidableEq, Repr

/-! ### The whole part -/

/-- Where start-up stands (R178 to R180). -/
inductive StartUp where
  | straps
  | surveyRead
  | inventoryRead
  | ended
  deriving DecidableEq, Repr

/-- The state of the part and the queue of commands that wait for it, first in first out. -/
structure State where
  /-- Shaft time, ms (R1). -/
  time : BitVec 32
  startUp : StartUp
  ports : Bank PortState 4
  svt : Svt
  ftk : Pair Tracker
  gru : Gru
  arb : Arb
  inv : Inv
  tku : Tku
  xfc : Xfc
  mdc : Mdc
  sti : Sti
  pending : List Instr
  deriving DecidableEq, Repr

/-- The reasons the part stops with a fault. It has no constructor: the manual names no event that stops the part
(trips, STRAP_FAULT and FAULT are states of it). -/
inductive Fault where
  deriving DecidableEq, Repr

/-- The reasons a command is turned away by the model. -/
inductive Refusal where
  /-- Raised by an arm of `exec` whose command has no meaning yet; no arm does. Safe. -/
  | notModelled (mnemonic : String)
  deriving DecidableEq, Repr

/-! ### Values at cold reset -/

/-- The winder items of the factory survey (R4). -/
def Winder.factory : Winder :=
  { ab := 1000, tr := 500, vlMax := 500, k := 0, ovr := 0, pl := 5000, rto := 200, ptol := 0, defaultVl := 500,
    defaultLeg := 2 }

/-- The factory survey (R4). -/
def Survey.factory : Survey :=
  { sl := 100000, zl := 5000, he := 100000, fh := 9000, c := 2000, lvt := 50, ldt := 1000, tto := 60, nl := 2,
    le := Bank.ofFn 12 (fun _ => 0), bays := Bank.ofFn 12 (fun _ => 1),
    winder := ⟨Winder.factory, Winder.factory⟩, tableLen := 2,
    table := Bank.ofFn 8 (fun i => if i = 1 then 1 else 0) }

/-- The tuning of a frame with the factory survey (R13). -/
def Tuning.factory : Tuning :=
  { vl := 500, leg := 2, pendingVl := none, pendingLeg := none }

/-- A tracker after cold reset and after LOCKOUT entry (R19, R22). -/
def Tracker.initial : Tracker :=
  { state := .unknown, last := none, count := 0, timer := none, reasons := 0 }

/-- A port after cold reset (R161, R163, R168 to R170) with a given role. -/
def PortState.initial (role : Role) : PortState :=
  { role := role, lineLow := false, rx := .hunt, replies := [], errorCount := 0, errorCause := .none, flags := 0,
    mask := 0, attn := false }

/-- A mass record where the INVENTORY region cannot be read (R84, R179). -/
def Mass.unreadable : Mass :=
  { state := .unaccounted, nominal := 5000, bay := none, frame := none, landing := none, task := none }

/-- A bay record where the INVENTORY region cannot be read (R85, R179). -/
def Bay.unreadable : Bay :=
  { content := none, inService := true, task := none }

/-- A landing record where the INVENTORY region cannot be read (R85, R179). -/
def Landing.unreadable : Landing :=
  { inService := true, late := false, unexpected := false }

/-- INV's state where the INVENTORY region cannot be read (R179). -/
def Inv.unreadable : Inv :=
  { masses := Bank.ofFn 40 (fun _ => Mass.unreadable), bays := Bank.ofFn 40 (fun _ => Bay.unreadable),
    landings := Bank.ofFn 12 (fun _ => Landing.unreadable), verified := false, save := .clean, carriedWaiters := [],
    nextWaiters := [], sRaw := 0, storedKJ := 0 }

/-- A task record whose fields carry no meaning yet (R107). DESIGN CHOICE (log 9). -/
def Task.blank : Task :=
  { tag := 0, mass := 0, source := none, dest := 0, frame := .U, phase := .queued, cancelPending := false,
    reasons := 0, delta := 0, outcome := none }

/-- TKU after cold reset (R106). -/
def Tku.initial : Tku :=
  { tasks := Bank.ofFn 32 (fun _ => Task.blank), free := List.range 32, queues := ⟨[], []⟩, completion := [] }

/-- XFC after cold reset (R130). -/
def Xfc.initial : Xfc :=
  { contexts := ⟨none, none⟩, timedOut := Bank.ofFn 12 (fun _ => false), lastResult := ⟨none, none⟩,
    ldcmd := Bank.ofFn 12 (fun _ => false), ulcmd := Bank.ofFn 12 (fun _ => false) }

/-- STI after cold reset, nothing read yet (R175). -/
def Sti.initial : Sti :=
  { op := .idle, attempts := 0, waiting := ⟨none, none⟩, current := ⟨none, none⟩, generation := ⟨0, 0⟩ }

/-- The part at cold reset, before the straps are sampled, with no command waiting. The survey and the inventory hold
the factory and the unreadable values until start-up has read them (logs 7, 8); STOP_N is released (log 6); the roles
are not sampled yet (log 5). -/
def State.reset : State :=
  { time := 0
    startUp := .straps
    ports := Bank.ofFn 4 (fun _ => PortState.initial .monitor)
    svt := { working := Survey.factory, edit := Survey.factory, state := .unconfigured, saveOutstanding := false,
             tuning := ⟨Tuning.factory, Tuning.factory⟩ }
    ftk := ⟨Tracker.initial, Tracker.initial⟩
    gru := { grants := ⟨none, none⟩, requests := ⟨none, none⟩, lastEnd := ⟨.none, .none⟩, permit := ⟨false, false⟩ }
    arb := { table := [.U, .L], pendingTable := none, pointer := 0, blockedReported := ⟨false, false⟩,
             lastLoser := none }
    inv := Inv.unreadable
    tku := Tku.initial
    xfc := Xfc.initial
    mdc := { mode := .lockout, latch := false, stopN := false, strapFault := false, fault := false }
    sti := Sti.initial
    pending := [] }

end Sys2Proof.Machine
end

