-- ==== Sys2Proof/Machine/Operands.lean ====
section
/-! DEFINITION. Operand and reply forms: little-endian fields, reply items in the widths of R183, the code tables of
12_message_and_image_layouts.md and the status codes of R167. -/

namespace Sys2Proof.Machine

/-! ### Fields -/

/-- The `w` low bytes of a number, low byte first (12, opening). -/
def leBytes : Nat → Nat → List Byte
  | 0, _ => []
  | w + 1, n => BitVec.ofNat 8 n :: leBytes w (n / 256)

/-- The number that little-endian bytes spell. -/
def leNat : List Byte → Nat
  | [] => 0
  | b :: bs => b.toNat + 256 * leNat bs

/-- A one-byte item. -/
def u8 (n : Nat) : List Byte :=
  leBytes 1 n

/-- A two-byte item. -/
def u16 (n : Nat) : List Byte :=
  leBytes 2 n

/-- A four-byte item. -/
def u32 (n : Nat) : List Byte :=
  leBytes 4 n

/-- An eight-byte item. -/
def u64 (n : Nat) : List Byte :=
  leBytes 8 n

/-- A signed item of `w` bytes, two's complement. -/
def signed (w : Nat) (z : Int) : List Byte :=
  leBytes w (z % (256 : Int) ^ w).toNat

/-- An indication with two values (R183). -/
def indication (b : Bool) : List Byte :=
  [if b then 1 else 0]

/-- An item or group that may be absent (R183): a presence byte, then the item, or zeros in its full width. -/
def optionalItem (width : Nat) (x : Option (List Byte)) : List Byte :=
  match x with
  | some bytes => 1 :: bytes
  | none => 0 :: List.replicate width 0

/-- A field "absent as 0xFF" (12). -/
def absentFF (x : Option Nat) : List Byte :=
  u8 (x.getD 0xFF)

/-! ### Codes (12, "Codes") -/

def frameCode : Frame → Nat
  | .U => 0
  | .L => 1

/-- The frame of a code, none for a code the table does not define. -/
def frameOfCode (n : Nat) : Option Frame :=
  if n = 0 then some .U else if n = 1 then some .L else none

def massStateCode : MassState → Nat
  | .absent => 0
  | .stored => 1
  | .carried => 2
  | .inTransfer => 3
  | .unaccounted => 4

/-- The mass state of a code, none for a code the table does not define. -/
def massStateOfCode (n : Nat) : Option MassState :=
  [MassState.absent, .stored, .carried, .inTransfer, .unaccounted][n]?

def phaseCode : Phase → Nat
  | .queued => 0
  | .toPickup => 1
  | .loading => 2
  | .toDrop => 3
  | .unloading => 4
  | .done => 5
  | .failed => 6
  | .cancelled => 7

def endReasonCode : EndReason → Nat
  | .none => 0
  | .arrived => 1
  | .released => 2
  | .yield => 3
  | .cleared => 4

def trackingCode : Tracking → Nat
  | .unknown => 0
  | .tracked => 1
  | .stale => 2
  | .tripped => 3

def modeCode : Mode → Nat
  | .run => 0
  | .hold => 1
  | .lockout => 2

def surveyStateCode : SurveyState → Nat
  | .unconfigured => 0
  | .valid => 1
  | .edited => 2

/-- The inventory state in replies and in the INVENTORY body: 0 UNVERIFIED, 1 VERIFIED. -/
def verifiedCode (verified : Bool) : Nat :=
  if verified then 1 else 0

def saveStateCode : SaveState → Nat
  | .clean => 0
  | .writing => 1
  | .writingDirty => 2
  | .notSaved => 3

def roleCode : Role → Nat
  | .monitor => 0
  | .winderU => 1
  | .winderL => 2
  | .dispatch => 3

def dirCode : Dir → Nat
  | .up => 0
  | .down => 1

def kindCode : Kind → Nat
  | .load => 0
  | .unload => 1

/-- The transfer phase in READ_STATUS: 0 for an IDLE context. -/
def xphaseCode : Option XPhase → Nat
  | none => 0
  | some .committing => 1
  | some .gearRunning => 2
  | some .abandoning => 3
  | some .verifying => 4
  | some .finishing => 5

def xoutcomeCode : XOutcome → Nat
  | .completed => 0
  | .abandoned => 1
  | .failed => 2

def causeCode : Cause → Nat
  | .none => 0
  | .storeFault => 1
  | .stop => 2
  | .brakeReleased => 3
  | .transferFault => 4
  | .transferTimeout => 5
  | .transferAbort => 6
  | .loadMismatch => 7

/-- The last deadlock loser: 0xFF for NONE. -/
def loserCode : Option Frame → Nat
  | none => 0xFF
  | some f => frameCode f

def linkCauseCode : LinkCause → Nat
  | .none => 0
  | .length => 1
  | .crc => 2
  | .gap => 3
  | .overflow => 4

/-! ### Status codes (R167) -/

inductive Status where
  | ok | pending | role | mode | busy | range | unknownRequest | notTracked | noTravel | travelActive | notAtLanding
  | notBraked | noTask | landing | zoneBusy | poolEmpty | mass | bay | frame | limit | committed | empty | stopActive
  | stopLatched | unverified | invalid | inventory | overlap | storeFault | implausible | starting | strapFault
  deriving DecidableEq, Repr

/-- The status byte. -/
def Status.code : Status → Byte
  | .ok => 0x00
  | .pending => 0x01
  | .role => 0x10
  | .mode => 0x11
  | .busy => 0x12
  | .range => 0x13
  | .unknownRequest => 0x14
  | .notTracked => 0x15
  | .noTravel => 0x16
  | .travelActive => 0x17
  | .notAtLanding => 0x18
  | .notBraked => 0x19
  | .noTask => 0x1A
  | .landing => 0x1B
  | .zoneBusy => 0x1C
  | .poolEmpty => 0x1D
  | .mass => 0x1E
  | .bay => 0x1F
  | .frame => 0x20
  | .limit => 0x21
  | .committed => 0x22
  | .empty => 0x23
  | .stopActive => 0x24
  | .stopLatched => 0x25
  | .unverified => 0x26
  | .invalid => 0x27
  | .inventory => 0x28
  | .overlap => 0x29
  | .storeFault => 0x2A
  | .implausible => 0x2B
  | .starting => 0x2C
  | .strapFault => 0x2D

/-! ### Sets of trip reasons and task reasons (12, "Codes") -/

/-- The trip reasons of 02, "Trips". -/
inductive TripReason where
  | overlap | implausible | overload | overspeed | trespass | brakeReleased | loadMismatch | transferFault
  | transferTimeout | transferAbort
  deriving DecidableEq, Repr

/-- The set of one trip reason. -/
def TripReason.bit : TripReason → BitVec 16
  | .overlap => 0x0001
  | .implausible => 0x0002
  | .overload => 0x0004
  | .overspeed => 0x0008
  | .trespass => 0x0010
  | .brakeReleased => 0x0020
  | .loadMismatch => 0x0040
  | .transferFault => 0x0080
  | .transferTimeout => 0x0100
  | .transferAbort => 0x0200

/-- The task reasons of R105. -/
inductive TaskReason where
  | cancelled | lockout | transferFault | transferTimeout | transferAbort | brakeReleased | loadMismatch
  deriving DecidableEq, Repr

/-- The set of one task reason. -/
def TaskReason.bit : TaskReason → BitVec 16
  | .cancelled => 0x0001
  | .lockout => 0x0002
  | .transferFault => 0x0004
  | .transferTimeout => 0x0008
  | .transferAbort => 0x0010
  | .brakeReleased => 0x0020
  | .loadMismatch => 0x0040

end Sys2Proof.Machine
end

