-- ==== Sys2Proof/Machine/Ops.lean ====
section
/-! DEFINITION. The named accesses to the state: reading a record, replacing a record. Every meaning reads and writes
through these, so that Laws/State.lean can say once what each leaves alone. -/

namespace Sys2Proof.Machine

/-! ### Reading -/

/-- The state of a port. -/
def State.port (s : State) (p : PortId) : PortState :=
  s.ports.getD p.val (PortState.initial .monitor)

/-- The tracker of a frame. -/
def State.tracker (s : State) (f : Frame) : Tracker :=
  s.ftk.get f

/-- The last accepted report of a frame. -/
def State.lastReport (s : State) (f : Frame) : Option Report :=
  (s.ftk.get f).last

/-- The grant of a frame (R47). -/
def State.grant (s : State) (f : Frame) : Option Run :=
  s.gru.grants.get f

/-- The travel request of a frame (R48). -/
def State.request (s : State) (f : Frame) : Option Travel :=
  s.gru.requests.get f

/-- The transfer of a frame's context, none when it is IDLE (R130). -/
def State.transfer (s : State) (f : Frame) : Option Transfer :=
  s.xfc.contexts.get f

/-- The frame has a transfer in flight (R130). -/
def State.inFlight (s : State) (f : Frame) : Bool :=
  (s.transfer f).isSome

/-- The mass record of an id 1 to 40 (R84); the unreadable record for any other number. -/
def State.mass (s : State) (id : Nat) : Mass :=
  if id = 0 then Mass.unreadable else s.inv.masses.getD (id - 1) Mass.unreadable

/-- The bay record of a bay number (R85). -/
def State.bay (s : State) (b : Nat) : Bay :=
  s.inv.bays.getD b Bay.unreadable

/-- The landing record of a landing index (R85). -/
def State.landing (s : State) (k : Nat) : Landing :=
  s.inv.landings.getD k Landing.unreadable

/-- The task record of an id (R105). -/
def State.task (s : State) (id : Nat) : Task :=
  s.tku.tasks.getD id Task.blank

/-- The head of a frame's queue (R108). -/
def State.head (s : State) (f : Frame) : Option Nat :=
  (s.tku.queues.get f).head?

/-! ### Replacing -/

/-- Replace the state of a port. -/
def State.setPort (s : State) (p : PortId) (x : PortState) : State :=
  { s with ports := s.ports.set p.val x }

/-- Replace the tracker of a frame. -/
def State.setTracker (s : State) (f : Frame) (t : Tracker) : State :=
  { s with ftk := s.ftk.set f t }

/-- Replace SVT's state. -/
def State.setSvt (s : State) (x : Svt) : State :=
  { s with svt := x }

/-- Replace GRU's state. -/
def State.setGru (s : State) (x : Gru) : State :=
  { s with gru := x }

/-- Replace the grant of a frame. -/
def State.setGrant (s : State) (f : Frame) (g : Option Run) : State :=
  s.setGru { s.gru with grants := s.gru.grants.set f g }

/-- Replace the travel request of a frame. -/
def State.setRequest (s : State) (f : Frame) (r : Option Travel) : State :=
  s.setGru { s.gru with requests := s.gru.requests.set f r }

/-- Replace ARB's state. -/
def State.setArb (s : State) (x : Arb) : State :=
  { s with arb := x }

/-- Set the blocked-reported indication of a frame. -/
def State.setBlocked (s : State) (f : Frame) (b : Bool) : State :=
  s.setArb { s.arb with blockedReported := s.arb.blockedReported.set f b }

/-- Replace INV's state. -/
def State.setInv (s : State) (x : Inv) : State :=
  { s with inv := x }

/-- Replace a bay record. -/
def State.setBay (s : State) (b : Nat) (x : Bay) : State :=
  s.setInv { s.inv with bays := s.inv.bays.set b x }

/-- Replace a landing record. -/
def State.setLanding (s : State) (k : Nat) (x : Landing) : State :=
  s.setInv { s.inv with landings := s.inv.landings.set k x }

/-- Replace TKU's state. -/
def State.setTku (s : State) (x : Tku) : State :=
  { s with tku := x }

/-- Replace a task record. -/
def State.setTask (s : State) (id : Nat) (x : Task) : State :=
  s.setTku { s.tku with tasks := s.tku.tasks.set id x }

/-- Replace XFC's state. -/
def State.setXfc (s : State) (x : Xfc) : State :=
  { s with xfc := x }

/-- Replace the context of a frame. -/
def State.setTransfer (s : State) (f : Frame) (x : Option Transfer) : State :=
  s.setXfc { s.xfc with contexts := s.xfc.contexts.set f x }

/-- Replace MDC's state. -/
def State.setMdc (s : State) (x : Mdc) : State :=
  { s with mdc := x }

/-- Replace STI's state. -/
def State.setSti (s : State) (x : Sti) : State :=
  { s with sti := x }

end Sys2Proof.Machine
end

