-- ==== Sys2Proof/Machine/Survey.lean ====
section
/-! DEFINITION. The survey: its items and their ranges (R4), its derived quantities (R5) and its validation (R8, R9). -/

namespace Sys2Proof.Machine

/-- ceil(x / y), for a positive y (00_scope.md, "Numbers and arithmetic"). -/
def ceilDiv (x y : Nat) : Nat :=
  (x + y - 1) / y

/-! ### Derived quantities (R5) -/

/-- NZ, the zone count. -/
def Survey.nz (sv : Survey) : Nat :=
  ceilDiv sv.sl sv.zl

/-- zone(x), the zone of an elevation. -/
def Survey.zoneOf (sv : Survey) (x : Nat) : Nat :=
  min (x / sv.zl) (sv.nz - 1)

/-- LE_k, the floor elevation of landing k. -/
def Survey.floor (sv : Survey) (k : Nat) : Nat :=
  sv.le.getD k 0

/-- The bay counts of the landings in the shaft. -/
def Survey.bayCounts (sv : Survey) : List Nat :=
  sv.bays.toList.take sv.nl

/-- NB, the bay count. -/
def Survey.nb (sv : Survey) : Nat :=
  sv.bayCounts.sum

/-- The landing and the position of the `b`-th bay of landings with these counts, the first of them being landing k. -/
def bayPlace : List Nat → Nat → Nat → Option (Nat × Nat)
  | [], _, _ => none
  | c :: cs, k, b => if b < c then some (k, b) else bayPlace cs (k + 1) (b - c)

/-- The identity (k, j) of bay b in this layout. -/
def Survey.bayIdentity (sv : Survey) (b : Nat) : Option (Nat × Nat) :=
  bayPlace sv.bayCounts 0 b

/-- The landing of bay b in this layout. -/
def Survey.landingOf (sv : Survey) (b : Nat) : Option Nat :=
  (sv.bayIdentity b).map Prod.fst

/-- The first bay number of landing k in this layout. -/
def Survey.firstBay (sv : Survey) (k : Nat) : Nat :=
  (sv.bayCounts.take k).sum

/-- The bay with identity (k, j) in this layout. -/
def Survey.bayOf (sv : Survey) (k j : Nat) : Option Nat :=
  match sv.bayCounts[k]? with
  | some c => if j < c then some (sv.firstBay k + j) else none
  | none => none

/-- The frame a service-table entry names: 0 is U and 1 is L (R4). The manual gives no other value a frame, so which of
the two it names is free (log 44, DESIGN CHOICE). -/
def entryFrame (n : Nat) : Frame :=
  if n = 0 then .U
  else if n = 1 then .L
  else if Config.entryNamesL n then .L else .U

@[simp] theorem entryFrame_zero : entryFrame 0 = .U := rfl

@[simp] theorem entryFrame_one : entryFrame 1 = .L := rfl

/-- The default service table: the first "length" entries. -/
def Survey.defaultTable (sv : Survey) : List Frame :=
  (sv.table.toList.take sv.tableLen).map entryFrame

/-- The transfer timer's setting in milliseconds. -/
def Survey.transferTime (sv : Survey) : Nat :=
  sv.tto * 1000

/-! ### Items (R4) -/

/-- How many indices an item has: 1 for an item without an index, 12 for a landing item, 2 for a winder item, 8 for a
service-table entry; none for a code R4 does not list. -/
def itemIndices (code : Nat) : Option Nat :=
  match code with
  | 0x01 => some 1
  | 0x02 => some 1
  | 0x03 => some 1
  | 0x04 => some 1
  | 0x05 => some 1
  | 0x06 => some 1
  | 0x07 => some 1
  | 0x08 => some 1
  | 0x09 => some 1
  | 0x0A => some 1
  | 0x0B => some 1
  | 0x10 => some 12
  | 0x11 => some 12
  | 0x20 => some 2
  | 0x21 => some 2
  | 0x22 => some 2
  | 0x23 => some 2
  | 0x24 => some 2
  | 0x25 => some 2
  | 0x26 => some 2
  | 0x27 => some 2
  | 0x28 => some 2
  | 0x29 => some 2
  | 0x30 => some 1
  | 0x31 => some 8
  | _ => none

/-- The range SET_SURVEY_ITEM accepts; none for a read-only item and for a code R4 does not list. -/
def itemRange (code : Nat) : Option (Nat × Nat) :=
  match code with
  | 0x01 => some (50000, 1500000)
  | 0x02 => some (1000, 20000)
  | 0x03 => some (50000, 1600000)
  | 0x04 => some (2000, 20000)
  | 0x05 => some (500, 20000)
  | 0x06 => some (10, 500)
  | 0x07 => some (100, 5000)
  | 0x08 => some (5, 300)
  | 0x09 => some (2, 12)
  | 0x10 => some (0, 1500000)
  | 0x11 => some (1, 4)
  | 0x20 => some (200, 6000)
  | 0x21 => some (0, 2000)
  | 0x22 => some (500, 20000)
  | 0x23 => some (0, 200)
  | 0x24 => some (0, 10000)
  | 0x25 => some (5000, 60000)
  | 0x26 => some (50, 1000)
  | 0x27 => some (0, 2000)
  | 0x28 => some (500, 20000)
  | 0x29 => some (2, 64)
  | 0x30 => some (1, 8)
  | 0x31 => some (0, 1)
  | _ => none

/-- The value of a winder item. -/
def Winder.item (w : Winder) (code : Nat) : Nat :=
  match code with
  | 0x20 => w.ab
  | 0x21 => w.tr
  | 0x22 => w.vlMax
  | 0x23 => w.k
  | 0x24 => w.ovr
  | 0x25 => w.pl
  | 0x26 => w.rto
  | 0x27 => w.ptol
  | 0x28 => w.defaultVl
  | 0x29 => w.defaultLeg
  | _ => 0

/-- The winder items with one replaced. -/
def Winder.setItem (w : Winder) (code value : Nat) : Winder :=
  match code with
  | 0x20 => { w with ab := value }
  | 0x21 => { w with tr := value }
  | 0x22 => { w with vlMax := value }
  | 0x23 => { w with k := value }
  | 0x24 => { w with ovr := value }
  | 0x25 => { w with pl := value }
  | 0x26 => { w with rto := value }
  | 0x27 => { w with ptol := value }
  | 0x28 => { w with defaultVl := value }
  | 0x29 => { w with defaultLeg := value }
  | _ => w

/-- The frame of a winder item's index. -/
def indexFrame (index : Nat) : Frame :=
  if index = 0 then .U else .L

/-- The value of an item, NZ and NB derived from this copy; 0 for a code R4 does not list. -/
def Survey.item (sv : Survey) (code index : Nat) : Nat :=
  match code with
  | 0x01 => sv.sl
  | 0x02 => sv.zl
  | 0x03 => sv.he
  | 0x04 => sv.fh
  | 0x05 => sv.c
  | 0x06 => sv.lvt
  | 0x07 => sv.ldt
  | 0x08 => sv.tto
  | 0x09 => sv.nl
  | 0x0A => sv.nz
  | 0x0B => sv.nb
  | 0x10 => sv.le.getD index 0
  | 0x11 => sv.bays.getD index 0
  | 0x30 => sv.tableLen
  | 0x31 => sv.table.getD index 0
  | c => (sv.winder.get (indexFrame index)).item c

/-- The survey with an item replaced. -/
def Survey.setItem (sv : Survey) (code index value : Nat) : Survey :=
  match code with
  | 0x01 => { sv with sl := value }
  | 0x02 => { sv with zl := value }
  | 0x03 => { sv with he := value }
  | 0x04 => { sv with fh := value }
  | 0x05 => { sv with c := value }
  | 0x06 => { sv with lvt := value }
  | 0x07 => { sv with ldt := value }
  | 0x08 => { sv with tto := value }
  | 0x09 => { sv with nl := value }
  | 0x10 => { sv with le := sv.le.set index value }
  | 0x11 => { sv with bays := sv.bays.set index value }
  | 0x30 => { sv with tableLen := value }
  | 0x31 => { sv with table := sv.table.set index value }
  | c => { sv with winder := sv.winder.set (indexFrame index) ((sv.winder.get (indexFrame index)).setItem c value) }

/-- The item's index lies in its range, and so does the value (R6, fourth check). -/
def itemAccepts (code index value : Nat) : Bool :=
  match itemIndices code, itemRange code with
  | some n, some (lo, hi) => decide (index < n) && decide (lo ≤ value) && decide (value ≤ hi)
  | _, _ => false

/-- Every item code of R4 with its index, but for the derived items. -/
def itemList : List (Nat × Nat) :=
  [(0x01, 0), (0x02, 0), (0x03, 0), (0x04, 0), (0x05, 0), (0x06, 0), (0x07, 0), (0x08, 0), (0x09, 0)] ++
  (List.range 12).map (fun k => (0x10, k)) ++ (List.range 12).map (fun k => (0x11, k)) ++
  (List.range 2).flatMap (fun f => (List.range 10).map (fun i => (0x20 + i, f))) ++ [(0x30, 0)]

/-- Every item of a survey lies in its range of R4; a service-table entry beyond the length may hold any value
(R184). -/
def Survey.inRange (sv : Survey) : Bool :=
  itemList.all (fun ci => itemAccepts ci.1 ci.2 (sv.item ci.1 ci.2)) &&
    (List.range sv.tableLen).all (fun i => itemAccepts 0x31 i (sv.item 0x31 i))

/-! ### Validation (R8, R9) -/

/-- The landings k with 1 ≤ k < NL. -/
def Survey.upperLandings (sv : Survey) : List Nat :=
  (List.range sv.nl).filter (fun k => 1 ≤ k)

/-- Check 1, ZONE_COUNT. -/
def checkZoneCount (sv : Survey) : Option (Nat × Nat) :=
  if sv.nz < 8 ∨ sv.nz > 256 then some (1, 0) else none

/-- Check 2, HEAD_ELEVATION. -/
def checkHeadElevation (sv : Survey) : Option (Nat × Nat) :=
  if sv.he < sv.sl ∨ sv.he > sv.sl + 100000 then some (2, 0) else none

/-- Check 3, LANDING_HEIGHT. -/
def checkLandingHeight (sv : Survey) : Option (Nat × Nat) :=
  ((List.range sv.nl).find? (fun k => sv.floor k + sv.fh > sv.sl)).map (fun k => (3, k))

/-- Check 4, LANDING_ORDER. -/
def checkLandingOrder (sv : Survey) : Option (Nat × Nat) :=
  (sv.upperLandings.find? (fun k => sv.floor k ≤ sv.floor (k - 1))).map (fun k => (4, k))

/-- Check 5, LANDING_SPACING. -/
def checkLandingSpacing (sv : Survey) : Option (Nat × Nat) :=
  (sv.upperLandings.find? (fun k => sv.floor k < sv.floor (k - 1) + sv.fh)).map (fun k => (5, k))

/-- Check 6, LANDING_ZONE. -/
def checkLandingZone (sv : Survey) : Option (Nat × Nat) :=
  (sv.upperLandings.find? (fun k => sv.zoneOf (sv.floor k) = sv.zoneOf (sv.floor (k - 1)))).map (fun k => (6, k))

/-- Check 7, BAY_COUNT. -/
def checkBayCount (sv : Survey) : Option (Nat × Nat) :=
  if sv.nb > 40 then some (7, 0) else none

/-- Check 8, DEFAULT_VL, U before L. -/
def checkDefaultVl (sv : Survey) : Option (Nat × Nat) :=
  ([Frame.U, .L].find? (fun f => (sv.winder.get f).defaultVl > (sv.winder.get f).vlMax)).map
    (fun f => (8, frameCode f))

/-- Checks 1 to 8 in order: the code and index of the first that fails. -/
def Survey.shapeCheck (sv : Survey) : Option (Nat × Nat) :=
  [checkZoneCount sv, checkHeadElevation sv, checkLandingHeight sv, checkLandingOrder sv, checkLandingSpacing sv,
    checkLandingZone sv, checkBayCount sv, checkDefaultVl sv].findSome? id

/-- The mass ids, 1 to 40, in order. -/
def massIds : List Nat :=
  (List.range 40).map (· + 1)

/-- The mass's record names a bay (R86): STORED or IN_TRANSFER with a bay. -/
def Mass.namedBay (r : Mass) : Option Nat :=
  if r.state = .stored ∨ r.state = .inTransfer then r.bay else none

/-- The mass's record names a frame (R86): CARRIED or IN_TRANSFER with a frame. -/
def Mass.namedFrame (r : Mass) : Option Frame :=
  if r.state = .carried ∨ r.state = .inTransfer then r.frame else none

/-- LANDING_IN_USE fails for a record (R9). -/
def landingInUse (edit : Survey) (r : Mass) : Bool :=
  r.state == .carried && (match r.landing with
    | some k => decide (edit.nl ≤ k)
    | none => false)

/-- BAY_IN_USE fails for a record (R9). -/
def bayInUse (state : SurveyState) (working edit : Survey) (r : Mass) : Bool :=
  match r.namedBay with
  | some b =>
      if state = .unconfigured then decide (edit.nb ≤ b)
      else (edit.bayIdentity b).isNone || edit.bayIdentity b != working.bayIdentity b
  | none => false

/-- Checks 9 and 10, against the records INV holds (R9). -/
def inventoryCheck (s : State) : Option (Nat × Nat) :=
  [(massIds.find? (fun id => landingInUse s.svt.edit (s.mass id))).map (fun id => (9, id)),
   (massIds.find? (fun id => bayInUse s.svt.state s.svt.working s.svt.edit (s.mass id))).map (fun id => (10, id))].findSome? id

end Sys2Proof.Machine
end

