-- ==== Sys2Proof/Machine/Envelope.lean ====
section
/-! DEFINITION. ENV, the Envelope Calculator (03_the_stopping_envelope.md): stopping distance, rope allowance, report
envelope, target window and rest envelope. It keeps nothing (R36); it works on whole numbers without a width, since no
intermediate reaches the 64-bit limit (R45). -/

namespace Sys2Proof.Machine

/-- Stage 1, the stopping distance d (R38). -/
def stoppingDistance (w : Winder) (v : Int) : Nat :=
  ceilDiv (v.natAbs * v.natAbs) (2 * w.ab) + ceilDiv (v.natAbs * w.tr) 1000

/-- The hanging length HE − x, taken as 0 where it would be below 0 (R37). -/
def hangingLength (sv : Survey) (x : Int) : Nat :=
  ((sv.he : Int) - x).toNat

/-- Stage 2, the rope allowance s at elevation x with payload m (R39). -/
def ropeAllowance (sv : Survey) (w : Winder) (x : Int) (m : Nat) : Nat :=
  ceilDiv (hangingLength sv x * m * w.k) 1000000000

/-- The clamp of stage 4 into 0 to SL (R41). -/
def clampShaft (sv : Survey) (x : Int) : Nat :=
  min x.toNat sv.sl

/-- Stages 4 and 5: the zone run of a frame whose deck is at x, reaching `down` below the deck and `up` above the top
(R41, R42). -/
def reachZones (sv : Survey) (x : Int) (down up : Nat) : Run :=
  { lo := sv.zoneOf (clampShaft sv (x - (down : Int)))
    hi := sv.zoneOf (clampShaft sv (x + (sv.fh : Int) + (up : Int))) }

/-- The extents of stage 3 (R40): below the deck and above the top. -/
def extents (sv : Survey) (w : Winder) (x : Int) (v : Int) (m : Nat) : Nat × Nat :=
  let s := ropeAllowance sv w x m
  let d := stoppingDistance w v
  (sv.c + s + (if v < 0 then d else 0), sv.c + s + (if 0 < v then d else 0))

/-- The report envelope of frame f (R36, R38 to R42). -/
def envelope (sv : Survey) (f : Frame) (x : Int) (v : Int) (m : Nat) : Run :=
  let e := extents sv (sv.winder.get f) x v m
  reachZones sv x e.1 e.2

/-- The rest envelope of frame f at x with payload m (R44). -/
def restEnvelope (sv : Survey) (f : Frame) (x : Int) (m : Nat) : Run :=
  envelope sv f x 0 m

/-- The target window of frame f for target T in a direction with payload m (R43). -/
def targetWindow (sv : Survey) (f : Frame) (t : Travel) (m : Nat) : Run :=
  let w := sv.winder.get f
  let s := ropeAllowance sv w t.target m
  match t.dir with
  | .up => reachZones sv t.target (sv.c + s) (sv.c + s + w.ovr)
  | .down => reachZones sv t.target (sv.c + s + w.ovr) (sv.c + s)

/-- The envelope of a report of frame f under the working survey. -/
def reportEnvelope (s : State) (f : Frame) (r : Report) : Run :=
  envelope s.svt.working f r.e r.v r.m

/-- The envelope E of frame f's last accepted report, where there is one. -/
def lastEnvelope (s : State) (f : Frame) : Option Run :=
  (s.lastReport f).map (reportEnvelope s f)

/-- A report at rest (R29). -/
def Report.atRest (r : Report) : Bool :=
  decide (r.v.natAbs ≤ Config.restV)

/-- The frame is at rest by its last accepted report (R29). -/
def frameAtRest (s : State) (f : Frame) : Bool :=
  match s.lastReport f with
  | some r => r.atRest
  | none => false

/-- The distance between two elevations. -/
def apart (a b : Nat) : Nat :=
  (a - b) + (b - a)

/-- The landing a frame is at, if any (R29). -/
def frameLanding (s : State) (f : Frame) : Option Nat :=
  if (s.tracker f).state = .tracked then
    match s.lastReport f with
    | some r =>
        if r.atRest then
          (List.range s.svt.working.nl).find? (fun k => apart r.e (s.svt.working.floor k) ≤ s.svt.working.lvt)
        else none
    | none => none
  else none

end Sys2Proof.Machine
end

