-- ==== Sys2Proof/Machine/Flags.lean ====
section
/-! DEFINITION. The event flags (R169), their raising, and the output lines the part drives from its state: ATTN
(R170), PERMIT (R67), FAULT (R158) and the gear commands (R131). -/

namespace Sys2Proof.Machine

/-- The event flags of R169. -/
inductive Event where
  | modeChanged | frameState | blocked | linkError | grantChanged | requestEnded | taskChanged | transferEnded
  | completionReady | deadlock | storeFault | stopSeen | inventoryState | gearUnexpected
  deriving DecidableEq, Repr

/-- The set of one flag: bit i for flag number i (R169, R182). -/
def Event.bit : Event → BitVec 16
  | .modeChanged => 0x0001
  | .frameState => 0x0002
  | .blocked => 0x0004
  | .linkError => 0x0008
  | .grantChanged => 0x0010
  | .requestEnded => 0x0020
  | .taskChanged => 0x0040
  | .transferEnded => 0x0080
  | .completionReady => 0x0100
  | .deadlock => 0x0200
  | .storeFault => 0x0400
  | .stopSeen => 0x0800
  | .inventoryState => 0x1000
  | .gearUnexpected => 0x2000

/-- The flags of a role (R169). -/
def roleFlags : Role → BitVec 16
  | .winderU => 0x00FF
  | .winderL => 0x00FF
  | .dispatch => 0x3F0F
  | .monitor => 0x3F0F

/-- The role of frame f's winder port (R159). -/
def winderRole : Frame → Role
  | .U => .winderU
  | .L => .winderL

/-- The frame that a winder role serves (R159). -/
def roleFrame : Role → Option Frame
  | .winderU => some .U
  | .winderL => some .L
  | _ => none

/-- The roles of "dispatch and monitor". -/
def isWatcher : Role → Bool
  | .dispatch => true
  | .monitor => true
  | _ => false

/-- Set a flag of one port; a flag already set stays set (R169). -/
def PortState.raise (e : Event) (x : PortState) : PortState :=
  { x with flags := x.flags ||| e.bit }

/-- Raise an event on every port whose role is among those given. -/
def State.raiseOn (s : State) (who : Role → Bool) (e : Event) : State :=
  { s with ports := s.ports.map (fun x => if who x.role then x.raise e else x) }

/-- Raise an event on frame f's winder port. -/
def State.raiseWinder (s : State) (f : Frame) (e : Event) : State :=
  s.raiseOn (fun r => r == winderRole f) e

/-- Raise an event to dispatch and monitor. -/
def State.raiseWatchers (s : State) (e : Event) : State :=
  s.raiseOn isWatcher e

/-- Raise an event on every port. -/
def State.raiseAll (s : State) (e : Event) : State :=
  s.raiseOn (fun _ => true) e

/-- Raise an event on frame f's winder port and to dispatch and monitor. -/
def State.raiseFrame (s : State) (f : Frame) (e : Event) : State :=
  s.raiseOn (fun r => r == winderRole f || isWatcher r) e

/-! ### Output lines -/

/-- The value of PERMIT_f (R67). -/
def permitLine (s : State) (f : Frame) : Bool :=
  s.mdc.mode == .run && !s.mdc.stopN && !s.mdc.latch && (s.tracker f).state == .tracked && !s.inFlight f

/-- The SURVEY image has been read, or strap fault has ended start-up (R178): from here the survey condition of FAULT
counts (log 7). -/
def surveySettled (s : State) : Bool :=
  s.mdc.strapFault || (s.startUp == .inventoryRead || s.startUp == .ended)

/-- The value of FAULT (R158). -/
def faultLine (s : State) : Bool :=
  s.mdc.strapFault || (surveySettled s && s.svt.state == .unconfigured) ||
    (s.tracker .U).state == .tripped || (s.tracker .L).state == .tripped

/-- A transfer commands the gear of landing k with this kind (R131). -/
def commandsGear (kind : Kind) (k : Nat) (x : Option Transfer) : Bool :=
  match x with
  | some t => t.phase == .gearRunning && t.kind == kind && t.landing == k
  | none => false

/-- The value of a gear command output of landing k: LDCMD_k for a load, ULCMD_k for an unload (R131). -/
def gearLine (s : State) (kind : Kind) (k : Nat) : Bool :=
  commandsGear kind k (s.transfer .U) || commandsGear kind k (s.transfer .L)

/-- The value of a port's ATTN line (R170). -/
def attnLine (x : PortState) : Bool :=
  x.flags &&& x.mask != 0

/-- Every output line takes the value its conditions give (R67, R131, R158, R170). Each event that changes a condition
ends with it. -/
def State.drive (s : State) : State :=
  { s with
    ports := s.ports.map (fun x => { x with attn := attnLine x })
    gru := { s.gru with permit := ⟨permitLine s .U, permitLine s .L⟩ }
    mdc := { s.mdc with fault := faultLine s }
    xfc := { s.xfc with
      ldcmd := Bank.ofFn 12 (gearLine s .load)
      ulcmd := Bank.ofFn 12 (gearLine s .unload) } }

end Sys2Proof.Machine
end

