-- ==== Sys2Proof/Machine/Grants.lean ====
section
/-! DEFINITION. GRU, the Grant Unit (04_travel_grants.md): the zone table read from the two grants, demand, trim and
clearance, with the taking over of pending tuning that a clearance performs (R17). -/

namespace Sys2Proof.Machine

/-! ### Zones -/

/-- The zones of a run, from its lower end upward. -/
def Run.zones (r : Run) : List Nat :=
  (List.range (r.hi + 1 - r.lo)).map (r.lo + ·)

/-- The zone lies in the run. -/
def Run.has (r : Run) (z : Nat) : Bool :=
  decide (r.lo ≤ z) && decide (z ≤ r.hi)

/-- The zone lies in a grant. -/
def grantHas (g : Option Run) (z : Nat) : Bool :=
  match g with
  | some r => r.has z
  | none => false

/-- The entry of a zone in the zone table: U, L, or none for FREE (R46, R47). -/
def zoneOwner (s : State) (z : Nat) : Option Frame :=
  if grantHas (s.grant .U) z then some .U else if grantHas (s.grant .L) z then some .L else none

/-- The zone's entry is FREE. -/
def zoneFree (s : State) (z : Nat) : Bool :=
  (zoneOwner s z).isNone

/-- The zone's entry is FREE or is frame f. -/
def zoneFreeOrOwn (s : State) (f : Frame) (z : Nat) : Bool :=
  zoneOwner s z != some f.other

/-- A run lies wholly on frame f's own side of the other frame's grant (R20, R156). -/
def ownSide (s : State) (f : Frame) (r : Run) : Bool :=
  match s.grant f.other, f with
  | none, _ => true
  | some g, .U => decide (g.hi < r.lo)
  | some g, .L => decide (r.hi < g.lo)

/-- A run lies within a grant (R57). -/
def Run.within (r : Run) (g : Option Run) : Bool :=
  match g with
  | some g => decide (g.lo ≤ r.lo) && decide (r.hi ≤ g.hi)
  | none => false

/-- The smallest run that contains both. -/
def Run.hull (a b : Run) : Run :=
  ⟨min a.lo b.lo, max a.hi b.hi⟩

/-- The part of a run that lies within the grant it is cut from: a trim removes zones and adds none (R58). Where
nothing would be left the grant stays (log 13). -/
def Run.clip (g t : Run) : Run :=
  if max g.lo t.lo ≤ min g.hi t.hi then ⟨max g.lo t.lo, min g.hi t.hi⟩ else g

/-! ### Demand (R49) -/

/-- The demand of frame f, where it has one. -/
def demand (s : State) (f : Frame) : Option Run :=
  match s.request f, s.grant f, s.lastReport f with
  | some t, some g, some r =>
      let e := reportEnvelope s f r
      let w := targetWindow s.svt.working f t r.m
      let leg := (s.svt.tuning.get f).leg
      match t.dir with
      | .up =>
          let hi := min w.hi (e.hi + leg)
          if g.hi + 1 ≤ hi then some ⟨g.hi + 1, hi⟩ else none
      | .down =>
          let lo := max w.lo (e.lo - leg)
          if lo < g.lo then some ⟨lo, g.lo - 1⟩ else none
  | _, _, _ => none

/-- The direction toward the other frame (R72). -/
def towardOther : Frame → Dir
  | .U => .down
  | .L => .up

/-- Frame f has a demand toward the other frame. -/
def demandsToward (s : State) (f : Frame) : Bool :=
  (demand s f).isSome && (match s.request f with
    | some t => t.dir == towardOther f
    | none => false)

/-! ### Trim (R51, R58) -/

/-- The run a trim cuts the grant back to, by the request in force (R58). -/
def trimTarget (sv : Survey) (f : Frame) (e : Run) (m : Nat) : Option Travel → Run
  | none => e
  | some t =>
      let w := targetWindow sv f t m
      match t.dir with
      | .up => ⟨e.lo, max e.hi w.hi⟩
      | .down => ⟨min e.lo w.lo, e.hi⟩

/-- A trim from `g` to `n` removes a zone that is not behind the frame (R51): with no request no zone is behind, with a
request up the zones below are, with a request down the zones above. -/
def removesAhead (force : Option Dir) (g n : Run) : Bool :=
  match force with
  | none => n != g
  | some .up => n.hi != g.hi
  | some .down => n.lo != g.lo

/-- Cut frame f's grant back to a run, with the direction of the request in force during the trim (R51, R58). -/
def trimTo (f : Frame) (target : Run) (force : Option Dir) (s : State) : State :=
  match s.grant f with
  | some g =>
      let n := g.clip target
      let t := s.setGrant f (some n)
      if removesAhead force g n then t.raiseWinder f .grantChanged else t
  | none => s

/-- GRU trims the frame's grant: it is TRACKED with no transfer in flight (R58, R59). -/
def mayTrim (s : State) (f : Frame) : Bool :=
  (s.tracker f).state == .tracked && !s.inFlight f

/-- The trim rule (R58), with the frame's request in force. -/
def trim (f : Frame) (s : State) : State :=
  match s.lastReport f with
  | some r =>
      if mayTrim s f then
        trimTo f (trimTarget s.svt.working f (reportEnvelope s f r) r.m (s.request f)) ((s.request f).map (·.dir)) s
      else s
  | none => s

/-! ### Clearance (R17, R50) -/

/-- Neither frame holds a travel request. -/
def noRequests (s : State) : Bool :=
  (s.request .U).isNone && (s.request .L).isNone

/-- A frame's tuning with its pending values made working (R17, step 1). -/
def Tuning.takeOver (t : Tuning) : Tuning :=
  { vl := t.pendingVl.getD t.vl, leg := t.pendingLeg.getD t.leg, pendingVl := none, pendingLeg := none }

/-- ARB with its pending service table made working and the pointer at 0 (R17, step 2). -/
def Arb.takeTable (a : Arb) : Arb :=
  match a.pendingTable with
  | some t => { a with table := t, pendingTable := none, pointer := 0 }
  | none => a

/-- The pending tuning is examined at the clearance of frame f's request (R17). This holds for the clearance of LOCKOUT
entry too, where a pending table becomes working with the pointer at 0, although R70 and R152 say that LOCKOUT entry
leaves ARB's tables and pointer as they are (DEDUCED, log 40). -/
def takePendingTuning (f : Frame) (s : State) : State :=
  let t := s.setSvt { s.svt with tuning := s.svt.tuning.set f (s.svt.tuning.get f).takeOver }
  if noRequests t then t.setArb t.arb.takeTable else t

/-- Between two states a working VL, LEG or service table has changed (R15 to R17; log 15). -/
def tuningChanged (before after : State) : Bool :=
  (after.svt.tuning.u.vl != before.svt.tuning.u.vl) || (after.svt.tuning.u.leg != before.svt.tuning.u.leg) ||
    (after.svt.tuning.l.vl != before.svt.tuning.l.vl) || (after.svt.tuning.l.leg != before.svt.tuning.l.leg) ||
    (before.arb.pendingTable.isSome && after.arb.pendingTable.isNone)

/-- The clearance of frame f's request (R50), which also takes back its blocked-reported indication (R81). The
clearance of LOCKOUT entry does not trim (R66). -/
def clearRequest (f : Frame) (why : EndReason) (s : State) : State :=
  let t := (s.setRequest f none)
  let t := t.setGru { t.gru with lastEnd := t.gru.lastEnd.set f why }
  let t := t.raiseWinder f .requestEnded
  let t := t.setBlocked f false
  let t := takePendingTuning f t
  if why = .cleared then t else trim f t

/-! ### Reservation and re-forming -/

/-- The transfer reservation (R64): frame f's grant widened by the run, none where a zone of it is the other frame's
(ZONE_BUSY). The run meets the grant (R64), so the zones examined are those of the smallest run that contains both
(log 12). -/
def reserveZones (f : Frame) (r : Run) (s : State) : Option State :=
  match s.grant f with
  | some g =>
      let h := g.hull r
      if h.zones.all (zoneFreeOrOwn s f) then
        some (if h = g then s else (s.setGrant f (some h)).raiseWinder f .grantChanged)
      else none
  | none => none

/-- Frame f's grant becomes the run E (R65), with GRANT_CHANGED where it changed. -/
def reformGrant (f : Frame) (e : Run) (s : State) : State :=
  if s.grant f = some e then s else (s.setGrant f (some e)).raiseWinder f .grantChanged

/-- GRU's part of LOCKOUT entry for frame f (R66). Its clearance examines pending tuning as any other does (R17, R152
step 2), so that a pending service table becomes working with the pointer at 0 (DEDUCED, log 40). -/
def releaseGrant (f : Frame) (s : State) : State :=
  let t := if (s.request f).isSome then clearRequest f .cleared s else s
  if (t.grant f).isSome then (t.setGrant f none).raiseWinder f .grantChanged else t

end Sys2Proof.Machine
end

