-- ==== Sys2Proof/Machine/Arbitration.lean ====
section
/-! DEFINITION. ARB, the Grant Arbiter (05_grant_arbitration.md): the three steps of an arbitration round. -/

namespace Sys2Proof.Machine

/-- The frame that the service table's entry at the pointer names (R76, R79). The pointer always names an entry (R70);
of an empty table, which the part never holds, the entry reads as U. -/
def pointedFrame (a : Arb) : Frame :=
  a.table.getD a.pointer .U

/-- The pointer advances by one, cyclically (R77). -/
def Arb.advance (a : Arb) : Arb :=
  { a with pointer := if a.pointer + 1 < a.table.length then a.pointer + 1 else 0 }

/-- The demand of frame f with its direction, where it is eligible (R72). -/
def eligibleDemand (s : State) (f : Frame) : Option (Dir × Run) :=
  match s.request f, demand s f with
  | some t, some d =>
      if (s.tracker f).state = .tracked ∧ (t.dir = towardOther f → (s.tracker f.other).state = .tracked) then
        some (t.dir, d)
      else none
  | _, _ => none

/-- How many FREE zones follow one another from zone z upward, at most n. -/
def freeUp (s : State) (z : Nat) : Nat → Nat
  | 0 => 0
  | n + 1 => if zoneFree s z then freeUp s (z + 1) n + 1 else 0

/-- How many FREE zones follow one another from zone z downward, at most n. -/
def freeDown (s : State) (z : Nat) : Nat → Nat
  | 0 => 0
  | n + 1 => if zoneFree s z then freeDown s (z - 1) n + 1 else 0

/-- The free extent of a demand (R73); none where it is empty. -/
def freeExtent (s : State) (dir : Dir) (d : Run) : Option Run :=
  match dir with
  | .up =>
      let n := freeUp s d.lo (d.hi + 1 - d.lo)
      if n = 0 then none else some ⟨d.lo, d.lo + n - 1⟩
  | .down =>
      let n := freeDown s d.hi (d.hi + 1 - d.lo)
      if n = 0 then none else some ⟨d.hi + 1 - n, d.hi⟩

/-- The run ARB serves frame f on the zone table as it stands: the free extent of its eligible demand. -/
def servedRun (s : State) (f : Frame) : Option Run :=
  match eligibleDemand s f with
  | some (dir, d) => freeExtent s dir d
  | none => none

/-- GRU applies a served run (R62). -/
def applyServed (f : Frame) (served : Option Run) (s : State) : State :=
  match served, s.grant f with
  | some r, some g => (s.setGrant f (some (g.hull r))).raiseWinder f .grantChanged
  | _, _ => s

/-! ### The deadlock step (R78, R79) -/

/-- A deadlock is declared (R78). -/
def deadlocked (s : State) : Bool :=
  (s.tracker .U).state == .tracked && (s.tracker .L).state == .tracked && frameAtRest s .U && frameAtRest s .L &&
    demandsToward s .U && demandsToward s .L &&
    (match s.grant .U, s.grant .L with
      | some u, some l => u.lo == l.hi + 1
      | _, _ => false)

/-- The deadlock step (R79): the loser's request is cleared with YIELD, the loser is recorded, the pointer advances and
DEADLOCK is raised. -/
def deadlockStep (s : State) : State :=
  if deadlocked s then
    let loser := (pointedFrame s.arb).other
    let t := clearRequest loser .yield s
    let t := t.setArb { t.arb.advance with lastLoser := some loser }
    t.raiseWatchers .deadlock
  else s

/-! ### The service step (R75, R76) -/

/-- Two runs have a zone in common. -/
def Run.meets (a b : Run) : Bool :=
  decide (a.lo ≤ b.hi) && decide (b.lo ≤ a.hi)

/-- The frames contend (R76). -/
def contended (s : State) : Bool :=
  match eligibleDemand s .U, eligibleDemand s .L with
  | some (.down, u), some (.up, l) => u.meets l
  | _, _ => false

/-- The service step: the state it leaves, and for each frame whether it was left without zones in a way that the
blocked step examines (R80). The second frame of a contended round is not examined: it is served, or the first frame was
served the whole gap between the grants and has swallowed its demand, which the model takes to be so even where the
demand reaches on into the first frame's own grant (log 43, DESIGN CHOICE). -/
def serviceStep (s : State) : State × Pair Bool :=
  if contended s then
    let first := pointedFrame s.arb
    let run := servedRun s first
    let t := applyServed first run s
    let t := applyServed first.other (servedRun t first.other) t
    (t.setArb t.arb.advance, (⟨false, false⟩ : Pair Bool).set first run.isNone)
  else
    let u := servedRun s .U
    let l := servedRun s .L
    (applyServed .L l (applyServed .U u s), ⟨u.isNone, l.isNone⟩)

/-! ### The blocked step (R80, R81) -/

/-- The zone next to frame f's grant edge in a direction is the other frame's. -/
def nextZoneOthers (s : State) (f : Frame) (dir : Dir) : Bool :=
  match s.grant f, dir with
  | some g, .up => zoneOwner s (g.hi + 1) == some f.other
  | some g, .down => decide (0 < g.lo) && zoneOwner s (g.lo - 1) == some f.other
  | none, _ => false

/-- Frame f, which the service step left without zones, is blocked (R80). -/
def blocked (s : State) (f : Frame) : Bool :=
  match s.request f with
  | some t =>
      (s.tracker f).state == .tracked && frameAtRest s f && (demand s f).isSome &&
        ((nextZoneOthers s f t.dir && !demandsToward s f.other) ||
          (t.dir == towardOther f && (s.tracker f.other).state != .tracked))
  | none => false

/-- The blocked step for frame f: BLOCKED is raised once for each request (R81). -/
def reportBlocked (f : Frame) (examined : Bool) (s : State) : State :=
  if examined && blocked s f && !s.arb.blockedReported.get f then (s.setBlocked f true).raiseFrame f .blocked else s

/-- An arbitration round: the deadlock step, the service step, the blocked step. -/
def holdRound (s : State) : State :=
  let r := serviceStep (deadlockStep s)
  reportBlocked .L r.2.l (reportBlocked .U r.2.u r.1)

/-- A round is asked for: it is held in RUN, and leaves no trace in HOLD and LOCKOUT (R71). -/
def askRound (s : State) : State :=
  if s.mdc.mode = .run then holdRound s else s

/-- A round is asked for where the condition holds. -/
def askRoundIf (b : Bool) (s : State) : State :=
  if b then askRound s else s

end Sys2Proof.Machine
end

