-- ==== Sys2Proof/Machine/Store.lean ====
section
/-! DEFINITION. STI, the Store Interface (11_persistent_store_and_start_up.md): the images, the handing over and
beginning of writes, and the choice of a region's current slot. -/

namespace Sys2Proof.Machine

/-! ### Image bodies (12, "Store images"); the generation at their beginning is STI's -/

/-- The fields of a winder in a SURVEY body: width and value. -/
def winderFields (w : Winder) : List (Nat × Nat) :=
  [(2, w.ab), (2, w.tr), (2, w.vlMax), (1, w.k), (2, w.ovr), (2, w.pl), (2, w.rto), (2, w.ptol), (2, w.defaultVl),
    (1, w.defaultLeg)]

/-- The fields of a SURVEY body after the generation: width and value. -/
def surveyFields (sv : Survey) : List (Nat × Nat) :=
  [(4, sv.sl), (2, sv.zl), (4, sv.he), (2, sv.fh), (2, sv.c), (2, sv.lvt), (2, sv.ldt), (2, sv.tto), (1, sv.nl)] ++
  (List.range 12).flatMap (fun k => [(4, sv.le.getD k 0), (1, sv.bays.getD k 0)]) ++
  winderFields sv.winder.u ++ winderFields sv.winder.l ++ [(1, sv.tableLen)] ++
  (List.range 8).map (fun i => (1, sv.table.getD i 0))

/-- The bytes of fields of given widths. -/
def fieldBytes (fields : List (Nat × Nat)) : List Byte :=
  fields.flatMap (fun wv => leBytes wv.1 wv.2)

/-- The items of a SURVEY body. -/
def surveyBody (sv : Survey) : List Byte :=
  fieldBytes (surveyFields sv)

/-- A mass record in an INVENTORY body. -/
def massBytes (id : Nat) (r : Mass) : List Byte :=
  u8 id ++ u8 (massStateCode r.state) ++ u16 r.nominal ++ absentFF r.bay ++ absentFF (r.frame.map frameCode) ++
    absentFF r.landing

/-- The persisted inventory (R91) as the items of an INVENTORY body. A service flag of no and a state of UNVERIFIED are
written as 0, where the manual asks for any value but 1 (DESIGN CHOICE, log 42). -/
def inventoryBody (x : Inv) : List Byte :=
  (List.range 40).flatMap (fun i => massBytes (i + 1) (x.masses.getD i Mass.unreadable)) ++
  (List.range 40).flatMap (fun b => indication (x.bays.getD b Bay.unreadable).inService) ++
  (List.range 12).flatMap (fun k => indication (x.landings.getD k Landing.unreadable).inService) ++
  u8 (verifiedCode x.verified)

/-! ### Images (R174) -/

/-- The signature of a region's images. -/
def signature : Region → Nat
  | .survey => Config.surveySignature
  | .inventory => Config.inventorySignature

/-- The body length of a region's images. -/
def bodyLength : Region → Nat
  | .survey => Config.surveyBodyLength
  | .inventory => Config.inventoryBodyLength

/-- The image of a region with a generation: the header, the generation and the items (R174, R176). -/
def imageBytes (r : Region) (generation : BitVec 32) (items : List Byte) : List Byte :=
  let body := u32 generation.toNat ++ items
  u32 (signature r) ++ u16 Config.formatVersion ++ u16 (bodyLength r) ++ u32 (crc32 body).toNat ++ body

/-- What a slot holds, as read: the generation and items of a good image, none for anything else (R174). -/
def goodImage (r : Region) (bytes : List Byte) : Option (BitVec 32 × List Byte) :=
  let body := bytes.drop 12
  if leNat (bytes.take 4) = signature r ∧ leNat ((bytes.drop 4).take 2) = Config.formatVersion ∧
      leNat ((bytes.drop 6).take 2) = bodyLength r ∧ body.length = bodyLength r ∧
      leNat ((bytes.drop 8).take 4) = (crc32 body).toNat then
    some (BitVec.ofNat 32 (leNat (body.take 4)), body.drop 4)
  else none

/-- The good image that the attempts on a slot find: that of the first of at most three that finds one (R177). -/
def slotImage (r : Region) (attempts : List (List Byte)) : Option (BitVec 32 × List Byte) :=
  (attempts.take Config.storeAttempts).findSome? (goodImage r)

/-- The choice of the current slot, with its generation and items (R177). -/
def chooseSlot (a b : Option (BitVec 32 × List Byte)) : Option (Slot × BitVec 32 × List Byte) :=
  match a, b with
  | some x, none => some (.a, x)
  | none, some y => some (.b, y)
  | some x, some y => if y.1 = x.1 + 1 then some (.b, y) else some (.a, x)
  | none, none => none

/-! ### Writes (R175, R176) -/

/-- The slot an image write goes to: the one that is not current, or A where there is none (R176). -/
def targetSlot : Option Slot → Slot
  | some .a => .b
  | _ => .a

/-- STI with the write of a region begun (R176). -/
def Sti.beginWrite (x : Sti) (r : Region) (items : List Byte) : Sti :=
  let g := x.generation.get r + 1
  { x with op := .write r (targetSlot (x.current.get r)) g (imageBytes r g items) }

/-- A write is handed to STI: it begins where no operation is in flight, and waits otherwise (R175). -/
def Sti.handOver (x : Sti) (r : Region) (items : List Byte) : Sti :=
  match x.op with
  | .idle => x.beginWrite r items
  | _ => { x with waiting := x.waiting.set r (some items) }

/-- The operation in flight has ended: the waiting write, if any, begins (R175). -/
def Sti.endOperation (x : Sti) : Sti :=
  let y := { x with op := .idle, attempts := 0 }
  match y.waiting.survey, y.waiting.inventory with
  | some items, _ => ({ y with waiting := y.waiting.set .survey none }).beginWrite .survey items
  | none, some items => ({ y with waiting := y.waiting.set .inventory none }).beginWrite .inventory items
  | none, none => y

/-- A write is handed to STI. -/
def handOver (r : Region) (items : List Byte) (s : State) : State :=
  s.setSti (s.sti.handOver r items)

end Sys2Proof.Machine
end

