-- ==== Sys2Proof/Machine/Inventory.lean ====
section
/-! DEFINITION. INV, the Inventory Unit (06_the_mass_inventory_and_energy_account.md): places, location changes,
reservations, inventory state, save requests and the stored-energy account. -/

namespace Sys2Proof.Machine

/-! ### The stored-energy account (R96) -/

/-- The landing a record is valued at: that of its bay when STORED, its booked landing when CARRIED (R96). -/
def valuedLanding (sv : Survey) (r : Mass) : Option Nat :=
  match r.state with
  | .stored => r.bay.bind sv.landingOf
  | .carried => r.landing
  | _ => none

/-- The height h of a landing above landing 0 (R96). -/
def landingHeight (sv : Survey) (k : Nat) : Nat :=
  sv.floor k - sv.floor 0

/-- nominal × h of a record, 0 where it adds nothing (R96). -/
def massEnergy (sv : Survey) (r : Mass) : Nat :=
  match valuedLanding sv r with
  | some k => r.nominal * landingHeight sv k
  | none => 0

/-- S_raw of the records (R96). -/
def rawSum (sv : Survey) (masses : Bank Mass 40) : Nat :=
  (masses.toList.map (massEnergy sv)).sum

/-- STORED_kJ of a raw sum (R96). -/
def storedOf (raw : Nat) : Nat :=
  (raw * Config.gravity + 500000000) / 1000000000

/-- INV with S_raw and STORED_kJ recomputed (R96). -/
def Inv.recompute (x : Inv) (sv : Survey) : Inv :=
  let raw := rawSum sv x.masses
  { x with sRaw := raw, storedKJ := storedOf raw }

/-! ### Places (R86) -/

/-- The id of the mass whose record names a bay (R86). -/
def bayContent (masses : Bank Mass 40) (b : Nat) : Option Nat :=
  massIds.find? (fun id => (masses.getD (id - 1) Mass.unreadable).namedBay == some b)

/-- INV with each bay's content rebuilt from the mass records (R86). -/
def Inv.rebuildBays (x : Inv) : Inv :=
  { x with bays := Bank.ofFn 40 (fun b => { x.bays.getD b Bay.unreadable with content := bayContent x.masses b }) }

/-- A mass record is replaced: bay contents follow in the same step, and the account is recomputed (R86, R96). -/
def putMass (id : Nat) (r : Mass) (s : State) : State :=
  if id = 0 then s
  else
    s.setInv (({ s.inv with masses := s.inv.masses.set (id - 1) r } : Inv).rebuildBays.recompute s.svt.working)

/-- The first mass id, from 1 upward, whose record satisfies a condition. -/
def firstMass (s : State) (p : Mass → Bool) : Option Nat :=
  massIds.find? (fun id => p (s.mass id))

/-- The mass a frame carries, counting CARRIED and IN_TRANSFER records (R86). -/
def massOnFrame (s : State) (f : Frame) : Option Nat :=
  firstMass s (fun r => r.namedFrame == some f)

/-- A bay is usable: its own and its landing's in-service flags are yes (R85). -/
def bayUsable (s : State) (b : Nat) : Bool :=
  (s.bay b).inService && (match s.svt.working.landingOf b with
    | some k => (s.landing k).inService
    | none => false)

/-! ### Save requests (R91, R92, R95) -/

/-- A copy of the persisted inventory is handed to STI and the save state becomes WRITING; `carried` are the requesters
whose changes it holds (R92). -/
def startInventoryWrite (carried : List Waiter) (s : State) : State :=
  let t := handOver .inventory (inventoryBody s.inv) s
  t.setInv { t.inv with save := .writing, carriedWaiters := carried, nextWaiters := [] }

/-- A save request, by a requester that waits or by none that does (R92). In NOT_SAVED it starts no write, and the
caller tells the requester at once. -/
def saveRequest (w : List Waiter) (s : State) : State :=
  match s.inv.save with
  | .clean => startInventoryWrite w s
  | .writing => s.setInv { s.inv with save := .writingDirty, nextWaiters := s.inv.nextWaiters ++ w }
  | .writingDirty => s.setInv { s.inv with nextWaiters := s.inv.nextWaiters ++ w }
  | .notSaved => s

/-- A save request where the condition holds. -/
def saveRequestIf (b : Bool) (s : State) : State :=
  if b then saveRequest [] s else s

/-- SAVE_INVENTORY's save request: in NOT_SAVED it starts a write (R95). -/
def saveRequestByDispatch (s : State) : State :=
  match s.inv.save with
  | .notSaved => startInventoryWrite [] s
  | _ => saveRequest [] s

/-! ### Inventory state (R90) -/

/-- The inventory state takes a value; a change raises INVENTORY_STATE. The step it belongs to requests the save. -/
def setVerified (v : Bool) (s : State) : State :=
  if s.inv.verified = v then s
  else (s.setInv { s.inv with verified := v }).raiseWatchers .inventoryState

/-! ### Location changes (R87, R88) -/

/-- The commit of a load or an unload: the mass becomes IN_TRANSFER between bay b and frame f (R87). -/
def commitMass (id b : Nat) (f : Frame) (s : State) : State :=
  putMass id { s.mass id with state := .inTransfer, bay := some b, frame := some f, landing := none } s

/-- A verified load: CARRIED on frame f, booked to the landing of bay b (R87). -/
def carryMass (id : Nat) (f : Frame) (k : Nat) (s : State) : State :=
  putMass id { s.mass id with state := .carried, bay := none, frame := some f, landing := some k } s

/-- A verified unload: STORED in bay b (R87). -/
def storeMass (id b : Nat) (s : State) : State :=
  putMass id { s.mass id with state := .stored, bay := some b, frame := none, landing := none } s

/-- A restore to the place the commit took the mass from (R88). -/
def restoreMass (id : Nat) (p : ReturnPlace) (s : State) : State :=
  match p with
  | .bay b => storeMass id b s
  | .frame f k => carryMass id f k s

/-- A lost mass: UNACCOUNTED with no place, the inventory UNVERIFIED, a save requested (R88, R90). -/
def loseMass (id : Nat) (s : State) : State :=
  saveRequest [] (setVerified false
    (putMass id { s.mass id with state := .unaccounted, bay := none, frame := none, landing := none } s))

/-! ### Reservations (R89) -/

/-- Reserve a mass for a task; INV refuses where another task holds it. -/
def reserveMass (id task : Nat) (s : State) : State :=
  if id ≠ 0 ∧ (s.mass id).task = none then
    s.setInv { s.inv with masses := s.inv.masses.set (id - 1) { s.mass id with task := some task } }
  else s

/-- Reserve a bay for a task; INV refuses where another task holds it. -/
def reserveBay (b task : Nat) (s : State) : State :=
  if (s.bay b).task = none then s.setBay b { s.bay b with task := some task } else s

/-- Release a mass's reservation where it names the task. -/
def releaseMass (id task : Nat) (s : State) : State :=
  if id ≠ 0 ∧ (s.mass id).task = some task then
    s.setInv { s.inv with masses := s.inv.masses.set (id - 1) { s.mass id with task := none } }
  else s

/-- Release a bay's reservation where it names the task. -/
def releaseBay (b task : Nat) (s : State) : State :=
  if (s.bay b).task = some task then s.setBay b { s.bay b with task := none } else s

/-- A bay's reservation is released where there is such a bay. -/
def releaseBayOf (b : Option Nat) (task : Nat) (s : State) : State :=
  match b with
  | some b => releaseBay b task s
  | none => s

/-- A bay is reserved where there is such a bay. -/
def reserveBayOf (b : Option Nat) (task : Nat) (s : State) : State :=
  match b with
  | some b => reserveBay b task s
  | none => s

/-! ### Service flags (R85) -/

/-- A landing's in-service flag takes a value, with a save request where it changed (R91). -/
def setLandingInService (k : Nat) (v : Bool) (s : State) : State :=
  saveRequestIf ((s.landing k).inService != v) (s.setLanding k { s.landing k with inService := v })

/-- A bay's in-service flag takes a value, with a save request where it changed (R101). -/
def setBayInService (b : Nat) (v : Bool) (s : State) : State :=
  saveRequestIf ((s.bay b).inService != v) (s.setBay b { s.bay b with inService := v })

end Sys2Proof.Machine
end

