-- ==== Sys2Proof/Machine/Tasks.lean ====
section
/-! DEFINITION. TKU, the Task Unit (07_tasks_and_task_queues.md): the pool, the queues, activation, phases, endings,
and the checks and effects of the task requests. -/

namespace Sys2Proof.Machine

/-- What a request's owning block answers: the state after it and the reply's payload, the status first (R166). -/
abbrev Answer := State × List Byte

/-- A reply that carries the status alone. -/
def answer (s : State) (st : Status) : Answer :=
  (s, [st.code])

/-- A reply that carries the status and further items. -/
def answerWith (s : State) (st : Status) (items : List Byte) : Answer :=
  (s, st.code :: items)

/-! ### Collections (R106 to R109) -/

/-- The frame in whose queue a task is live (R105). -/
def liveIn (s : State) (id : Nat) : Option Frame :=
  if id ∈ s.tku.queues.u then some .U else if id ∈ s.tku.queues.l then some .L else none

/-- The lowest id of a list (R107). -/
def lowest : List Nat → Option Nat
  | [] => none
  | a :: as => match lowest as with
    | some b => some (min a b)
    | none => some a

/-- An id put into an ascending list (log 34). -/
def insertAscending (id : Nat) : List Nat → List Nat
  | [] => [id]
  | a :: as => if id ≤ a then id :: a :: as else a :: insertAscending id as

/-- Replace the queue of a frame. -/
def setQueue (f : Frame) (q : List Nat) (s : State) : State :=
  s.setTku { s.tku with queues := s.tku.queues.set f q }

/-- Add a step difference to a task's energy delta (R118). -/
def addDelta (id : Nat) (d : Int) (s : State) : State :=
  s.setTask id { s.task id with delta := (s.task id).delta + d }

/-- A location change of a task's transfer, with its step difference added to the task's delta (R97, R118). -/
def forTask (id : Nat) (change : State → State) (s : State) : State :=
  addDelta id ((change s).inv.storedKJ - s.inv.storedKJ) (change s)

/-- Add reasons to a task's reason set (R105). -/
def addTaskReasons (id : Nat) (r : BitVec 16) (s : State) : State :=
  s.setTask id { s.task id with reasons := (s.task id).reasons ||| r }

/-- A task's phase takes a value. -/
def setPhase (id : Nat) (p : Phase) (s : State) : State :=
  s.setTask id { s.task id with phase := p }

/-! ### Activation and ending (R115, R121) -/

/-- The phase a record takes as it becomes head (R115). -/
def activationPhase (s : State) (t : Task) : Phase :=
  match (s.mass t.mass).state with
  | .stored => .toPickup
  | .carried => .toDrop
  | _ => t.phase

/-- The head of a frame's queue is activated (R115). -/
def activateHead (f : Frame) (s : State) : State :=
  match s.head f with
  | some id => setPhase id (activationPhase s (s.task id)) s
  | none => s

/-- A task's reservations are released (R121, step 1). -/
def releaseTask (id : Nat) (s : State) : State :=
  let t := s.task id
  releaseBay t.dest id (releaseBayOf t.source id (releaseMass t.mass id s))

/-- The ended record: outcome, ending phase, cancel pending no (R121, steps 2 and 3). -/
def endedRecord (s : State) (t : Task) (p : Phase) : Task :=
  { t with phase := p, cancelPending := false, outcome := some ⟨t.phase, (s.mass t.mass).state⟩ }

/-- The ending step of a live task (R121); `next` says whether a record that becomes head is activated, which it is but
at LOCKOUT entry (R129). -/
def endTask (id : Nat) (p : Phase) (next : Bool) (s : State) : State :=
  match liveIn s id with
  | none => s
  | some f =>
      let wasHead := s.head f == some id
      let t := releaseTask id s
      let t := t.setTask id (endedRecord t (t.task id) p)
      let t := t.setTku { t.tku with
        queues := t.tku.queues.set f ((t.tku.queues.get f).erase id)
        completion := t.tku.completion ++ [id] }
      let t := t.raiseWatchers .completionReady
      if wasHead then
        (if next then activateHead f t else t).raiseWinder f .taskChanged
      else t

/-- TKU's part of LOCKOUT entry for one queue, from head to tail (R129). -/
def endQueue (f : Frame) (s : State) : State :=
  (s.tku.queues.get f).foldl
    (fun t id => endTask id .cancelled false
      (addTaskReasons id (TaskReason.lockout.bit ||| TaskReason.cancelled.bit) t)) s

/-! ### What a transfer does to its task (R117 to R120, R123) -/

/-- What the head of queue f calls for at landing k: the kind, the task, the mass and the bay (R117). -/
def headCall (s : State) (f : Frame) (k : Nat) : Option (Kind × Nat × Nat × Nat) :=
  match s.head f with
  | some id =>
      let t := s.task id
      match t.phase, t.source with
      | .toPickup, some b => if s.svt.working.landingOf b = some k then some (.load, id, t.mass, b) else none
      | .toDrop, _ => if s.svt.working.landingOf t.dest = some k then some (.unload, id, t.mass, t.dest) else none
      | _, _ => none
  | none => none

/-- At the commit TO_PICKUP becomes LOADING and TO_DROP becomes UNLOADING (R118). -/
def commitTask (id : Nat) (f : Frame) (kind : Kind) (s : State) : State :=
  (setPhase id (match kind with
    | .load => .loading
    | .unload => .unloading) s).raiseWinder f .taskChanged

/-- The task's phase is restored at entry into ABANDONING, and a pending cancel takes effect (R119). -/
def restoreTask (id : Nat) (f : Frame) (s : State) : State :=
  match (s.task id).phase with
  | .loading =>
      let t := (setPhase id .toPickup s).raiseWinder f .taskChanged
      if (s.task id).cancelPending then endTask id .cancelled true (addTaskReasons id TaskReason.cancelled.bit t) else t
  | .unloading => (setPhase id .toDrop s).raiseWinder f .taskChanged
  | _ => s

/-- A task fails with its transfer's cause (R120). -/
def failTask (id : Nat) (cause : BitVec 16) (s : State) : State :=
  let r := if (s.task id).cancelPending then cause ||| TaskReason.cancelled.bit else cause
  endTask id .failed true (addTaskReasons id r s)

/-- A task whose load is verified with a cancel pending becomes a return (R123). -/
def returnTask (id : Nat) (f : Frame) (s : State) : State :=
  let t := s.task id
  let back := t.source.getD t.dest
  let s1 := if back = t.dest then s else releaseBay t.dest id s
  let t1 := s1.task id
  (s1.setTask id { t1 with
    dest := back
    reasons := t1.reasons ||| TaskReason.cancelled.bit
    cancelPending := false
    phase := .toDrop }).raiseWinder f .taskChanged

/-- The task's advance at the end of a transfer that verified its load (R118, R123). -/
def advanceTask (id : Nat) (f : Frame) (s : State) : State :=
  match (s.task id).phase with
  | .loading =>
      if (s.task id).cancelPending then returnTask id f s
      else (setPhase id .toDrop s).raiseWinder f .taskChanged
  | .unloading => endTask id .done true s
  | _ => s

/-! ### SUBMIT_TASK (R110 to R114) -/

/-- The mass is one that may be moved (R110, fifth check). -/
def massMovable (s : State) (id : Nat) : Bool :=
  decide (1 ≤ id) && decide (id ≤ 40) && ((s.mass id).state == .stored || (s.mass id).state == .carried) &&
    (s.mass id).task.isNone

/-- The BAY check of R111 for a mass and a destination bay; `own` is the task whose own reservation of the bay does not
count (R125). -/
def bayFits (s : State) (id b : Nat) (own : Option Nat) : Bool :=
  decide (b < s.svt.working.nb) && bayUsable s b && (s.bay b).content.isNone &&
    ((s.bay b).task.isNone || (own.isSome && (s.bay b).task == own)) &&
    !((s.mass id).state == .stored && (s.mass id).bay == some b)

/-- The frame carries a mass reserved by no task (R112). -/
def barred (s : State) (f : Frame) : Bool :=
  (firstMass s (fun r => r.state == .carried && r.frame == some f && r.task.isNone)).isSome

/-- The distance of a frame from a landing for the choice of R113; none is infinitely far. -/
def frameDistance (s : State) (f : Frame) (k : Nat) : Option Nat :=
  if (s.tracker f).state = .unknown then none
  else (s.lastReport f).map (fun r => apart r.e (s.svt.working.floor k))

/-- The nearer frame, U where the distances are equal (R113, steps 4 and 5). -/
def nearerFrame (u l : Option Nat) : Frame :=
  match u, l with
  | some a, some b => if b < a then .L else .U
  | none, some _ => .L
  | _, none => .U

/-- The choice between two candidates: the shorter queue, then the nearer frame (R113). -/
def preferredFrame (s : State) (k : Nat) : Frame :=
  if s.tku.queues.u.length < s.tku.queues.l.length then .U
  else if s.tku.queues.l.length < s.tku.queues.u.length then .L
  else nearerFrame (frameDistance s .U k) (frameDistance s .L k)

/-- The FRAME check for a named frame (R112). -/
def namedFrameFits (s : State) (id : Nat) (f : Frame) : Bool :=
  if (s.mass id).state = .carried then (s.mass id).frame == some f else !barred s f

/-- The choice for ANY (R113); none where no frame can be chosen. -/
def anyFrame (s : State) (id : Nat) : Option Frame :=
  if (s.mass id).state = .carried then (s.mass id).frame
  else
    match barred s .U, barred s .L with
    | true, true => none
    | false, true => some .U
    | true, false => some .L
    | false, false => some (preferredFrame s (((s.mass id).bay.bind s.svt.working.landingOf).getD 0))

/-- The frame that will carry a task, by the frame byte 0 U, 1 L, 2 ANY (R112, R113). -/
def chosenFrame (s : State) (id frame : Nat) : Option Frame :=
  if frame = 2 then anyFrame s id
  else (frameOfCode frame).bind (fun f => if namedFrameFits s id f then some f else none)

/-- The record of an accepted SUBMIT_TASK (R114). -/
def newTask (s : State) (tag : BitVec 16) (id b : Nat) (f : Frame) : Task :=
  { tag := tag, mass := id, source := if (s.mass id).state = .stored then (s.mass id).bay else none, dest := b,
    frame := f, phase := .queued, cancelPending := false, reasons := 0, delta := 0, outcome := none }

/-- An accepted SUBMIT_TASK takes record n (R114). -/
def acceptTask (n : Nat) (tag : BitVec 16) (id b : Nat) (f : Frame) (s : State) : State :=
  let r := newTask s tag id b f
  let t := s.setTask n r
  let t := t.setTku { t.tku with free := t.tku.free.erase n }
  let t := reserveBay b n (reserveBayOf r.source n (reserveMass id n t))
  let t := setQueue f (t.tku.queues.get f ++ [n]) t
  if t.head f = some n then (activateHead f t).raiseWinder f .taskChanged else t

/-- SUBMIT_TASK, from its second check on (R110 to R114). -/
def submitTask (tag : BitVec 16) (id b frame : Nat) (s : State) : Answer :=
  if s.mdc.mode = .lockout then answer s .mode
  else if 2 < frame then answer s .range
  else match lowest s.tku.free with
  | none => answer s .poolEmpty
  | some n =>
    if !massMovable s id then answer s .mass
    else if !bayFits s id b none then answer s .bay
    else match chosenFrame s id frame with
    | none => answer s .frame
    | some f =>
      if (s.svt.working.winder.get f).pl < (s.mass id).nominal then answer s .limit
      else answerWith (acceptTask n tag id b f s).drive .ok (u8 n ++ u8 (frameCode f))

/-! ### CANCEL_TASK, REDIRECT_TASK, TAKE_COMPLETION (R122, R125, R126) -/

/-- CANCEL_TASK, from its second check on (R122). -/
def cancelTask (id : Nat) (s : State) : Answer :=
  if 31 < id then answer s .range
  else match liveIn s id with
  | none => answer s .noTask
  | some _ =>
    match (s.task id).phase with
    | .queued => answer (endTask id .cancelled true (addTaskReasons id TaskReason.cancelled.bit s)).drive .ok
    | .toPickup => answer (endTask id .cancelled true (addTaskReasons id TaskReason.cancelled.bit s)).drive .ok
    | .loading => answer (s.setTask id { s.task id with cancelPending := true }) .pending
    | _ => answer s .committed

/-- The destination reservation moves to another bay; a task's source bay keeps its reservation (R89, R125). -/
def moveDestination (id b : Nat) (s : State) : State :=
  let t := s.task id
  let s1 := if t.source = some t.dest then s else releaseBay t.dest id s
  let s2 := reserveBay b id s1
  s2.setTask id { s2.task id with dest := b }

/-- The reply of an accepted REDIRECT_TASK: the destination bay and its landing (R125). -/
def redirectReply (s : State) (b : Nat) : List Byte :=
  u8 b ++ u8 ((s.svt.working.landingOf b).getD 0)

/-- REDIRECT_TASK, from its second check on (R125). -/
def redirectTask (id b : Nat) (s : State) : Answer :=
  if 31 < id then answer s .range
  else match liveIn s id with
  | none => answer s .noTask
  | some f =>
    if (s.task id).phase ≠ .queued ∧ (s.task id).phase ≠ .toPickup ∧ (s.task id).phase ≠ .toDrop then answer s .busy
    else if !bayFits s (s.task id).mass b (some id) then answer s .bay
    else if (s.task id).dest = b then answerWith s .ok (redirectReply s b)
    else
      let t := moveDestination id b s
      let t := if s.head f = some id then (t.raiseWinder f .taskChanged).drive else t
      answerWith t .ok (redirectReply s b)

/-- A completion record after its status byte (12, "Central payloads"); the outcome of a live task is sent as 0. -/
def recordBytes (id : Nat) (t : Task) : List Byte :=
  u8 id ++ u16 t.tag.toNat ++ u8 t.mass ++ absentFF t.source ++ u8 t.dest ++ u8 (frameCode t.frame) ++
    u8 (phaseCode t.phase) ++ u16 t.reasons.toNat ++ signed 4 t.delta ++
    (match t.outcome with
      | some o => u8 (phaseCode o.phase) ++ u8 (massStateCode o.mass)
      | none => u8 0 ++ u8 0)

/-- TAKE_COMPLETION, from its second check on (R126). -/
def takeCompletion (s : State) : Answer :=
  match s.tku.completion with
  | [] => answer s .empty
  | id :: rest =>
      answerWith (s.setTku { s.tku with completion := rest, free := insertAscending id s.tku.free }) .ok
        (recordBytes id (s.task id))

end Sys2Proof.Machine
end

