-- ==== Sys2Proof/Machine/Trips.lean ====
section
/-! DEFINITION. Entry into HOLD (R149) and trips (R32), the two operations that the trackers, XFC, INV and MDC share. -/

namespace Sys2Proof.Machine

/-- The shaft mode takes a value. -/
def setMode (m : Mode) (s : State) : State :=
  s.setMdc { s.mdc with mode := m }

/-- A mode change with its MODE_CHANGED on every port (R148). -/
def changeMode (m : Mode) (s : State) : State :=
  (setMode m s).raiseAll .modeChanged

/-- MDC is asked to put the shaft in HOLD: in RUN it enters HOLD, in HOLD and LOCKOUT nothing changes (R149). -/
def enterHold (s : State) : State :=
  if s.mdc.mode = .run then changeMode .hold s else s

/-- A tracker with trip reasons added and its state TRIPPED (R32). -/
def Tracker.trip (t : Tracker) (reasons : BitVec 16) : Tracker :=
  { t with state := .tripped, reasons := t.reasons ||| reasons }

/-- A tracker takes a new value, with FRAME_STATE where its state or its reason set changed (R19). -/
def moveTracker (f : Frame) (n : Tracker) (s : State) : State :=
  let t := s.setTracker f n
  if (s.tracker f).state = n.state ∧ (s.tracker f).reasons = n.reasons then t else t.raiseFrame f .frameState

/-- A trip of frame f with one or more reasons (R32). The notice that XFC takes of it is in the callers' hands: XFC's
own trips change nothing more in XFC (R135). -/
def trip (f : Frame) (reasons : BitVec 16) (s : State) : State :=
  enterHold (moveTracker f ((s.tracker f).trip reasons) s)

/-- The frame's trip reason set holds a reason. -/
def hasReason (s : State) (f : Frame) (r : TripReason) : Bool :=
  (s.tracker f).reasons &&& r.bit != 0

end Sys2Proof.Machine
end

