-- ==== Sys2Proof/Machine/Transfers.lean ====
section
/-! DEFINITION. XFC, the Transfer Controller (08_landing_transfers.md): the checks and the commit of TRANSFER, and what
reports, save answers, gear edges, the transfer timer and the stop notice do to a transfer. -/

namespace Sys2Proof.Machine

/-! ### Ends (R138, R140, R144, R145, R147) -/

/-- The last transfer result of a transfer that ends (R147). -/
def Transfer.result (t : Transfer) (o : XOutcome) (c : Cause) (saved : Bool) : TransferResult :=
  { kind := t.kind, task := t.task, mass := t.mass, landing := t.landing, bay := t.bay, outcome := o, cause := c,
    saved := saved }

/-- The context becomes IDLE and the last transfer result is set (R147). -/
def clearContext (f : Frame) (r : TransferResult) (s : State) : State :=
  s.setXfc { s.xfc with contexts := s.xfc.contexts.set f none, lastResult := s.xfc.lastResult.set f (some r) }

/-- A transfer in ABANDONING ends (R138). -/
def endAbandoned (f : Frame) (saved : Bool) (s : State) : State :=
  match s.transfer f with
  | some t => (clearContext f (t.result .abandoned t.cause saved) s).raiseWinder f .transferEnded
  | none => s

/-- A transfer in FINISHING ends, and the task advances (R145). -/
def endCompleted (f : Frame) (saved : Bool) (s : State) : State :=
  match s.transfer f with
  | some t =>
      (advanceTask t.task f (clearContext f (t.result .completed .none saved) s)).raiseWinder f .transferEnded
  | none => s

/-- The task reason of a transfer cause that fails a task (R120). -/
def causeTaskReason : Cause → BitVec 16
  | .brakeReleased => TaskReason.brakeReleased.bit
  | .transferFault => TaskReason.transferFault.bit
  | .transferTimeout => TaskReason.transferTimeout.bit
  | .transferAbort => TaskReason.transferAbort.bit
  | .loadMismatch => TaskReason.loadMismatch.bit
  | .none => 0
  | .storeFault => 0
  | .stop => 0

/-- The trip reason that XFC asks for with a transfer cause; none for BRAKE_RELEASED, with which the frame has tripped
already (R140, R144). -/
def causeTripReason : Cause → Option TripReason
  | .transferFault => some .transferFault
  | .transferTimeout => some .transferTimeout
  | .transferAbort => some .transferAbort
  | .loadMismatch => some .loadMismatch
  | .brakeReleased => none
  | .none => none
  | .storeFault => none
  | .stop => none

/-- XFC asks FTK for the trip a cause calls for. -/
def tripForCause (f : Frame) (c : Cause) (s : State) : State :=
  match causeTripReason c with
  | some r => trip f r.bit s
  | none => s

/-- A failed transfer ends: result, trip, task, TRANSFER_ENDED (R140 steps 5 to 8, R144). -/
def endFailed (f : Frame) (t : Transfer) (c : Cause) (s : State) : State :=
  let s1 := tripForCause f c (clearContext f (t.result .failed c false) s)
  (failTask t.task (causeTaskReason c) s1).raiseWinder f .transferEnded

/-- A landing's timed-out marker takes a value. -/
def setTimedOut (k : Nat) (v : Bool) (s : State) : State :=
  s.setXfc { s.xfc with timedOut := s.xfc.timedOut.set k v }

/-- A transfer in GEAR_RUNNING fails with a cause (R140). -/
def failRunning (f : Frame) (c : Cause) (s : State) : State :=
  match s.transfer f with
  | some t =>
      let s1 := setLandingInService t.landing false (forTask t.task (loseMass t.mass) s)
      let s2 := if c = .transferTimeout then setTimedOut t.landing true s1 else s1
      endFailed f t c s2
  | none => s

/-- A transfer in VERIFYING fails; its landing stays in service (R144). -/
def failVerifying (f : Frame) (c : Cause) (s : State) : State :=
  match s.transfer f with
  | some t => endFailed f t c (forTask t.task (loseMass t.mass) s)
  | none => s

/-! ### Abandonment (R137) -/

/-- XFC requests a save and waits on it; in NOT_SAVED it is told at once that its change is not saved (R92). -/
def saveFor (f : Frame) (c : Change) (told : State → State) (s : State) : State :=
  if s.inv.save = .notSaved then told s else saveRequest [⟨f, c⟩] s

/-- Entry into ABANDONING with a cause (R137). -/
def enterAbandoning (f : Frame) (c : Cause) (s : State) : State :=
  match s.transfer f with
  | some t =>
      let s1 := s.setTransfer f (some { t with phase := .abandoning, cause := c })
      let s2 := restoreTask t.task f (forTask t.task (restoreMass t.mass t.ret) s1)
      saveFor f .restore (endAbandoned f false) s2
  | none => s

/-! ### Verification (R144) -/

/-- The load or the unload of a transfer is verified (R87). -/
def verifiedMass (f : Frame) (t : Transfer) (s : State) : State :=
  match t.kind with
  | .load => carryMass t.mass f t.landing s
  | .unload => storeMass t.mass t.bay s

/-- The first at-rest report in VERIFYING is judged against the expected payload (R144). -/
def verify (f : Frame) (r : Report) (s : State) : State :=
  match s.transfer f with
  | some t =>
      if apart r.m t.expected ≤ s.svt.working.ldt then
        let s1 := (forTask t.task (verifiedMass f t) s).setTransfer f (some { t with phase := .finishing })
        saveFor f .verified (endCompleted f false) s1
      else failVerifying f .loadMismatch s
  | none => s

/-! ### Reports (R135, R142) -/

/-- A report at rest within the transfer span (R135). -/
def Transfer.holds (t : Transfer) (r : Report) : Bool :=
  r.atRest && decide (t.spanLo ≤ (r.e : Int)) && decide ((r.e : Int) ≤ t.spanHi)

/-- The transfer is in COMMITTING or GEAR_RUNNING. -/
def Transfer.heldStill (t : Transfer) : Bool :=
  t.phase == .committing || t.phase == .gearRunning

/-- What a brake release does, by the phase (R142). -/
def brakeReleased (f : Frame) (phase : XPhase) (s : State) : State :=
  match phase with
  | .committing => enterAbandoning f .brakeReleased s
  | .gearRunning => failRunning f .brakeReleased s
  | .abandoning => s
  | .verifying => failVerifying f .brakeReleased s
  | .finishing => s

/-- XFC asks for the BRAKE_RELEASED trip where the frame's set does not hold it (R135, R142). -/
def askBrakeTrip (f : Frame) (s : State) : State :=
  if hasReason s f .brakeReleased then s else trip f TripReason.brakeReleased.bit s

/-- An accepted report reaches XFC (R135, R142, R144); `tripped` says that the report has just tripped the frame. -/
def reportToTransfer (f : Frame) (r : Report) (tripped : Bool) (s : State) : State :=
  match s.transfer f with
  | some t =>
      if !r.brakeSet || (t.heldStill && !t.holds r) then brakeReleased f t.phase (askBrakeTrip f s)
      else if t.phase = .verifying ∧ r.atRest ∧ !tripped then verify f r s
      else s
  | none => s

/-! ### Save answers (R136, R138, R145) -/

/-- The commit's save is answered in COMMITTING (R136). -/
def commitAnswered (f : Frame) (t : Transfer) (saved : Bool) (s : State) : State :=
  if saved then
    s.setTransfer f (some { t with
      phase := .gearRunning
      timer := some (s.time + BitVec.ofNat 32 s.svt.working.transferTime) })
  else enterAbandoning f .storeFault s

/-- INV tells XFC whether the change it waits on is saved. An answer that no longer meets its phase changes nothing
(R136). -/
def saveAnswered (w : Waiter) (saved : Bool) (s : State) : State :=
  match s.transfer w.frame with
  | some t =>
      match t.phase, w.change with
      | .committing, .commit => commitAnswered w.frame t saved s
      | .abandoning, .restore => endAbandoned w.frame saved s
      | .finishing, .verified => endCompleted w.frame saved s
      | _, _ => s
  | none => s

/-! ### Stop notice (R146) -/

/-- The stop notice for one frame (R146). -/
def stopNotice (f : Frame) (s : State) : State :=
  match s.transfer f with
  | some t =>
      match t.phase with
      | .committing => enterAbandoning f .stop s
      | .gearRunning => failRunning f .transferAbort s
      | _ => s
  | none => s

/-! ### Gear edges and the transfer timer (R139, R140, R141, R143) -/

/-- Frame f's transfer runs the gear of landing k. -/
def runsGear (s : State) (k : Nat) (f : Frame) : Bool :=
  match s.transfer f with
  | some t => t.phase == .gearRunning && t.landing == k
  | none => false

/-- The frame whose transfer runs the gear of landing k; at most one does (R130). -/
def gearFrame (s : State) (k : Nat) : Option Frame :=
  [Frame.U, .L].find? (runsGear s k)

/-- An unexpected gear edge (R143): of GDONE_k where `done`, otherwise of GFLT_k. -/
def unexpectedEdge (k : Nat) (done : Bool) (s : State) : State :=
  let t :=
    if k < s.svt.working.nl then
      if done ∧ s.xfc.timedOut.getD k false then
        setTimedOut k false (s.setLanding k { s.landing k with late := true })
      else s.setLanding k { s.landing k with unexpected := true }
    else s
  t.raiseWatchers .gearUnexpected

/-- The gear operation has ended: the transfer enters VERIFYING (R139). -/
def gearDone (f : Frame) (s : State) : State :=
  match s.transfer f with
  | some t => s.setTransfer f (some { t with phase := .verifying, timer := none })
  | none => s

/-- GDONE_RISING at landing k (R139, R143). -/
def gdoneEdge (k : Nat) (s : State) : State :=
  match gearFrame s k with
  | some f => gearDone f s
  | none => unexpectedEdge k true s

/-- GFLT_RISING at landing k (R140, R143). -/
def gfltEdge (k : Nat) (s : State) : State :=
  match gearFrame s k with
  | some f => failRunning f .transferFault s
  | none => unexpectedEdge k false s

/-! ### TRANSFER (R132 to R134) -/

/-- The deck elevation after the change of payload (R133). -/
def deckAfter (sv : Survey) (w : Winder) (r : Report) (after : Nat) : Int :=
  (r.e : Int) - (ropeAllowance sv w r.e after : Nat) + (ropeAllowance sv w r.e r.m : Nat)

/-- The payload after the change: the nominal for LOAD, 0 for UNLOAD (R133). -/
def payloadAfter (s : State) (kind : Kind) (mass : Nat) : Nat :=
  match kind with
  | .load => (s.mass mass).nominal
  | .unload => 0

/-- The reservation of R133: the run of the rest envelopes before and after. -/
def reservation (sv : Survey) (f : Frame) (r : Report) (after : Nat) : Run :=
  (restEnvelope sv f r.e r.m).hull (restEnvelope sv f (deckAfter sv (sv.winder.get f) r after) after)

/-- Check 9: the mass stands where the task expects it (R132). -/
def massInPlace (s : State) (f : Frame) (kind : Kind) (mass bay : Nat) : Bool :=
  match kind with
  | .load => (s.mass mass).state == .stored && (s.mass mass).bay == some bay
  | .unload => (s.mass mass).state == .carried && (s.mass mass).frame == some f

/-- The return place of a transfer (R130, R134). -/
def returnPlace (s : State) (f : Frame) (kind : Kind) (mass bay : Nat) : ReturnPlace :=
  match kind with
  | .load => .bay bay
  | .unload => .frame f ((s.mass mass).landing.getD 0)

/-- The context of an accepted TRANSFER (R134): span from R133, timer stopped, cause NONE. -/
def newTransfer (s : State) (f : Frame) (k : Nat) (r : Report) (kind : Kind) (task mass bay : Nat) : Transfer :=
  let sv := s.svt.working
  let after := payloadAfter s kind mass
  let x := deckAfter sv (sv.winder.get f) r after
  { phase := .committing, kind := kind, task := task, mass := mass, landing := k, bay := bay
    ret := returnPlace s f kind mass bay, expected := after
    spanLo := min (r.e : Int) x - (sv.lvt : Int), spanHi := max (r.e : Int) x + (sv.lvt : Int)
    timer := none, cause := .none }

/-- A TRANSFER is accepted and enters COMMITTING (R134); `s` holds the reservation already. -/
def acceptTransfer (f : Frame) (t : Transfer) (s : State) : State :=
  let s1 := forTask t.task (commitMass t.mass t.bay f) (s.setTransfer f (some t))
  saveRequest [⟨f, .commit⟩] (commitTask t.task f t.kind s1)

/-- Checks 9 to 13 of R132; none where they pass. -/
def transferBar (s : State) (f : Frame) (kind : Kind) (mass bay : Nat) : Option Status :=
  if !massInPlace s f kind mass bay then some .mass
  else if kind = .load ∧ (massOnFrame s f).isSome then some .frame
  else if kind = .unload ∧ (s.bay bay).content.isSome then some .bay
  else if !bayUsable s bay then some .landing
  else if s.inv.save = .notSaved then some .storeFault
  else none

/-- Checks 9 to 14 and the effect of TRANSFER, at landing k with the call of the head task (R132 to R134). -/
def startTransfer (f : Frame) (k : Nat) (r : Report) (kind : Kind) (task mass bay : Nat) (s : State) : Answer :=
  match transferBar s f kind mass bay with
  | some st => answer s st
  | none =>
    match reserveZones f (reservation s.svt.working f r (payloadAfter s kind mass)) s with
    | none => answer s .zoneBusy
    | some s1 =>
        answerWith (acceptTransfer f (newTransfer s f k r kind task mass bay) s1).drive .pending
          (u8 (kindCode kind) ++ u8 task ++ u8 mass ++ u8 k ++ u8 bay)

/-- TRANSFER for frame f, from its second check on (R132). -/
def requestTransfer (f : Frame) (s : State) : Answer :=
  if s.mdc.mode ≠ .run then answer s .mode
  else if s.inFlight f then answer s .busy
  else if (s.tracker f).state ≠ .tracked then answer s .notTracked
  else match frameLanding s f, s.lastReport f with
  | some k, some r =>
    if (s.request f).isSome then answer s .travelActive
    else if !r.brakeSet then answer s .notBraked
    else match headCall s f k with
    | none => answer s .noTask
    | some (kind, task, mass, bay) => startTransfer f k r kind task mass bay s
  | _, _ => answer s .notAtLanding

end Sys2Proof.Machine
end

