-- ==== Sys2Proof/Machine/Tracking.lean ====
section
/-! DEFINITION. FTK, the Frame Trackers (02_frame_tracking.md), with GRU's work on a report and on the travel requests
(R52 to R61): POSITION, the staleness expiry, REQUEST_TRAVEL and RELEASE_TRAVEL. -/

namespace Sys2Proof.Machine

/-! ### What a report is judged by -/

/-- A POSITION as the tracker takes it: m as clamped, the arrival stamped (R18, R24). -/
def takenReport (s : State) (e : BitVec 32) (v : BitVec 16) (m : BitVec 32) (flags : Byte) : Report :=
  { e := e.toNat, v := v.toInt, m := m.toInt.toNat, brakeSet := flags.getLsbD 0, arrival := s.time }

/-- The range part of the plausibility check holds (R23). -/
def inShaft (s : State) (e : Nat) : Bool :=
  decide (e + s.svt.working.fh ≤ s.svt.working.sl)

/-- The movement window of frame f over a span of time (R23). -/
def movementWindow (s : State) (f : Frame) (dt : Nat) : Nat :=
  ceilDiv ((s.svt.tuning.get f).vl * dt) 1000 + (s.svt.working.winder.get f).ptol

/-- The movement part of the plausibility check holds (R23); it does without a last report. -/
def movedPlausibly (s : State) (f : Frame) (r : Report) : Bool :=
  match s.lastReport f with
  | some last => decide (apart r.e last.e ≤ movementWindow s f (r.arrival - last.arrival).toNat)
  | none => true

/-- The plausibility check (R23). -/
def plausible (s : State) (f : Frame) (r : Report) : Bool :=
  inShaft s r.e && movedPlausibly s f r

/-- A set that holds a reason where a condition holds. -/
def notedIf (b : Bool) (r : TripReason) : BitVec 16 :=
  if b then r.bit else 0

/-- What the payload and the speed checks note (R24, R25). -/
def loadAndSpeed (s : State) (f : Frame) (r : Report) : BitVec 16 :=
  notedIf (decide ((s.svt.working.winder.get f).pl < r.m)) .overload |||
    notedIf (decide ((s.svt.tuning.get f).vl < r.v.natAbs)) .overspeed

/-- What the checks on an accepted report in TRACKED or STALE note (R24 to R27). -/
def noted (s : State) (f : Frame) (r : Report) : BitVec 16 :=
  loadAndSpeed s f r ||| notedIf (!(reportEnvelope s f r).within (s.grant f)) .trespass |||
    notedIf (s.inFlight f && !r.brakeSet) .brakeReleased

/-! ### The tracker's record of a report -/

/-- The tracker with an accepted report: the report kept, the count 0, the staleness timer restarted (R20, R23, R33). -/
def Tracker.accept (t : Tracker) (r : Report) (rto : Nat) : Tracker :=
  { t with last := some r, count := 0, timer := some (r.arrival + BitVec.ofNat 32 rto) }

/-- A report is accepted (R20, R23, R33). -/
def acceptReport (f : Frame) (r : Report) (s : State) : State :=
  s.setTracker f ((s.tracker f).accept r (s.svt.working.winder.get f).rto)

/-- A rejection is counted; the count stops at 255 (R23). -/
def countRejection (f : Frame) (s : State) : State :=
  s.setTracker f { s.tracker f with count := min ((s.tracker f).count + 1) 255 }

/-- A rejection in TRACKED or STALE, which trips the frame where the count is 3 or more (R23). -/
def rejectReport (f : Frame) (s : State) : State :=
  let t := countRejection f s
  if 3 ≤ (t.tracker f).count then trip f TripReason.implausible.bit t else t

/-- The tracking state takes a value, with FRAME_STATE on a change (R19). -/
def setTracking (f : Frame) (x : Tracking) (s : State) : State :=
  moveTracker f { s.tracker f with state := x } s

/-! ### Acquisition (R20, R21) -/

/-- The examination of R20: every zone of E is FREE and E lies on the frame's own side. -/
def canAcquire (s : State) (f : Frame) (e : Run) : Bool :=
  e.zones.all (zoneFree s) && ownSide s f e

/-- Reasons noted trip the frame; with none noted, `next` follows (R20, R28). -/
def tripOr (f : Frame) (reasons : BitVec 16) (next : State → State) (s : State) : State :=
  if reasons = 0 then next s else trip f reasons s

/-- An acquisition with a report within range (R20, R21). -/
def acquire (f : Frame) (r : Report) (s : State) : State :=
  let t := acceptReport f r s
  let e := reportEnvelope t f r
  if canAcquire t f e then
    tripOr f (loadAndSpeed t f r) askRound
      (setTracking f .tracked ((t.setGrant f (some e)).raiseWinder f .grantChanged))
  else trip f (TripReason.overlap.bit ||| loadAndSpeed t f r) t

/-! ### GRU's work on a TRACKED report (R58 to R61) -/

/-- The frame has arrived (R60); a frame with a transfer in flight is not examined (R59). -/
def arrived (s : State) (f : Frame) : Bool :=
  match s.request f, s.lastReport f with
  | some t, some r =>
      !s.inFlight f && (s.tracker f).state == .tracked && r.atRest && decide (apart r.e t.target ≤ s.svt.working.lvt)
  | _, _ => false

/-- Arrival clears the request (R60). -/
def arrive (f : Frame) (s : State) : State :=
  if arrived s f then clearRequest f .arrived s else s

/-- Trim, arrival, round (R58, R60, R61); a STALE recovery asks for a round in any case (R61; log 14). -/
def reportToGrants (f : Frame) (recovery : Bool) (s : State) : State :=
  let t := arrive f (trim f s)
  askRoundIf (recovery || t.grant f != s.grant f || (demand t f).isSome || tuningChanged s t) t

/-! ### Reports in TRACKED, STALE and TRIPPED (R28, R31, R33) -/

/-- The end of a report that noted no reason, by the tracking state it found (R28, R31). -/
def settleReport (f : Frame) (r : Report) (s : State) : State :=
  match (s.tracker f).state with
  | .tracked => reportToGrants f false s
  | .stale => if r.atRest then reportToGrants f true (setTracking f .tracked s) else s
  | _ => s

/-- An accepted report in TRACKED or STALE (R24 to R28, R31), with the handover to XFC (R135). -/
def checkedReport (f : Frame) (r : Report) (s : State) : State :=
  let t := acceptReport f r s
  let reasons := noted t f r
  reportToTransfer f r (reasons != 0) (tripOr f reasons (settleReport f r) t)

/-- POSITION for frame f (R18, R20 to R33): the state after it and its status. -/
def takeReport (f : Frame) (r : Report) (s : State) : State × Status :=
  if s.mdc.mode = .lockout then (s, .ok)
  else match (s.tracker f).state with
  | .unknown => if inShaft s r.e then (acquire f r s, .ok) else (s, .implausible)
  | .tripped =>
      if plausible s f r then (reportToTransfer f r false (acceptReport f r s), .ok)
      else (countRejection f s, .implausible)
  | _ => if plausible s f r then (checkedReport f r s, .ok) else (rejectReport f s, .implausible)

/-- The reply of POSITION: tracking state and trip reason set after the report (R18). -/
def positionReply (s : State) (f : Frame) : List Byte :=
  u8 (trackingCode (s.tracker f).state) ++ u16 (s.tracker f).reasons.toNat

/-- POSITION for frame f, from its role check on (R18). -/
def position (f : Frame) (e : BitVec 32) (v : BitVec 16) (m : BitVec 32) (flags : Byte) (s : State) : Answer :=
  let r := takeReport f (takenReport s e v m flags) s
  answerWith r.1.drive r.2 (positionReply r.1 f)

/-! ### Staleness (R30, R31) -/

/-- The staleness timer of frame f reaches its expiry (R30). -/
def stalenessEnds (f : Frame) (s : State) : State :=
  let t := s.setTracker f { s.tracker f with timer := none }
  if (s.tracker f).state = .tracked then setTracking f .stale t else t

/-! ### REQUEST_TRAVEL (R52 to R55) -/

/-- A request is stored or replaces the present one, and its blocked-reported indication goes back to no (R53, R54,
R81). -/
def placeRequest (f : Frame) (t : Travel) (s : State) : State :=
  (s.setRequest f (some t)).setBlocked f false

/-- The direction of a request for target T from elevation e (R52). -/
def travelDir (target e : Nat) : Dir :=
  if e < target then .up else .down

/-- The answer to an accepted REQUEST_TRAVEL: OK in RUN, PENDING in HOLD (R55). -/
def travelStatus (s : State) : Status :=
  if s.mdc.mode = .run then .ok else .pending

/-- A new request, or one in the direction of the present one (R53). -/
def storeTravel (f : Frame) (t : Travel) (s : State) : State :=
  askRound (trim f (placeRequest f t s))

/-- A request in the opposite direction of a frame at rest (R54). -/
def reverseTravel (f : Frame) (t : Travel) (r : Report) (old : Dir) (s : State) : State :=
  askRound (placeRequest f t (trimTo f (reportEnvelope s f r) (some old) s))

/-- The request that passes the checks of R52 is taken by the request the frame holds (R53, R54). -/
def takeTravel (f : Frame) (t : Travel) (r : Report) (s : State) : Answer :=
  match s.request f with
  | none => answer (storeTravel f t s).drive (travelStatus s)
  | some old =>
      if old.dir = t.dir then answer (storeTravel f t s).drive (travelStatus s)
      else if r.atRest then answer (reverseTravel f t r old.dir s).drive (travelStatus s)
      else answer s .travelActive

/-- REQUEST_TRAVEL for frame f, from its second check on (R52). -/
def requestTravel (f : Frame) (target : Nat) (s : State) : Answer :=
  if s.mdc.mode = .lockout then answer s .mode
  else if (s.tracker f).state ≠ .tracked then answer s .notTracked
  else match s.lastReport f with
  | none => answer s .notTracked
  | some r =>
    if !inShaft s target then answer s .range
    else if apart target r.e ≤ s.svt.working.lvt then answer s .noTravel
    else if s.inFlight f then answer s .busy
    else takeTravel f ⟨target, travelDir target r.e⟩ r s

/-! ### RELEASE_TRAVEL (R56) -/

/-- RELEASE_TRAVEL for frame f, from its role check on (R56). A round is asked for where a zone was freed, or where the
clearance changed a working value (R17). -/
def releaseTravel (f : Frame) (s : State) : Answer :=
  if (s.request f).isNone then answer s .ok
  else
    let t := clearRequest f .released s
    answer (askRoundIf (t.grant f != s.grant f || tuningChanged s t) t).drive .ok

end Sys2Proof.Machine
end

