-- ==== Sys2Proof/Machine/Modes.lean ====
section
/-! DEFINITION. MDC, the Mode Controller (09_shaft_modes_and_the_stop_chain.md): the mode requests, the stop chain and
CLEAR_TRIP. -/

namespace Sys2Proof.Machine

/-! ### HOLD, RESUME (R150, R151) -/

/-- The reply of HOLD, which carries the mode after the request (R150). -/
def holdReply (s : State) (st : Status) : Answer :=
  answerWith s st (u8 (modeCode s.mdc.mode))

/-- HOLD, from its role check on (R150). The refusal in LOCKOUT carries the mode too (log 25). -/
def requestHold (s : State) : Answer :=
  match s.mdc.mode with
  | .run => holdReply (enterHold s).drive .ok
  | .hold => holdReply s .ok
  | .lockout => holdReply s .mode

/-- The first frame, U before L, that a condition names. -/
def firstFrame (p : Frame → Bool) : Option Frame :=
  [Frame.U, .L].find? p

/-- The frame is TRIPPED. -/
def isTripped (s : State) (f : Frame) : Bool :=
  (s.tracker f).state == .tripped

/-- RESUME, from its role check on (R151). The save state bars it in NOT_SAVED alone, so a SAVE_INVENTORY under way lets
it through, where R180 speaks of one that has succeeded (log 47, DEDUCED). -/
def requestResume (s : State) : Answer :=
  if s.mdc.mode = .lockout then answer s .mode
  else if s.mdc.mode = .run then answer s .ok
  else if s.mdc.stopN then answer s .stopActive
  else if s.mdc.latch then answer s .stopLatched
  else if !s.inv.verified then answer s .unverified
  else if s.inv.save = .notSaved then answer s .storeFault
  else match firstFrame (isTripped s) with
  | some f => answerWith s .notTracked (u8 (frameCode f))
  | none => answer (askRound (changeMode .run s)).drive .ok

/-! ### LOCKOUT, UNLOCK (R152, R153) -/

/-- A tracker at LOCKOUT entry (R22). -/
def resetTracker (f : Frame) (s : State) : State :=
  moveTracker f Tracker.initial s

/-- The entry into LOCKOUT, in its order (R152). -/
def enterLockout (s : State) : State :=
  let t := releaseGrant .L (releaseGrant .U (setMode .lockout s))
  let t := resetTracker .L (resetTracker .U t)
  (endQueue .L (endQueue .U t)).raiseAll .modeChanged

/-- LOCKOUT, from its role check on (R152). -/
def requestLockout (s : State) : Answer :=
  if s.mdc.mode = .run then answer s .mode
  else if s.mdc.mode = .lockout then answer s .ok
  else match firstFrame s.inFlight with
  | some f => answerWith s .busy (u8 (frameCode f))
  | none => answer (enterLockout s).drive .ok

/-- UNLOCK, from its role check on (R153). -/
def requestUnlock (s : State) : Answer :=
  if s.mdc.mode = .run then answer s .mode
  else if s.mdc.mode = .hold then answer s .ok
  else if s.svt.saveOutstanding then answer s .busy
  else if s.svt.state ≠ .valid then answerWith s .invalid (u8 (surveyStateCode s.svt.state))
  else answer (changeMode .hold s).drive .ok

/-! ### The stop chain (R154, R155) -/

/-- An assertion of STOP_N (R154): condition and latch, STOP_SEEN, HOLD, the stop notice for each frame (R146). U's
transfer is dealt with before L's, an order that R146 and R154 leave open (DESIGN CHOICE, log 41). -/
def assertStop (s : State) : State :=
  let t := (s.setMdc { s.mdc with stopN := true, latch := true }).raiseWatchers .stopSeen
  stopNotice .L (stopNotice .U (enterHold t))

/-- A release of STOP_N (R155). -/
def releaseStop (s : State) : State :=
  s.setMdc { s.mdc with stopN := false }

/-- ACK_STOP, from its role check on (R155). -/
def acknowledgeStop (s : State) : Answer :=
  if s.mdc.stopN then answer s .stopActive
  else answer (s.setMdc { s.mdc with latch := false }).drive .ok

/-! ### CLEAR_TRIP (R156, R157) -/

/-- A mass record bars the clearing of frame f (R156, check 9). -/
def barsClearing (f : Frame) (r : Mass) : Bool :=
  r.state == .unaccounted || (r.state == .inTransfer && r.frame == some f)

/-- The envelope E may be frame f's grant: every zone FREE or its own, on its own side (R156, check 10). -/
def mayReform (s : State) (f : Frame) (e : Run) : Bool :=
  e.zones.all (zoneFreeOrOwn s f) && ownSide s f e

/-- The effect of CLEAR_TRIP (R157). -/
def clearTripped (f : Frame) (e : Run) (s : State) : State :=
  askRound (reformGrant f e (moveTracker f { s.tracker f with state := .tracked, reasons := 0 } s))

/-- CLEAR_TRIP of a TRIPPED frame, from the fifth check on (R156, R157). -/
def clearTripOf (f : Frame) (s : State) : Answer :=
  if s.inFlight f then answer s .busy
  else if (s.tracker f).timer.isNone then answer s .notTracked
  else match s.lastReport f with
  | none => answer s .notTracked
  | some r =>
    if !r.atRest then answer s .travelActive
    else if (s.svt.working.winder.get f).pl < r.m then answer s .limit
    else match firstMass s (barsClearing f) with
    | some id => answerWith s .inventory (u8 id)
    | none =>
      let e := reportEnvelope s f r
      if mayReform s f e then answerWith (clearTripped f e s).drive .ok (u8 e.lo ++ u8 e.hi)
      else answer s .overlap

/-- CLEAR_TRIP, from its second check on (R156). -/
def clearTrip (frame : Nat) (s : State) : Answer :=
  match frameOfCode frame with
  | none => answer s .range
  | some f =>
    if s.mdc.mode = .run then answer s .mode
    else match (s.tracker f).state with
    | .unknown => answer s .notTracked
    | .tracked => answer s .ok
    | .stale => answer s .ok
    | .tripped => clearTripOf f s

end Sys2Proof.Machine
end

