-- ==== Sys2Proof/Machine/InventoryRequests.lean ====
section
/-! DEFINITION. The inventory requests (06_the_mass_inventory_and_energy_account.md): DECLARE_MASS, CONFIRM_INVENTORY,
SAVE_INVENTORY, SET_BAY_SERVICE, SET_LANDING_SERVICE and the reads of INV. -/

namespace Sys2Proof.Machine

/-- An optional one-byte item of a reply (R183). -/
def optionalByte (x : Option Nat) : List Byte :=
  optionalItem 1 (x.map u8)

/-- A mass record in a reply (R84, R103). -/
def massItems (r : Mass) : List Byte :=
  u8 (massStateCode r.state) ++ u16 r.nominal ++ optionalByte r.bay ++ optionalByte (r.frame.map frameCode) ++
    optionalByte r.landing ++ optionalByte r.task

/-- A bay record in a reply (R85, R103). An empty content is sent as an absent item, behind a presence byte (log 46,
DEDUCED). -/
def bayItems (x : Bay) : List Byte :=
  optionalByte x.content ++ indication x.inService ++ optionalByte x.task

/-- A landing record in a reply (R85, R103). -/
def landingItems (x : Landing) : List Byte :=
  indication x.inService ++ indication x.late ++ indication x.unexpected

/-! ### DECLARE_MASS (R99) -/

/-- The record of a declaration; none where its location is out of range (R99, check 3; R182). -/
def declaredRecord (s : State) (old : Mass) (nominal kind p1 p2 : Nat) : Option Mass :=
  match massStateOfCode kind with
  | some .absent => some { old with state := .absent, nominal := nominal, bay := none, frame := none, landing := none }
  | some .stored =>
      if p1 < s.svt.working.nb then
        some { old with state := .stored, nominal := nominal, bay := some p1, frame := none, landing := none }
      else none
  | some .carried =>
      match frameOfCode p1 with
      | some f =>
          if p2 < s.svt.working.nl then
            some { old with state := .carried, nominal := nominal, bay := none, frame := some f, landing := some p2 }
          else none
      | none => none
  | _ => none

/-- The BAY check of a declaration STORED in bay b (R99, check 4). -/
def declareBayFits (s : State) (id : Nat) (r : Mass) : Bool :=
  match r.bay with
  | some b => bayUsable s b && ((s.bay b).content.isNone || (s.bay b).content == some id)
  | none => true

/-- The FRAME check of a declaration CARRIED on a frame (R99, check 5). -/
def declareFrameFits (s : State) (id : Nat) (r : Mass) : Bool :=
  match r.frame with
  | some f => massIds.all (fun j => j == id || (s.mass j).namedFrame != some f)
  | none => true

/-- The id and the nominal are in range (R99, check 3). -/
def declareInRange (id nominal : Nat) : Bool :=
  decide (1 ≤ id) && decide (id ≤ 40) && decide (5000 ≤ nominal) && decide (nominal ≤ 60000)

/-- An accepted declaration (R99): one save request where a persisted field or the inventory state changed. -/
def declare (id : Nat) (r : Mass) (s : State) : State :=
  saveRequestIf (s.mass id != r || s.inv.verified) (setVerified false (putMass id r s))

/-- DECLARE_MASS, from its second check on (R99). -/
def declareMass (id nominal kind p1 p2 : Nat) (s : State) : Answer :=
  if s.mdc.mode ≠ .lockout then answer s .mode
  else if !declareInRange id nominal then answer s .range
  else match declaredRecord s (s.mass id) nominal kind p1 p2 with
  | none => answer s .range
  | some r =>
    if !declareBayFits s id r then answer s .bay
    else if !declareFrameFits s id r then answer s .frame
    else
      let t := declare id r s
      answerWith t.drive .ok (massItems (t.mass id) ++ u32 t.inv.storedKJ)

/-! ### CONFIRM_INVENTORY, SAVE_INVENTORY (R95, R100) -/

/-- A record bars the confirmation (R100). -/
def barsConfirming (r : Mass) : Bool :=
  r.state == .unaccounted || r.state == .inTransfer

/-- CONFIRM_INVENTORY, from its mode check on (R100). -/
def confirmInventory (s : State) : Answer :=
  if s.mdc.mode ≠ .lockout then answer s .mode
  else match firstMass s barsConfirming with
  | some id => answerWith s .inventory (u8 id)
  | none =>
    if s.inv.verified then answer s .ok
    else answer (saveRequest [] (setVerified true s)).drive .ok

/-- SAVE_INVENTORY, from its role check on (R95). -/
def saveInventory (s : State) : Answer :=
  let t := saveRequestByDispatch s
  answerWith t .pending (u8 (saveStateCode t.inv.save))

/-! ### Bay and landing service (R101, R102) -/

/-- A service flag byte: yes, no, or none for out of range (R182). -/
def serviceFlag (flag : Nat) : Option Bool :=
  if flag = 1 then some true else if flag = 0 then some false else none

/-- SET_BAY_SERVICE, from its mode check on (R101). -/
def setBayService (b flag : Nat) (s : State) : Answer :=
  if s.mdc.mode = .run then answer s .mode
  else match serviceFlag flag with
  | none => answer s .range
  | some v =>
    if b < s.svt.working.nb then
      let t := setBayInService b v s
      answerWith t .ok (bayItems (t.bay b))
    else answer s .range

/-- Setting a landing in service clears its indications and its timed-out marker (R102, R143). -/
def clearGearIndications (k : Nat) (s : State) : State :=
  (s.setLanding k { s.landing k with late := false, unexpected := false }).setXfc
    { s.xfc with timedOut := s.xfc.timedOut.set k false }

/-- The effect of SET_LANDING_SERVICE (R102). -/
def serveLanding (k : Nat) (v : Bool) (s : State) : State :=
  let t := setLandingInService k v s
  if v then clearGearIndications k t else t

/-- SET_LANDING_SERVICE, from its mode check on (R102). -/
def setLandingService (k flag : Nat) (s : State) : Answer :=
  if s.mdc.mode = .run then answer s .mode
  else match serviceFlag flag with
  | none => answer s .range
  | some v =>
    if k < s.svt.working.nl then
      let t := serveLanding k v s
      answerWith t .ok (landingItems (t.landing k))
    else answer s .range

/-! ### Reads (R103, R104) -/

/-- READ_MASS (R103). -/
def readMass (id : Nat) (s : State) : Answer :=
  if 1 ≤ id ∧ id ≤ 40 then
    answerWith s .ok (massItems (s.mass id) ++ u64 (massEnergy s.svt.working (s.mass id)))
  else answer s .range

/-- READ_BAY (R103). -/
def readBay (b : Nat) (s : State) : Answer :=
  match s.svt.working.bayIdentity b with
  | some (k, j) =>
      answerWith s .ok (bayItems (s.bay b) ++ u8 k ++ u8 j ++ indication (bayUsable s b) ++ landingItems (s.landing k))
  | none => answer s .range

/-- How many mass records are in a state (R104). -/
def massCount (s : State) (x : MassState) : Nat :=
  s.inv.masses.toList.countP (fun r => r.state == x)

/-- READ_ENERGY (R104). The five counts are sent in the order in which R84 lists the states (log 45, DEDUCED). -/
def readEnergy (s : State) : Answer :=
  answerWith s .ok
    (u32 s.inv.storedKJ ++ u64 s.inv.sRaw ++ u8 (verifiedCode s.inv.verified) ++ u8 (saveStateCode s.inv.save) ++
      [MassState.absent, .stored, .carried, .inTransfer, .unaccounted].flatMap (fun x => u8 (massCount s x)))

end Sys2Proof.Machine
end

