-- ==== Sys2Proof/Machine/Reads.lean ====
section
/-! DEFINITION. The reads of frames, grants, tasks and the part's status (R35, R69, R127, R128, R173) and the event
requests (R171, R172). None of the reads changes anything. -/

namespace Sys2Proof.Machine

/-- The milliseconds left before an expiry; 0 once it has come (R35, R173; log 35). -/
def msLeft (now expiry : BitVec 32) : Nat :=
  let d := (expiry - now).toNat
  if d < 2147483648 then d else 0

/-! ### READ_FRAME (R35) -/

/-- A last accepted report in a reply (R35). -/
def reportItems (r : Report) : List Byte :=
  u32 r.e ++ signed 2 r.v ++ u32 r.m ++ indication r.brakeSet ++ u32 r.arrival.toNat

/-- What READ_FRAME carries for frame f (R35). -/
def frameItems (s : State) (f : Frame) : List Byte :=
  let t := s.tracker f
  u8 (trackingCode t.state) ++ u16 t.reasons.toNat ++ u8 t.count ++
    optionalItem 4 (t.timer.map (fun x => u32 (msLeft s.time x))) ++ optionalItem 15 (t.last.map reportItems) ++
    indication (frameAtRest s f) ++ optionalByte (frameLanding s f) ++ u16 (s.svt.tuning.get f).vl

/-- READ_FRAME (R35). -/
def readFrame (frame : Nat) (s : State) : Answer :=
  match frameOfCode frame with
  | some f => answerWith s .ok (frameItems s f)
  | none => answer s .range

/-! ### READ_GRANT (R69, R182) -/

/-- The second byte of the READ_GRANT reply: a bit for each indication (12, "Central payloads"). -/
def grantBits (s : State) (f : Frame) : Nat :=
  (if (s.grant f).isSome then 1 else 0) + (if (s.request f).isSome then 2 else 0) +
    (match s.request f with
      | some ⟨_, .down⟩ => 4
      | _ => 0) +
    (if (demand s f).isSome then 8 else 0) + (if s.gru.permit.get f then 16 else 0)

/-- The grant and its millimetre bounds (R47). -/
def grantItems (sv : Survey) : Option Run → List Byte
  | some g => u8 g.lo ++ u8 g.hi ++ u32 (g.lo * sv.zl) ++ u32 (min ((g.hi + 1) * sv.zl) sv.sl)
  | none => u8 0 ++ u8 0 ++ u32 0 ++ u32 0

/-- The demand's run of zones. -/
def demandItems : Option Run → List Byte
  | some d => u8 d.lo ++ u8 d.hi
  | none => u8 0 ++ u8 0

/-- READ_GRANT for frame f (R69). -/
def readGrant (f : Frame) (s : State) : Answer :=
  answerWith s .ok
    (u8 (grantBits s f) ++ grantItems s.svt.working (s.grant f) ++ u32 (((s.request f).map (·.target)).getD 0) ++
      demandItems (demand s f) ++ u8 (endReasonCode (s.gru.lastEnd.get f)) ++ u8 (s.svt.tuning.get f).leg)

/-! ### READ_TASK and READ_TASK_BY_ID (R127, R128) -/

/-- The bay a task goes to next (R127). -/
def taskBay (t : Task) : Nat :=
  match t.phase with
  | .toPickup => t.source.getD t.dest
  | .loading => t.source.getD t.dest
  | _ => t.dest

/-- The transfer a task calls for, 0xFF for none (R127, 12 codes). -/
def taskTransferCode (t : Task) : Nat :=
  match t.phase with
  | .toPickup => kindCode .load
  | .toDrop => kindCode .unload
  | _ => 0xFF

/-- What READ_TASK carries of a head (R127). -/
def headItems (s : State) (id : Nat) : List Byte :=
  let t := s.task id
  u8 id ++ u8 (phaseCode t.phase) ++ u8 t.mass ++ u16 (s.mass t.mass).nominal ++
    u8 ((s.svt.working.landingOf (taskBay t)).getD 0) ++ u8 (taskBay t) ++ u8 (taskTransferCode t) ++
    indication (t.reasons &&& TaskReason.cancelled.bit != 0)

/-- READ_TASK for frame f (R127). -/
def readTask (f : Frame) (s : State) : Answer :=
  match s.head f with
  | some id => answerWith s .ok (headItems s id)
  | none => answer s .noTask

/-- The collection of a record: 0 FREE, 1 QUEUE_U, 2 QUEUE_L, 3 COMPLETION (R106, 12 codes). -/
def collectionCode (s : State) (id : Nat) : Nat :=
  match liveIn s id with
  | some .U => 1
  | some .L => 2
  | none => if id ∈ s.tku.completion then 3 else 0

/-- The place of a record in its queue, the head 0; 0 outside the queues (R128; log 20). -/
def queuePlace (s : State) (id : Nat) : Nat :=
  match liveIn s id with
  | some f => (s.tku.queues.get f).idxOf id
  | none => 0

/-- Cancel pending, present while the task is live (R105). -/
def cancelItem (s : State) (id : Nat) : List Byte :=
  optionalItem 1 ((liveIn s id).map (fun _ => indication (s.task id).cancelPending))

/-- What READ_TASK_BY_ID carries (R128; log 20). -/
def taskItems (s : State) (id : Nat) : List Byte :=
  if collectionCode s id = 0 then u8 0
  else u8 (collectionCode s id) ++ u8 (queuePlace s id) ++ recordBytes id (s.task id) ++ cancelItem s id

/-- READ_TASK_BY_ID (R128). -/
def readTaskById (id : Nat) (s : State) : Answer :=
  if 31 < id then answer s .range else answerWith s .ok (taskItems s id)

/-! ### READ_STATUS (R173) -/

/-- A transfer in flight in READ_STATUS (R130, R173). -/
def transferItems (s : State) (t : Transfer) : List Byte :=
  u8 (kindCode t.kind) ++ u8 t.task ++ u8 t.mass ++ u8 t.landing ++ u8 t.bay ++
    u32 ((t.timer.map (msLeft s.time)).getD 0)

/-- A frame's transfer context in READ_STATUS (R173; log 22). -/
def contextItems (s : State) (f : Frame) : List Byte :=
  u8 (xphaseCode ((s.transfer f).map (·.phase))) ++ optionalItem 9 ((s.transfer f).map (transferItems s))

/-- A last transfer result in READ_STATUS (R147, R173). -/
def resultItems (r : TransferResult) : List Byte :=
  u8 (kindCode r.kind) ++ u8 r.task ++ u8 r.mass ++ u8 r.landing ++ u8 r.bay ++ u8 (xoutcomeCode r.outcome) ++
    u8 (causeCode r.cause) ++ indication r.saved

/-- The part's own items of READ_STATUS (R173). -/
def partItems (s : State) : List Byte :=
  u8 (modeCode s.mdc.mode) ++ indication s.mdc.latch ++ indication s.mdc.stopN ++ indication s.mdc.fault ++
    indication s.gru.permit.u ++ indication s.gru.permit.l ++ u8 (surveyStateCode s.svt.state) ++
    u8 (verifiedCode s.inv.verified) ++ u8 (saveStateCode s.inv.save) ++ u8 s.arb.pointer ++
    indication s.arb.blockedReported.u ++ indication s.arb.blockedReported.l ++ u8 (loserCode s.arb.lastLoser)

/-- READ_STATUS for the port that sends it (R173). U's phase is sent with U's transfer, before L's phase with L's
transfer, an order that R183 leaves open (DESIGN CHOICE, log 22). -/
def readStatus (p : PortId) (s : State) : Answer :=
  answerWith s .ok
    (partItems s ++ u8 (trackingCode (s.tracker .U).state) ++ u8 (trackingCode (s.tracker .L).state) ++
      contextItems s .U ++ contextItems s .L ++ optionalItem 8 ((s.xfc.lastResult.get .U).map resultItems) ++
      optionalItem 8 ((s.xfc.lastResult.get .L).map resultItems) ++ u8 (roleCode (s.port p).role) ++
      u8 (s.port p).errorCount ++ u8 (linkCauseCode (s.port p).errorCause))

/-! ### Event requests (R171, R172) -/

/-- A set names only flags of the port's role (R171, R172). -/
def ownFlags (s : State) (p : PortId) (set : BitVec 16) : Bool :=
  set &&& ~~~(roleFlags (s.port p).role) == 0

/-- READ_EVENTS (R171). -/
def readEvents (p : PortId) (s : State) : Answer :=
  answerWith s .ok (u16 (s.port p).flags.toNat ++ u16 (s.port p).mask.toNat)

/-- SET_EVENT_MASK (R171). -/
def setEventMask (p : PortId) (enables : BitVec 16) (s : State) : Answer :=
  if ownFlags s p enables then
    answerWith (s.setPort p { s.port p with mask := enables }).drive .ok
      (u16 enables.toNat ++ u16 (s.port p).flags.toNat)
  else answer s .range

/-- CLEAR_EVENTS (R172). -/
def clearEvents (p : PortId) (flags : BitVec 16) (s : State) : Answer :=
  let left := (s.port p).flags &&& ~~~flags
  if ownFlags s p flags then
    answerWith (s.setPort p { s.port p with flags := left }).drive .ok (u16 left.toNat)
  else answer s .range

end Sys2Proof.Machine
end

