-- ==== Sys2Proof/Machine/SurveyRequests.lean ====
section
/-! DEFINITION. SVT, the Survey Table (01_shaft_survey_and_tuning.md): SET_TUNING, SET_SURVEY_ITEM, READ_SURVEY_ITEM,
SAVE_SURVEY, and the two ends of a survey save. -/

namespace Sys2Proof.Machine

/-! ### SET_TUNING (R14 to R16) -/

/-- The operands of SET_TUNING as they are sent (R182). -/
structure TuningParts where
  present : Byte
  vlU : Nat
  legU : Nat
  vlL : Nat
  legL : Nat
  len : Nat
  entries : List Nat
  deriving DecidableEq, Repr

/-- The table entries that are read: those below the length (R182). -/
def TuningParts.tableEntries (x : TuningParts) : List Nat :=
  x.entries.take x.len

/-- The service-table part is in range: 1 to 8 entries, each U or L (R14). -/
def TuningParts.tableFits (x : TuningParts) : Bool :=
  decide (1 ≤ x.tableEntries.length) && decide (x.len ≤ 8) && x.tableEntries.all (fun e => decide (e ≤ 1))

/-- A part where its presence bit is set. -/
def TuningParts.part {α : Type} (x : TuningParts) (bit : Nat) (a : α) : Option α :=
  if x.present.getLsbD bit then some a else none

/-- A value clamped between two bounds (R14). -/
def clampTo (lo hi v : Nat) : Nat :=
  if v < lo then lo else if hi < v then hi else v

/-- The VL parts as applied, after clamping (R14). -/
def tuningVl (s : State) (x : TuningParts) (f : Frame) : Option Nat :=
  let hi := (s.svt.working.winder.get f).vlMax
  match f with
  | .U => x.part 0 (clampTo 500 hi x.vlU)
  | .L => x.part 2 (clampTo 500 hi x.vlL)

/-- The LEG parts as applied, after clamping (R14). -/
def tuningLeg (x : TuningParts) (f : Frame) : Option Nat :=
  match f with
  | .U => x.part 1 (clampTo 2 64 x.legU)
  | .L => x.part 3 (clampTo 2 64 x.legL)

/-- The service-table part. -/
def tuningTable (x : TuningParts) : Option (List Frame) :=
  x.part 4 (x.tableEntries.map entryFrame)

/-- A frame's tuning with a VL part applied (R15). -/
def Tuning.applyVl (t : Tuning) (working : Bool) : Option Nat → Tuning
  | none => t
  | some v => if working then { t with vl := v, pendingVl := none } else { t with pendingVl := some v }

/-- A frame's tuning with a LEG part applied (R15). -/
def Tuning.applyLeg (t : Tuning) (working : Bool) : Option Nat → Tuning
  | none => t
  | some v => if working then { t with leg := v, pendingLeg := none } else { t with pendingLeg := some v }

/-- ARB with a service-table part applied (R16). -/
def Arb.applyTable (a : Arb) (working : Bool) : Option (List Frame) → Arb
  | none => a
  | some t =>
      if working then { a with table := t, pendingTable := none, pointer := 0 } else { a with pendingTable := some t }

/-- GRU holds no travel request for the frame, so that a part of it becomes working at once (R15). -/
def partWorks (s : State) (f : Frame) : Bool :=
  (s.request f).isNone

/-- The VL and LEG parts of a frame applied (R15). -/
def tunedFrame (s : State) (x : TuningParts) (f : Frame) : Tuning :=
  ((s.svt.tuning.get f).applyVl (partWorks s f) (tuningVl s x f)).applyLeg (partWorks s f) (tuningLeg x f)

/-- Every part present is applied (R15, R16). -/
def applyTuning (x : TuningParts) (s : State) : State :=
  (s.setSvt { s.svt with tuning := ⟨tunedFrame s x .U, tunedFrame s x .L⟩ }).setArb
    (s.arb.applyTable (noRequests s) (tuningTable x))

/-- A part of the reply: the value as applied and whether it became working (R14). -/
def partReply (width : Nat) (value : Option (List Byte)) (working : Bool) : List Byte :=
  optionalItem (width + 1) (value.map (· ++ indication working))

/-- A service table in a reply: its length and eight entries, those beyond the length 0 (log 21). -/
def tableBytes (t : List Frame) : List Byte :=
  u8 t.length ++ (List.range 8).flatMap (fun i => u8 ((t[i]?.map frameCode).getD 0))

/-- The reply of SET_TUNING (R14). -/
def tuningReply (s : State) (x : TuningParts) : List Byte :=
  partReply 2 ((tuningVl s x .U).map u16) (partWorks s .U) ++
  partReply 1 ((tuningLeg x .U).map u8) (partWorks s .U) ++
  partReply 2 ((tuningVl s x .L).map u16) (partWorks s .L) ++
  partReply 1 ((tuningLeg x .L).map u8) (partWorks s .L) ++
  partReply 9 ((tuningTable x).map tableBytes) (noRequests s)

/-- SET_TUNING has changed a working value (R15, R16; log 15). -/
def tuningTookEffect (before after : State) (x : TuningParts) : Bool :=
  tuningChanged before after || ((tuningTable x).isSome && noRequests before)

/-- SET_TUNING, from its role check on (R14 to R16). -/
def setTuning (x : TuningParts) (s : State) : Answer :=
  if x.present.getLsbD 4 && !x.tableFits then answer s .range
  else
    let t := applyTuning x s
    answerWith (askRoundIf (tuningTookEffect s t x) t).drive .ok (tuningReply s x)

/-! ### SET_SURVEY_ITEM and READ_SURVEY_ITEM (R6, R7) -/

/-- The survey state after an item was written (R6). -/
def editedState (x : Svt) (edit : Survey) : SurveyState :=
  if x.state = .unconfigured then .unconfigured else if edit = x.working then .valid else .edited

/-- SET_SURVEY_ITEM, from its second check on (R6). -/
def setSurveyItem (code index value : Nat) (s : State) : Answer :=
  if s.mdc.mode ≠ .lockout then answer s .mode
  else if s.svt.saveOutstanding then answer s .busy
  else if !itemAccepts code index value then answer s .range
  else
    let edit := s.svt.edit.setItem code index value
    let st := editedState s.svt edit
    answerWith (s.setSvt { s.svt with edit := edit, state := st }) .ok (u8 (surveyStateCode st))

/-- An item of a survey copy; none where R4 has no such item or index (R7). -/
def surveyItem (sv : Survey) (code index : Nat) : Option Nat :=
  match itemIndices code with
  | some n => if index < n then some (sv.item code index) else none
  | none => none

/-- An entry of a service table with the working tuning, none beyond its length (log 23). -/
def tableEntry (t : List Frame) (index : Nat) : Option Nat :=
  t[index]?.map frameCode

/-- An item of WORKING_TUNING; none where it holds no such item (R7). -/
def workingTuningItem (s : State) (code index : Nat) : Option Nat :=
  match code, frameOfCode index with
  | 0x28, some f => some (s.svt.tuning.get f).vl
  | 0x29, some f => some (s.svt.tuning.get f).leg
  | 0x30, _ => if index = 0 then some s.arb.table.length else none
  | 0x31, _ => tableEntry s.arb.table index
  | _, _ => none

/-- An entry of the pending service table: none is RANGE, `some none` is absent (R7; log 23). -/
def pendingEntry (t : Option (List Frame)) (index : Nat) : Option (Option Nat) :=
  match t with
  | some t => (tableEntry t index).map some
  | none => if index < 8 then some none else none

/-- An item of PENDING_TUNING: none where it holds no such item, `some none` where the value is absent (R7). -/
def pendingTuningItem (s : State) (code index : Nat) : Option (Option Nat) :=
  match code, frameOfCode index with
  | 0x28, some f => some (s.svt.tuning.get f).pendingVl
  | 0x29, some f => some (s.svt.tuning.get f).pendingLeg
  | 0x30, _ => if index = 0 then some (s.arb.pendingTable.map List.length) else none
  | 0x31, _ => pendingEntry s.arb.pendingTable index
  | _, _ => none

/-- The bytes of the value that READ_SURVEY_ITEM returns, none for RANGE; in PENDING_TUNING a presence byte precedes
it (R7, R183). -/
def readItemBytes (s : State) (code index copy : Nat) : Option (List Byte) :=
  match copy with
  | 0 => (surveyItem s.svt.working code index).map u32
  | 1 => (surveyItem s.svt.edit code index).map u32
  | 2 => (workingTuningItem s code index).map u32
  | 3 => (pendingTuningItem s code index).map (fun v => optionalItem 4 (v.map u32))
  | _ => none

/-- READ_SURVEY_ITEM (R7). -/
def readSurveyItem (code index copy : Nat) (s : State) : Answer :=
  match readItemBytes s code index copy with
  | some bytes => answerWith s .ok (bytes ++ u8 (surveyStateCode s.svt.state) ++ indication s.svt.saveOutstanding)
  | none => answer s .range

/-! ### SAVE_SURVEY (R8 to R10) -/

/-- The validation of R8: the code and index of the first check that fails. -/
def validation (s : State) : Option (Nat × Nat) :=
  (s.svt.edit.shapeCheck).or (inventoryCheck s)

/-- SAVE_SURVEY, from its mode check on (R8, R10). -/
def saveSurvey (s : State) : Answer :=
  if s.mdc.mode ≠ .lockout then answer s .mode
  else if s.svt.saveOutstanding then answer s .busy
  else match validation s with
  | some (code, index) => answerWith s .invalid (u8 code ++ u8 index)
  | none =>
      answer (handOver .survey (surveyBody s.svt.edit) (s.setSvt { s.svt with saveOutstanding := true })) .pending

/-! ### The end of a survey save (R11, R12) -/

/-- A frame's tuning from the survey's defaults (R11, R13). -/
def Tuning.ofWinder (w : Winder) : Tuning :=
  { vl := w.defaultVl, leg := w.defaultLeg, pendingVl := none, pendingLeg := none }

/-- The working tuning from a survey's defaults (R11, R13). -/
def Survey.tuning (sv : Survey) : Pair Tuning :=
  ⟨Tuning.ofWinder sv.winder.u, Tuning.ofWinder sv.winder.l⟩

/-- ARB with the default service table of a survey, nothing pending, the pointer at 0 (R11, R13). -/
def Arb.adopt (a : Arb) (sv : Survey) : Arb :=
  { a with table := sv.defaultTable, pendingTable := none, pointer := 0 }

/-- The service flag of bay b of the new layout (R11). -/
def carriedFlag (old new : Survey) (bays : Bank Bay 40) (b : Nat) : Bool :=
  match (new.bayIdentity b).bind (fun kj => old.bayOf kj.1 kj.2) with
  | some b0 => (bays.getD b0 Bay.unreadable).inService
  | none => true

/-- The bay records with their service flags carried over by identity (R11). -/
def carryFlags (old new : Survey) (bays : Bank Bay 40) : Bank Bay 40 :=
  Bank.ofFn 40 (fun b => { bays.getD b Bay.unreadable with inService := carriedFlag old new bays b })

/-- INV at a take-over: service flags, account (R11). -/
def Inv.adopt (x : Inv) (before : Svt) : Inv :=
  let bays := if before.state = .unconfigured then x.bays else carryFlags before.working before.edit x.bays
  ({ x with bays := bays } : Inv).recompute before.edit

/-- The take-over of the survey (R11). -/
def takeOverSurvey (s : State) : State :=
  let sv := s.svt.edit
  let t := s.setSvt { working := sv, edit := sv, state := .valid, saveOutstanding := false, tuning := sv.tuning }
  let t := t.setGru { t.gru with grants := ⟨none, none⟩ }
  let t := t.setArb (t.arb.adopt sv)
  saveRequest [] (t.setInv (t.inv.adopt s.svt))

/-- A SURVEY write has failed (R12). -/
def surveySaveFailed (s : State) : State :=
  (s.setSvt { s.svt with saveOutstanding := false }).raiseWatchers .storeFault

end Sys2Proof.Machine
end

