-- ==== Sys2Proof/Machine/Link.lean ====
section
/-! DEFINITION. LKU, the Link Unit (10_link_ports_requests_and_events.md): the conditions every request meets, the reply
lists, discards, breaks, and the byte by byte reception of link frames. -/

namespace Sys2Proof.Machine

/-! ### Replies and discards (R163, R166, R168) -/

/-- The CRC of a link frame's type and payload (R162). -/
def frameCrc (type : Byte) (payload : List Byte) : BitVec 16 :=
  crc16 (type :: BitVec.ofNat 8 payload.length :: payload)

/-- The reply to a request of a type (R166). -/
def replyTo (type : Byte) (payload : List Byte) : Reply :=
  { type := type + 0x80, payload := payload, crc := frameCrc (type + 0x80) payload }

/-- A taken request is done with: the port hunts (R161), and the reply joins the tail of its list (R168). -/
def addReply (p : PortId) (r : Reply) (s : State) : State :=
  s.setPort p { s.port p with rx := .hunt, replies := (s.port p).replies ++ [r] }

/-- Four replies wait on the port (R168). -/
def repliesFull (s : State) (p : PortId) : Bool :=
  decide (Config.replyListCapacity ≤ (s.port p).replies.length)

/-- The receive state takes a value. -/
def setRx (p : PortId) (x : Rx) (s : State) : State :=
  s.setPort p { s.port p with rx := x }

/-- A port that discards a frame (R163). -/
def PortState.discard (x : PortState) (cause : LinkCause) : PortState :=
  { x with rx := .hunt, errorCount := min (x.errorCount + 1) 255, errorCause := cause }

/-- A frame is discarded with a cause (R163). -/
def discardFrame (p : PortId) (cause : LinkCause) (s : State) : State :=
  (s.setPort p (((s.port p).discard cause).raise .linkError)).drive

/-! ### The conditions of R166 -/

/-- The port's role is among those that may send the request (R165). -/
def mayBeSent (r : Req) (role : Role) : Bool :=
  match r.roles with
  | .all => true
  | .dispatch => role == .dispatch
  | .winder => role == .winderU || role == .winderL

/-- A condition with its status. -/
def refusedIf (b : Bool) (st : Status) : Option Status :=
  if b then some st else none

/-- Conditions 1 and 2 of R166, which look at no request. -/
def partGate (s : State) : Option Status :=
  (refusedIf s.mdc.strapFault .strapFault).or (refusedIf (s.startUp != .ended) .starting)

/-- Conditions 4 to 6 of R166 for a request of the table. -/
def requestGate (s : State) (p : PortId) (r : Req) (lengthFits : Bool) : Option Status :=
  ((refusedIf (!mayBeSent r (s.port p).role) .role).or (refusedIf (!lengthFits) .range)).or
    (refusedIf (s.svt.state == .unconfigured && !r.admittedUnconfigured) .invalid)

/-- The status of the first condition of R166 that a request meets, none where it is handed on. -/
def gate (s : State) (p : PortId) (r : Option Req) (lengthFits : Bool) : Option Status :=
  (partGate s).or
    (match r with
      | none => some .unknownRequest
      | some r => requestGate s p r lengthFits)

/-- The answer to a request: that of the condition it meets, or of the block that owns it (R166). -/
def answerGated (g : Option Status) (body : State → Answer) (s : State) : Answer :=
  match g with
  | some st => answer s st
  | none => body s

/-- The request is taken and answered (R166): the reply joins the list. -/
def replyFrom (p : PortId) (type : Byte) (a : Answer) : State :=
  addReply p (replyTo type a.2) a.1

/-- A frame whose CRC matches completes on a port (R163, R166, R168): no effect while the line is held low (R164), a
discard with OVERFLOW while four replies wait, otherwise a request taken. -/
def takeFrame (p : PortId) (type : Byte) (r : Option Req) (lengthFits : Bool) (body : State → Answer)
    (s : State) : State :=
  if (s.port p).lineLow then s
  else if repliesFull s p then discardFrame p .overflow s
  else replyFrom p type (answerGated (gate s p r lengthFits) body s)

/-- A request of the table with a payload of its length is taken. -/
def takeRequest (p : PortId) (r : Req) (body : State → Answer) (s : State) : State :=
  takeFrame p r.typeByte (some r) true body s

/-! ### What each request asks of its block -/

/-- A winder request acts for the frame its port serves (R165). -/
def forWinder (p : PortId) (body : Frame → State → Answer) (s : State) : Answer :=
  match roleFrame (s.port p).role with
  | some f => body f s
  | none => answer s .role

/-- The owning block's answer to a request command; a command that is not a request has none. -/
def requestBody : Instr → State → Answer
  | .position p e v m fl => forWinder p (fun f => position f e v m fl)
  | .requestTravel p target => forWinder p (fun f => requestTravel f target.toNat)
  | .releaseTravel p => forWinder p releaseTravel
  | .readGrant p => forWinder p readGrant
  | .readTask p => forWinder p readTask
  | .transfer p => forWinder p requestTransfer
  | .submitTask _ tag mass bay frame => submitTask tag mass.toNat bay.toNat frame.toNat
  | .cancelTask _ id => cancelTask id.toNat
  | .redirectTask _ id bay => redirectTask id.toNat bay.toNat
  | .takeCompletion _ => takeCompletion
  | .hold _ => requestHold
  | .resume _ => requestResume
  | .lockout _ => requestLockout
  | .unlock _ => requestUnlock
  | .ackStop _ => acknowledgeStop
  | .clearTrip _ frame => clearTrip frame.toNat
  | .setTuning _ pr vlU legU vlL legL len entries =>
      setTuning ⟨pr, vlU.toNat, legU.toNat, vlL.toNat, legL.toNat, len.toNat, entries.map BitVec.toNat⟩
  | .setSurveyItem _ item index value => setSurveyItem item.toNat index.toNat value.toNat
  | .saveSurvey _ => saveSurvey
  | .declareMass _ id nominal kind a b => declareMass id.toNat nominal.toNat kind.toNat a.toNat b.toNat
  | .confirmInventory _ => confirmInventory
  | .saveInventory _ => saveInventory
  | .setBayService _ bay flag => setBayService bay.toNat flag.toNat
  | .setLandingService _ landing flag => setLandingService landing.toNat flag.toNat
  | .readStatus p => readStatus p
  | .readFrame _ frame => readFrame frame.toNat
  | .readMass _ id => readMass id.toNat
  | .readBay _ bay => readBay bay.toNat
  | .readEnergy _ => readEnergy
  | .readSurveyItem _ item index copy => readSurveyItem item.toNat index.toNat copy.toNat
  | .readTaskById _ id => readTaskById id.toNat
  | .readEvents p => readEvents p
  | .clearEvents p flags => clearEvents p flags
  | .setEventMask p enables => setEventMask p enables
  | .unknownRequest _ _ _ => (answer · .unknownRequest)
  | .frameDiscarded _ _ => (answer · .unknownRequest)
  | .gapExpiry _ => (answer · .unknownRequest)
  | .linkBreak _ => (answer · .unknownRequest)
  | .replySent _ => (answer · .unknownRequest)
  | .stalenessExpiry _ => (answer · .unknownRequest)
  | .transferTimerExpiry _ => (answer · .unknownRequest)
  | .stopNAssertion => (answer · .unknownRequest)
  | .stopNRelease => (answer · .unknownRequest)
  | .gdoneRising _ => (answer · .unknownRequest)
  | .gfltRising _ => (answer · .unknownRequest)
  | .coldReset _ _ _ _ _ => (answer · .unknownRequest)
  | .surveyReadEnd _ _ => (answer · .unknownRequest)
  | .inventoryReadEnd _ _ => (answer · .unknownRequest)
  | .storeAttemptEnd _ => (answer · .unknownRequest)
  | .linkByteReceived _ _ => (answer · .unknownRequest)
  | .linkBreakEnd _ => (answer · .unknownRequest)

/-- A frame with a matching CRC has come in: its type and its payload (R166, R182). -/
def takeBytes (p : PortId) (type : Byte) (payload : List Byte) (s : State) : State :=
  match Req.ofType type with
  | none => takeFrame p type none true (answer · .unknownRequest) s
  | some r =>
    match decodeRequest p r payload with
    | some i => takeFrame p type (some r) true (requestBody i) s
    | none => takeFrame p type (some r) false (answer · .range) s

/-! ### Reception (R161) -/

/-- The receive state after a length byte of 0 to 60. -/
def lengthTaken (type b : Byte) (now : BitVec 32) : Rx :=
  if b = 0 then .check type [] none now else .payload type [] b.toNat now

/-- The receive state after a payload byte. -/
def payloadTaken (type b : Byte) (got : List Byte) (left : Nat) (now : BitVec 32) : Rx :=
  if left ≤ 1 then .check type (got ++ [b]) none now else .payload type (got ++ [b]) (left - 1) now

/-- The second CRC byte has come: the port hunts, and the frame is taken where its CRC matches (R161, R162). -/
def checkFrame (p : PortId) (type : Byte) (payload : List Byte) (c0 c1 : Byte) (s : State) : State :=
  if word16 c0 c1 = frameCrc type payload then takeBytes p type payload (setRx p .hunt s) else discardFrame p .crc s

/-- A byte is taken by the receive state (R161). -/
def takeByte (p : PortId) (b : Byte) (s : State) : State :=
  match (s.port p).rx with
  | .hunt => if b = Config.syncByte then setRx p (.type s.time) s else s
  | .type _ => setRx p (.length b s.time) s
  | .length type _ =>
      if Config.maxPayload < b.toNat then discardFrame p .length s else setRx p (lengthTaken type b s.time) s
  | .payload type got left _ => setRx p (payloadTaken type b got left s.time) s
  | .check type payload none _ => setRx p (.check type payload (some b) s.time) s
  | .check type payload (some c0) _ => checkFrame p type payload c0 b s

/-- LINK_BYTE_RECEIVED (R161): no byte is taken while the line is held low (R164). -/
def receiveByte (p : PortId) (b : Byte) (s : State) : State :=
  if (s.port p).lineLow then s else takeByte p b s

/-! ### FRAME_DISCARDED, breaks, REPLY_SENT (R163, R164, R168) -/

/-- The link error cause of a FRAME_DISCARDED row. -/
def discardCause : DiscardCause → LinkCause
  | .length => .length
  | .crc => .crc
  | .overflow => .overflow

/-- The frame that FRAME_DISCARDED stands for can have come: the line is not held low, and for OVERFLOW four replies
wait (R163, R164; log 33). -/
def discardHappens (s : State) (p : PortId) (c : DiscardCause) : Bool :=
  !(s.port p).lineLow && (c != .overflow || repliesFull s p)

/-- FRAME_DISCARDED (R163). -/
def frameDiscarded (p : PortId) (c : DiscardCause) (s : State) : State :=
  if discardHappens s p c then discardFrame p (discardCause c) s else s

/-- A port in a link break (R164). -/
def PortState.break (x : PortState) : PortState :=
  { x with lineLow := true, rx := .hunt, errorCount := 0, errorCause := .none, flags := 0, mask := 0 }

/-- LINK_BREAK (R164): taken once for each low period. -/
def linkBreak (p : PortId) (s : State) : State :=
  if (s.port p).lineLow then s else (s.setPort p (s.port p).break).drive

/-- The line of a broken port rises (R164). -/
def linkBreakEnd (p : PortId) (s : State) : State :=
  s.setPort p { s.port p with lineLow := false }

/-- The reply at the front of the list has been sent (R168). -/
def replySent (p : PortId) (s : State) : State :=
  s.setPort p { s.port p with replies := (s.port p).replies.tail }

end Sys2Proof.Machine
end

