-- ==== Sys2Proof/Machine/DispatchCommands.lean ====
section
/-! DEFINITION. The requests of the dispatch port (R165, second group): each is taken by R166 and answered by the block that
owns it. -/

namespace Sys2Proof.Machine

/-- SUBMIT_TASK (R110). -/
def execSubmitTask (p : PortId) (tag : BitVec 16) (mass bay frame : Byte) (s : State) :
    Host.Outcome State Fault Refusal :=
  .next (takeRequest p .submitTask (submitTask tag mass.toNat bay.toNat frame.toNat) s)

/-- CANCEL_TASK (R122). -/
def execCancelTask (p : PortId) (id : Byte) (s : State) :
    Host.Outcome State Fault Refusal :=
  .next (takeRequest p .cancelTask (cancelTask id.toNat) s)

/-- REDIRECT_TASK (R125). -/
def execRedirectTask (p : PortId) (id bay : Byte) (s : State) :
    Host.Outcome State Fault Refusal :=
  .next (takeRequest p .redirectTask (redirectTask id.toNat bay.toNat) s)

/-- TAKE_COMPLETION (R126). -/
def execTakeCompletion (p : PortId) (s : State) :
    Host.Outcome State Fault Refusal :=
  .next (takeRequest p .takeCompletion takeCompletion s)

/-- HOLD (R150). -/
def execHold (p : PortId) (s : State) :
    Host.Outcome State Fault Refusal :=
  .next (takeRequest p .hold requestHold s)

/-- RESUME (R151). -/
def execResume (p : PortId) (s : State) :
    Host.Outcome State Fault Refusal :=
  .next (takeRequest p .resume requestResume s)

/-- LOCKOUT (R152). -/
def execLockout (p : PortId) (s : State) :
    Host.Outcome State Fault Refusal :=
  .next (takeRequest p .lockout requestLockout s)

/-- UNLOCK (R153). -/
def execUnlock (p : PortId) (s : State) :
    Host.Outcome State Fault Refusal :=
  .next (takeRequest p .unlock requestUnlock s)

/-- ACK_STOP (R155). -/
def execAckStop (p : PortId) (s : State) :
    Host.Outcome State Fault Refusal :=
  .next (takeRequest p .ackStop acknowledgeStop s)

/-- CLEAR_TRIP (R156). -/
def execClearTrip (p : PortId) (frame : Byte) (s : State) :
    Host.Outcome State Fault Refusal :=
  .next (takeRequest p .clearTrip (clearTrip frame.toNat) s)

/-- SET_TUNING (R14). -/
def execSetTuning (p : PortId) (present : Byte) (vlU : BitVec 16) (legU : Byte) (vlL : BitVec 16) (legL len : Byte)
    (entries : List Byte) (s : State) :
    Host.Outcome State Fault Refusal :=
  .next (takeRequest p .setTuning (setTuning ⟨present, vlU.toNat, legU.toNat, vlL.toNat, legL.toNat, len.toNat, entries.map BitVec.toNat⟩) s)

/-- SET_SURVEY_ITEM (R6). -/
def execSetSurveyItem (p : PortId) (item index : Byte) (value : BitVec 32) (s : State) :
    Host.Outcome State Fault Refusal :=
  .next (takeRequest p .setSurveyItem (setSurveyItem item.toNat index.toNat value.toNat) s)

/-- SAVE_SURVEY (R8). -/
def execSaveSurvey (p : PortId) (s : State) :
    Host.Outcome State Fault Refusal :=
  .next (takeRequest p .saveSurvey saveSurvey s)

/-- DECLARE_MASS (R99). -/
def execDeclareMass (p : PortId) (id : Byte) (nominal : BitVec 16) (kind place1 place2 : Byte) (s : State) :
    Host.Outcome State Fault Refusal :=
  .next (takeRequest p .declareMass (declareMass id.toNat nominal.toNat kind.toNat place1.toNat place2.toNat) s)

/-- CONFIRM_INVENTORY (R100). -/
def execConfirmInventory (p : PortId) (s : State) :
    Host.Outcome State Fault Refusal :=
  .next (takeRequest p .confirmInventory confirmInventory s)

/-- SAVE_INVENTORY (R95). -/
def execSaveInventory (p : PortId) (s : State) :
    Host.Outcome State Fault Refusal :=
  .next (takeRequest p .saveInventory saveInventory s)

/-- SET_BAY_SERVICE (R101). -/
def execSetBayService (p : PortId) (bay flag : Byte) (s : State) :
    Host.Outcome State Fault Refusal :=
  .next (takeRequest p .setBayService (setBayService bay.toNat flag.toNat) s)

/-- SET_LANDING_SERVICE (R102). -/
def execSetLandingService (p : PortId) (landing flag : Byte) (s : State) :
    Host.Outcome State Fault Refusal :=
  .next (takeRequest p .setLandingService (setLandingService landing.toNat flag.toNat) s)

end Sys2Proof.Machine
end

