-- ==== Sys2Proof/Machine/Time.lean ====
section
/-! DEFINITION. Shaft time (R1) and the expiries that fall due by it: staleness (R30), transfer timer (R141) and gap
limit (R163); and what the part does when no command waits (log 2). -/

namespace Sys2Proof.Machine

/-- An expiry has been reached: the shaft time is at it, or past it by less than half the range of the clock (R1;
log 35). -/
def reached (now expiry : BitVec 32) : Bool :=
  decide ((now - expiry).toNat < 2147483648)

/-- A timer runs and has reached its expiry. -/
def timerDue (now : BitVec 32) (timer : Option (BitVec 32)) : Bool :=
  match timer with
  | some x => reached now x
  | none => false

/-- Frame f's staleness timer is due (R30). -/
def stalenessDue (s : State) (f : Frame) : Bool :=
  timerDue s.time (s.tracker f).timer

/-- The timer of frame f's transfer is due (R141). -/
def transferDue (s : State) (f : Frame) : Bool :=
  match s.transfer f with
  | some t => t.phase == .gearRunning && timerDue s.time t.timer
  | none => false

/-- The time of the last byte taken, while the gap limit runs (R163). -/
def Rx.lastByte : Rx → Option (BitVec 32)
  | .hunt => none
  | .type last => some last
  | .length _ last => some last
  | .payload _ _ _ last => some last
  | .check _ _ _ last => some last

/-- More than 5 ms have passed since the last byte of a frame (R163). -/
def gapDue (s : State) (p : PortId) : Bool :=
  timerDue s.time ((s.port p).rx.lastByte.map (· + BitVec.ofNat 32 (Config.gapLimit + 1)))

/-- STALENESS_EXPIRY (R30); a timer that is not due does not expire (log 3). -/
def stalenessExpires (f : Frame) (s : State) : State :=
  if stalenessDue s f then (stalenessEnds f s).drive else s

/-- TRANSFER_TIMER_EXPIRY (R141). -/
def transferExpires (f : Frame) (s : State) : State :=
  if transferDue s f then (failRunning f .transferTimeout s).drive else s

/-- GAP_EXPIRY (R163). -/
def gapExpires (p : PortId) (s : State) : State :=
  if gapDue s p then discardFrame p .gap s else s

/-- Shaft time moves on by a millisecond (R1). -/
def advanceTime (s : State) : State :=
  { s with time := s.time + 1 }

/-- The expiries that are due, in the order in which the part takes them when no command waits (log 2). -/
def dueExpiries (s : State) : List (State → State) :=
  (([Frame.U, .L].filter (stalenessDue s)).map stalenessExpires) ++
  (([Frame.U, .L].filter (transferDue s)).map transferExpires) ++
  (([0, 1, 2, 3] : List PortId).filter (gapDue s)).map gapExpires

/-- With no command waiting: the first expiry that is due, or else one millisecond of shaft time (log 2). -/
def tick (s : State) : State :=
  match dueExpiries s with
  | e :: _ => e s
  | [] => advanceTime s

end Sys2Proof.Machine
end

