-- ==== Sys2Proof/Machine/LinkCommands.lean ====
section
/-! DEFINITION. The commands that LKU takes on its own account: bytes, discards, breaks, sent replies, unknown requests. -/

namespace Sys2Proof.Machine

/-- UNKNOWN_REQUEST (R166): a taken frame whose type R165 does not list. -/
def execUnknownRequest (p : PortId) (type : Byte) (payload : List Byte) (s : State) :
    Host.Outcome State Fault Refusal :=
  .next (takeBytes p type payload s)

/-- FRAME_DISCARDED (R163). -/
def execFrameDiscarded (p : PortId) (cause : DiscardCause) (s : State) :
    Host.Outcome State Fault Refusal :=
  .next (frameDiscarded p cause s)

/-- GAP_EXPIRY (R163). -/
def execGapExpiry (p : PortId) (s : State) :
    Host.Outcome State Fault Refusal :=
  .next (gapExpires p s)

/-- LINK_BREAK (R164). -/
def execLinkBreak (p : PortId) (s : State) :
    Host.Outcome State Fault Refusal :=
  .next (linkBreak p s)

/-- LINK_BREAK_END (R164). -/
def execLinkBreakEnd (p : PortId) (s : State) :
    Host.Outcome State Fault Refusal :=
  .next (linkBreakEnd p s)

/-- REPLY_SENT (R168). -/
def execReplySent (p : PortId) (s : State) :
    Host.Outcome State Fault Refusal :=
  .next (replySent p s)

/-- LINK_BYTE_RECEIVED (R161). -/
def execLinkByteReceived (p : PortId) (b : Byte) (s : State) :
    Host.Outcome State Fault Refusal :=
  .next (receiveByte p b s)

end Sys2Proof.Machine
end

