-- ==== Sys2Proof/Machine/StartUp.lean ====
section
/-! DEFINITION. Cold reset, start-up and the ends of store operations (11_persistent_store_and_start_up.md, R184; R93,
R94). -/

namespace Sys2Proof.Machine

/-! ### COLD_RESET (R148, R159, R160, R178) -/

/-- The role of a strap code (R159). -/
def roleOfStrap (code : BitVec 2) : Role :=
  if code = 0#2 then .monitor else if code = 1#2 then .winderU else if code = 2#2 then .winderL else .dispatch

/-- The roles are sound (R159). -/
def soundRoles (roles : List Role) : Bool :=
  roles.count .winderU == 1 && roles.count .winderL == 1 && roles.count .dispatch == 1

/-- The part in cold reset with its roles sampled and the level of STOP_N (R148, R159); commands that wait stay. -/
def sampled (roles : List Role) (stop : Bool) (pending : List Instr) : State :=
  { State.reset with
    ports := Bank.ofFn 4 (fun i => PortState.initial (roles.getD i .monitor))
    mdc := { State.reset.mdc with stopN := stop, latch := stop }
    pending := pending }

/-- The read of a region begins (R175). -/
def beginRead (r : Region) (s : State) : State :=
  s.setSti { s.sti with op := .read r }

/-- Start-up stands at a step. -/
def setStartUp (x : StartUp) (s : State) : State :=
  { s with startUp := x }

/-- What follows the sampling: strap fault, or the read of the SURVEY region (R160, R178). -/
def afterStraps (sound : Bool) (s : State) : State :=
  if sound then setStartUp .surveyRead (beginRead .survey s)
  else s.setMdc { s.mdc with strapFault := true }

/-- COLD_RESET (R178). -/
def coldReset (roles : List Role) (stop : Bool) (s : State) : State :=
  (afterStraps (soundRoles roles) (sampled roles stop s.pending)).drive

/-! ### The end of a read (R177) -/

/-- The current slot and generation of a region that a read found, nothing being in flight any more (R177). -/
def endRead (r : Region) (chosen : Option (Slot × BitVec 32 × List Byte)) (s : State) : State :=
  s.setSti { s.sti with
    op := .idle
    current := s.sti.current.set r (chosen.map (·.1))
    generation := s.sti.generation.set r ((chosen.map (·.2.1)).getD 0) }

/-- The read of a region is the operation in flight, and start-up waits for it. -/
def awaitsRead (s : State) (x : StartUp) (r : Region) : Bool :=
  s.startUp == x && s.sti.op == .read r

/-! ### SURVEY_READ_END (R178, R184) -/

/-- The numbers of fields of given widths. -/
def readFields : List Nat → List Byte → List Nat
  | [], _ => []
  | w :: ws, bytes => leNat (bytes.take w) :: readFields ws (bytes.drop w)

/-- The widths of the items of a SURVEY body. -/
def surveyWidths : List Nat :=
  (surveyFields Survey.factory).map Prod.fst

/-- The winder items from their ten numbers. -/
def winderOf (x : Nat → Nat) : Winder :=
  { ab := x 0, tr := x 1, vlMax := x 2, k := x 3, ovr := x 4, pl := x 5, rto := x 6, ptol := x 7, defaultVl := x 8,
    defaultLeg := x 9 }

/-- The survey from the numbers of its items in body order. -/
def surveyOf (x : Nat → Nat) : Survey :=
  { sl := x 0, zl := x 1, he := x 2, fh := x 3, c := x 4, lvt := x 5, ldt := x 6, tto := x 7, nl := x 8
    le := Bank.ofFn 12 (fun k => x (9 + 2 * k)), bays := Bank.ofFn 12 (fun k => x (10 + 2 * k))
    winder := ⟨winderOf (fun i => x (33 + i)), winderOf (fun i => x (43 + i))⟩
    tableLen := x 53, table := Bank.ofFn 8 (fun i => x (54 + i)) }

/-- The survey that the items of a body spell (12, "Store images"). -/
def decodeSurvey (items : List Byte) : Survey :=
  let xs := readFields surveyWidths items
  surveyOf (fun i => xs.getD i 0)

/-- The body passes the ranges of R184 and checks 1 to 8 (R178). -/
def Survey.passes (sv : Survey) : Bool :=
  sv.inRange && sv.shapeCheck.isNone

/-- The survey that start-up takes from the chosen body; none for the factory values (R178). -/
def startSurvey (chosen : Option (Slot × BitVec 32 × List Byte)) : Option Survey :=
  (chosen.map (fun x => decodeSurvey x.2.2)).filter Survey.passes

/-- SVT, ARB and GRU take the survey that start-up found (R13, R178). The account is valued by the working survey
(R96), so it follows; no record is loaded yet, and it is 0. -/
def loadSurvey (found : Option Survey) (s : State) : State :=
  let sv := found.getD Survey.factory
  let st : SurveyState := if found.isSome then .valid else .unconfigured
  let t := s.setSvt { working := sv, edit := sv, state := st, saveOutstanding := false, tuning := sv.tuning }
  let t := (t.setGru { t.gru with grants := ⟨none, none⟩ }).setArb (t.arb.adopt sv)
  t.setInv (t.inv.recompute sv)

/-- SURVEY_READ_END (R177, R178). -/
def surveyReadEnds (slotA slotB : List (List Byte)) (s : State) : State :=
  let chosen := chooseSlot (slotImage .survey slotA) (slotImage .survey slotB)
  let t := loadSurvey (startSurvey chosen) (endRead .survey chosen s)
  (setStartUp .inventoryRead (beginRead .inventory t)).drive

/-! ### INVENTORY_READ_END (R179, R180, R184) -/

/-- A record is UNACCOUNTED with no place. -/
def Mass.placeless (nominal : Nat) : Mass :=
  { state := .unaccounted, nominal := nominal, bay := none, frame := none, landing := none, task := none }

/-- The record of a decoded state and place; none where a field the state requires is absent or out of range (R184). -/
def placedRecord (state : MassState) (nominal bay frame landing : Nat) : Option Mass :=
  let r := { Mass.placeless nominal with state := state }
  match state with
  | .absent => some r
  | .unaccounted => some r
  | .stored => if bay ≤ 39 then some { r with bay := some bay } else none
  | .carried =>
      match frameOfCode frame with
      | some f => if landing ≤ 11 then some { r with frame := some f, landing := some landing } else none
      | none => none
  | .inTransfer =>
      match frameOfCode frame with
      | some f => if bay ≤ 39 then some { r with bay := some bay, frame := some f } else none
      | none => none

/-- The record that seven bytes spell for mass id n, none where it is taken as UNACCOUNTED (R184). -/
def decodedRecord (n : Nat) (bytes : List Byte) : Option Mass :=
  let xs := readFields [1, 1, 2, 1, 1, 1] bytes
  let nominal := xs.getD 2 0
  if xs.getD 0 0 = n ∧ 5000 ≤ nominal ∧ nominal ≤ 60000 then
    (massStateOfCode (xs.getD 1 0)).bind
      (fun st => placedRecord st nominal (xs.getD 3 0) (xs.getD 4 0) (xs.getD 5 0))
  else none

/-- The nominal of seven bytes, clamped (R184). -/
def decodedNominal (bytes : List Byte) : Nat :=
  clampTo 5000 60000 (leNat ((bytes.drop 2).take 2))

/-- A record as decoded, with whether decoding made it UNACCOUNTED (R184). -/
def decodeMass (n : Nat) (bytes : List Byte) : Mass × Bool :=
  match decodedRecord n bytes with
  | some r => (r, false)
  | none => (Mass.placeless (decodedNominal bytes), true)

/-- The forty records of a body as decoded. -/
def decodeMasses (items : List Byte) : List (Mass × Bool) :=
  (List.range 40).map (fun i => decodeMass (i + 1) ((items.drop (7 * i)).take 7))

/-- Two records name the same place: a bay, or a frame (R179). -/
def samePlace (a b : Mass) : Bool :=
  (a.namedBay.isSome && a.namedBay == b.namedBay) || (a.namedFrame.isSome && a.namedFrame == b.namedFrame)

/-- A record names a bay or a landing outside the shaft of the survey (R179). -/
def outsideShaft (sv : Survey) (r : Mass) : Bool :=
  (match r.namedBay with
    | some b => decide (sv.nb ≤ b)
    | none => false) ||
  (match r.landing with
    | some k => decide (sv.nl ≤ k)
    | none => false)

/-- The checks of R179 fail for a record, judged against the records of lower id as decoded (log 18). -/
def mustLose (survey : Option Survey) (lower : List Mass) (r : Mass) : Bool :=
  r.state == .inTransfer ||
    (match survey with
      | some sv => outsideShaft sv r
      | none => false) ||
    lower.any (samePlace r)

/-- The records after the checks of R179, from id 1 upward, each with whether start-up made it UNACCOUNTED. -/
def judgeMasses (survey : Option Survey) : List Mass → List (Mass × Bool) → List (Mass × Bool)
  | _, [] => []
  | lower, (r, made) :: rest =>
      let entry := if mustLose survey lower r then (Mass.placeless r.nominal, true) else (r, made)
      entry :: judgeMasses survey (lower ++ [r]) rest

/-- The service byte at an offset is yes (R184). -/
def serviceByte (items : List Byte) (offset : Nat) : Bool :=
  items.getD offset 0 == 1

/-- The valid survey, none where the survey is UNCONFIGURED. -/
def validSurvey (s : State) : Option Survey :=
  if s.svt.state = .valid then some s.svt.working else none

/-- The judged records of a body (R179, R184). -/
def loadedMasses (s : State) (items : List Byte) : List (Mass × Bool) :=
  judgeMasses (validSurvey s) [] (decodeMasses items)

/-- INV with the records, flags and state of a body (R179); the indications are volatile and stay. -/
def Inv.load (x : Inv) (items : List Byte) (masses : List (Mass × Bool)) : Inv :=
  { x with
    masses := Bank.ofFn 40 (fun i => ((masses[i]?).map Prod.fst).getD Mass.unreadable)
    bays := Bank.ofFn 40 (fun b => { Bay.unreadable with inService := serviceByte items (280 + b) })
    landings := Bank.ofFn 12 (fun k =>
      { x.landings.getD k Landing.unreadable with inService := serviceByte items (320 + k) })
    verified := serviceByte items 332 && !masses.any Prod.snd }

/-- INV with the values of an unreadable region (R179); the indications are volatile and stay. -/
def Inv.loadUnreadable (x : Inv) : Inv :=
  { x with
    masses := Bank.ofFn 40 (fun _ => Mass.unreadable)
    bays := Bank.ofFn 40 (fun _ => Bay.unreadable)
    landings := Bank.ofFn 12 (fun k => { x.landings.getD k Landing.unreadable with inService := true })
    verified := false }

/-- INV's state takes a loaded value: bay contents and the account are rebuilt (R86, R96, R179). -/
def adoptInventory (x : Inv) (s : State) : State :=
  s.setInv (x.rebuildBays.recompute s.svt.working)

/-- INVENTORY_STATE is raised where a condition holds (R179). -/
def announceIf (b : Bool) (s : State) : State :=
  if b then s.raiseWatchers .inventoryState else s

/-- A chosen body is loaded (R179): a save is requested where the inventory differs from it (log 19). -/
def loadBody (items : List Byte) (s : State) : State :=
  let t := adoptInventory (s.inv.load items (loadedMasses s items)) s
  let t := announceIf (serviceByte items 332 && !t.inv.verified) t
  saveRequestIf (inventoryBody t.inv != items) t

/-- An unreadable region is loaded (R179). -/
def loadNothing (s : State) : State :=
  saveRequest [] (announceIf true (adoptInventory s.inv.loadUnreadable s))

/-- INV loads what the read of its region found (R179). -/
def loadInventory (chosen : Option (Slot × BitVec 32 × List Byte)) (s : State) : State :=
  match chosen with
  | some (_, _, items) => loadBody items s
  | none => loadNothing s

/-- The mode that start-up enters (R180). -/
def startMode (s : State) : Mode :=
  if s.svt.state = .valid ∧ s.inv.verified then .hold else .lockout

/-- Start-up ends by entering the mode (R180). -/
def enterMode (s : State) : State :=
  setStartUp .ended (changeMode (startMode s) s)

/-- INVENTORY_READ_END (R177, R179, R180). -/
def inventoryReadEnds (slotA slotB : List (List Byte)) (s : State) : State :=
  let chosen := chooseSlot (slotImage .inventory slotA) (slotImage .inventory slotB)
  (enterMode (loadInventory chosen (endRead .inventory chosen s))).drive

/-! ### STORE_ATTEMPT_END (R93, R94, R176) -/

/-- Waiting requesters are told, in the order in which they asked (log 17). -/
def tellAll (ws : List Waiter) (saved : Bool) (s : State) : State :=
  ws.foldl (fun t w => saveAnswered w saved t) s

/-- The save state takes a value and no requester waits any more. -/
def settleSave (x : SaveState) (s : State) : State :=
  s.setInv { s.inv with save := x, carriedWaiters := [], nextWaiters := [] }

/-- An INVENTORY write has completed (R93). -/
def inventoryWriteCompleted (s : State) : State :=
  match s.inv.save with
  | .writing => tellAll s.inv.carriedWaiters true (settleSave .clean s)
  | .writingDirty =>
      let t := tellAll s.inv.carriedWaiters true s
      startInventoryWrite t.inv.nextWaiters t
  | .clean => s
  | .notSaved => s

/-- Entry into NOT_SAVED, its requesters told (R93, R94). -/
def enterNotSaved (s : State) : State :=
  let t := tellAll (s.inv.carriedWaiters ++ s.inv.nextWaiters) false (settleSave .notSaved s)
  enterHold (t.raiseWatchers .storeFault)

/-- An INVENTORY write has failed (R93). -/
def inventoryWriteFailed (s : State) : State :=
  match s.inv.save with
  | .writing => enterNotSaved s
  | .writingDirty => enterNotSaved s
  | .clean => s
  | .notSaved => s

/-- STI tells the block that handed over a write of its end (R176). -/
def tellWriteEnd (r : Region) (completed : Bool) (s : State) : State :=
  match r, completed with
  | .survey, true => takeOverSurvey s
  | .survey, false => surveySaveFailed s
  | .inventory, true => inventoryWriteCompleted s
  | .inventory, false => inventoryWriteFailed s

/-- STI with a write's slot and generation made current (R176). -/
def Sti.commit (x : Sti) (r : Region) (slot : Slot) (generation : BitVec 32) : Sti :=
  { x with current := x.current.set r (some slot), generation := x.generation.set r generation }

/-- STORE_ATTEMPT_END while a write is in flight (R176): the waiting write begins before the block is told (R175). -/
def attemptEnds (r : Region) (slot : Slot) (generation : BitVec 32) (good : Bool) (s : State) : State :=
  if good then tellWriteEnd r true (s.setSti (s.sti.commit r slot generation).endOperation)
  else if s.sti.attempts + 1 < Config.storeAttempts then s.setSti { s.sti with attempts := s.sti.attempts + 1 }
  else tellWriteEnd r false (s.setSti s.sti.endOperation)

/-- STORE_ATTEMPT_END (R176); with no write in flight there is no attempt to end (log 3). -/
def storeAttemptEnds (readBack : Option (List Byte)) (s : State) : State :=
  match s.sti.op with
  | .write r slot generation image => (attemptEnds r slot generation (readBack == some image) s).drive
  | .read _ => s
  | .idle => s

end Sys2Proof.Machine
end

