-- ==== Sys2Proof/Machine/PlantCommands.lean ====
section
/-! DEFINITION. The commands that come from the plant, the timers, reset and the store. Each that finds its event's condition
absent is no event and changes nothing (log 3). -/

namespace Sys2Proof.Machine

/-- STOP_N goes from released to asserted; asserted already, nothing is taken (R154). -/
def stopAsserted (s : State) : State :=
  if s.mdc.stopN then s else (assertStop s).drive

/-- STOP_N goes from asserted to released; released already, nothing is taken (R155). -/
def stopReleased (s : State) : State :=
  if s.mdc.stopN then (releaseStop s).drive else s

/-- The read of the SURVEY region ends, where start-up waits for it (R178; log 3). -/
def surveyReadEnd (slotA slotB : List (List Byte)) (s : State) : State :=
  if awaitsRead s .surveyRead .survey then surveyReadEnds slotA slotB s else s

/-- The read of the INVENTORY region ends, where start-up waits for it (R179; log 3). -/
def inventoryReadEnd (slotA slotB : List (List Byte)) (s : State) : State :=
  if awaitsRead s .inventoryRead .inventory then inventoryReadEnds slotA slotB s else s

/-- STALENESS_EXPIRY (R30). -/
def execStalenessExpiry (f : Frame) (s : State) :
    Host.Outcome State Fault Refusal :=
  .next (stalenessExpires f s)

/-- TRANSFER_TIMER_EXPIRY (R141). -/
def execTransferTimerExpiry (f : Frame) (s : State) :
    Host.Outcome State Fault Refusal :=
  .next (transferExpires f s)

/-- STOP_N_ASSERTION (R154). -/
def execStopNAssertion (s : State) :
    Host.Outcome State Fault Refusal :=
  .next (stopAsserted s)

/-- STOP_N_RELEASE (R155). -/
def execStopNRelease (s : State) :
    Host.Outcome State Fault Refusal :=
  .next (stopReleased s)

/-- GDONE_RISING (R139, R143). -/
def execGdoneRising (k : Fin 12) (s : State) :
    Host.Outcome State Fault Refusal :=
  .next ((gdoneEdge k.val s).drive)

/-- GFLT_RISING (R140, R143). -/
def execGfltRising (k : Fin 12) (s : State) :
    Host.Outcome State Fault Refusal :=
  .next ((gfltEdge k.val s).drive)

/-- COLD_RESET (R178). -/
def execColdReset (strap0 strap1 strap2 strap3 : BitVec 2) (stopAsserted : Bool) (s : State) :
    Host.Outcome State Fault Refusal :=
  .next (coldReset ([strap0, strap1, strap2, strap3].map roleOfStrap) stopAsserted s)

/-- SURVEY_READ_END (R178). -/
def execSurveyReadEnd (slotA slotB : List (List Byte)) (s : State) :
    Host.Outcome State Fault Refusal :=
  .next (surveyReadEnd slotA slotB s)

/-- INVENTORY_READ_END (R179). -/
def execInventoryReadEnd (slotA slotB : List (List Byte)) (s : State) :
    Host.Outcome State Fault Refusal :=
  .next (inventoryReadEnd slotA slotB s)

/-- STORE_ATTEMPT_END (R176). -/
def execStoreAttemptEnd (readBack : Option (List Byte)) (s : State) :
    Host.Outcome State Fault Refusal :=
  .next (storeAttemptEnds readBack s)

end Sys2Proof.Machine
end

