-- ==== Sys2Proof/Machine/ReadCommands.lean ====
section
/-! DEFINITION. The requests that every role may send (R165, third group): the reads and the event requests. -/

namespace Sys2Proof.Machine

/-- READ_STATUS (R173). -/
def execReadStatus (p : PortId) (s : State) :
    Host.Outcome State Fault Refusal :=
  .next (takeRequest p .readStatus (readStatus p) s)

/-- READ_FRAME (R35). -/
def execReadFrame (p : PortId) (frame : Byte) (s : State) :
    Host.Outcome State Fault Refusal :=
  .next (takeRequest p .readFrame (readFrame frame.toNat) s)

/-- READ_MASS (R103). -/
def execReadMass (p : PortId) (id : Byte) (s : State) :
    Host.Outcome State Fault Refusal :=
  .next (takeRequest p .readMass (readMass id.toNat) s)

/-- READ_BAY (R103). -/
def execReadBay (p : PortId) (bay : Byte) (s : State) :
    Host.Outcome State Fault Refusal :=
  .next (takeRequest p .readBay (readBay bay.toNat) s)

/-- READ_ENERGY (R104). -/
def execReadEnergy (p : PortId) (s : State) :
    Host.Outcome State Fault Refusal :=
  .next (takeRequest p .readEnergy readEnergy s)

/-- READ_SURVEY_ITEM (R7). -/
def execReadSurveyItem (p : PortId) (item index copy : Byte) (s : State) :
    Host.Outcome State Fault Refusal :=
  .next (takeRequest p .readSurveyItem (readSurveyItem item.toNat index.toNat copy.toNat) s)

/-- READ_TASK_BY_ID (R128). -/
def execReadTaskById (p : PortId) (id : Byte) (s : State) :
    Host.Outcome State Fault Refusal :=
  .next (takeRequest p .readTaskById (readTaskById id.toNat) s)

/-- READ_EVENTS (R171). -/
def execReadEvents (p : PortId) (s : State) :
    Host.Outcome State Fault Refusal :=
  .next (takeRequest p .readEvents (readEvents p) s)

/-- CLEAR_EVENTS (R172). -/
def execClearEvents (p : PortId) (flags : BitVec 16) (s : State) :
    Host.Outcome State Fault Refusal :=
  .next (takeRequest p .clearEvents (clearEvents p flags) s)

/-- SET_EVENT_MASK (R171). -/
def execSetEventMask (p : PortId) (enables : BitVec 16) (s : State) :
    Host.Outcome State Fault Refusal :=
  .next (takeRequest p .setEventMask (setEventMask p enables) s)

end Sys2Proof.Machine
end

