-- ==== Sys2Proof/Machine/WinderCommands.lean ====
section
/-! DEFINITION. The requests of the winder ports (R165, first group): each is taken by R166 and answered by the block
that owns it. -/

namespace Sys2Proof.Machine

/-- POSITION (R18): a position report of the port's frame. -/
def execPosition (p : PortId) (e : BitVec 32) (v : BitVec 16) (m : BitVec 32) (flags : Byte) (s : State) :
    Host.Outcome State Fault Refusal :=
  .next (takeRequest p .position (forWinder p (fun f => position f e v m flags)) s)

/-- REQUEST_TRAVEL (R52). -/
def execRequestTravel (p : PortId) (target : BitVec 32) (s : State) :
    Host.Outcome State Fault Refusal :=
  .next (takeRequest p .requestTravel (forWinder p (fun f => requestTravel f target.toNat)) s)

/-- RELEASE_TRAVEL (R56). -/
def execReleaseTravel (p : PortId) (s : State) :
    Host.Outcome State Fault Refusal :=
  .next (takeRequest p .releaseTravel (forWinder p releaseTravel) s)

/-- READ_GRANT (R69). -/
def execReadGrant (p : PortId) (s : State) :
    Host.Outcome State Fault Refusal :=
  .next (takeRequest p .readGrant (forWinder p readGrant) s)

/-- READ_TASK (R127). -/
def execReadTask (p : PortId) (s : State) :
    Host.Outcome State Fault Refusal :=
  .next (takeRequest p .readTask (forWinder p readTask) s)

/-- TRANSFER (R132). -/
def execTransfer (p : PortId) (s : State) :
    Host.Outcome State Fault Refusal :=
  .next (takeRequest p .transfer (forWinder p requestTransfer) s)

end Sys2Proof.Machine
end

