-- ==== Sys2Proof/Machine/Dispatch.lean ====
section
/-! DEFINITION. The effect of each command on everything but the queue: one arm per constructor of Instr. -/

namespace Sys2Proof.Machine

/-- The effect of a command: one direct call of its meaning. -/
def exec (i : Instr) (s : State) : Host.Outcome State Fault Refusal :=
  match i with
  | .position p e v m flags => Sys2Proof.Machine.execPosition p e v m flags s
  | .requestTravel p target => Sys2Proof.Machine.execRequestTravel p target s
  | .releaseTravel p => Sys2Proof.Machine.execReleaseTravel p s
  | .readGrant p => Sys2Proof.Machine.execReadGrant p s
  | .readTask p => Sys2Proof.Machine.execReadTask p s
  | .transfer p => Sys2Proof.Machine.execTransfer p s
  | .submitTask p tag mass bay frame => Sys2Proof.Machine.execSubmitTask p tag mass bay frame s
  | .cancelTask p id => Sys2Proof.Machine.execCancelTask p id s
  | .redirectTask p id bay => Sys2Proof.Machine.execRedirectTask p id bay s
  | .takeCompletion p => Sys2Proof.Machine.execTakeCompletion p s
  | .hold p => Sys2Proof.Machine.execHold p s
  | .resume p => Sys2Proof.Machine.execResume p s
  | .lockout p => Sys2Proof.Machine.execLockout p s
  | .unlock p => Sys2Proof.Machine.execUnlock p s
  | .ackStop p => Sys2Proof.Machine.execAckStop p s
  | .clearTrip p frame => Sys2Proof.Machine.execClearTrip p frame s
  | .setTuning p present vlU legU vlL legL len entries => Sys2Proof.Machine.execSetTuning p present vlU legU vlL legL len entries s
  | .setSurveyItem p item index value => Sys2Proof.Machine.execSetSurveyItem p item index value s
  | .saveSurvey p => Sys2Proof.Machine.execSaveSurvey p s
  | .declareMass p id nominal kind place1 place2 => Sys2Proof.Machine.execDeclareMass p id nominal kind place1 place2 s
  | .confirmInventory p => Sys2Proof.Machine.execConfirmInventory p s
  | .saveInventory p => Sys2Proof.Machine.execSaveInventory p s
  | .setBayService p bay flag => Sys2Proof.Machine.execSetBayService p bay flag s
  | .setLandingService p landing flag => Sys2Proof.Machine.execSetLandingService p landing flag s
  | .readStatus p => Sys2Proof.Machine.execReadStatus p s
  | .readFrame p frame => Sys2Proof.Machine.execReadFrame p frame s
  | .readMass p id => Sys2Proof.Machine.execReadMass p id s
  | .readBay p bay => Sys2Proof.Machine.execReadBay p bay s
  | .readEnergy p => Sys2Proof.Machine.execReadEnergy p s
  | .readSurveyItem p item index copy => Sys2Proof.Machine.execReadSurveyItem p item index copy s
  | .readTaskById p id => Sys2Proof.Machine.execReadTaskById p id s
  | .readEvents p => Sys2Proof.Machine.execReadEvents p s
  | .clearEvents p flags => Sys2Proof.Machine.execClearEvents p flags s
  | .setEventMask p enables => Sys2Proof.Machine.execSetEventMask p enables s
  | .unknownRequest p type payload => Sys2Proof.Machine.execUnknownRequest p type payload s
  | .frameDiscarded p cause => Sys2Proof.Machine.execFrameDiscarded p cause s
  | .gapExpiry p => Sys2Proof.Machine.execGapExpiry p s
  | .linkBreak p => Sys2Proof.Machine.execLinkBreak p s
  | .replySent p => Sys2Proof.Machine.execReplySent p s
  | .stalenessExpiry f => Sys2Proof.Machine.execStalenessExpiry f s
  | .transferTimerExpiry f => Sys2Proof.Machine.execTransferTimerExpiry f s
  | .stopNAssertion => Sys2Proof.Machine.execStopNAssertion s
  | .stopNRelease => Sys2Proof.Machine.execStopNRelease s
  | .gdoneRising k => Sys2Proof.Machine.execGdoneRising k s
  | .gfltRising k => Sys2Proof.Machine.execGfltRising k s
  | .coldReset strap0 strap1 strap2 strap3 stopAsserted => Sys2Proof.Machine.execColdReset strap0 strap1 strap2 strap3 stopAsserted s
  | .surveyReadEnd slotA slotB => Sys2Proof.Machine.execSurveyReadEnd slotA slotB s
  | .inventoryReadEnd slotA slotB => Sys2Proof.Machine.execInventoryReadEnd slotA slotB s
  | .storeAttemptEnd readBack => Sys2Proof.Machine.execStoreAttemptEnd readBack s
  | .linkByteReceived p b => Sys2Proof.Machine.execLinkByteReceived p b s
  | .linkBreakEnd p => Sys2Proof.Machine.execLinkBreakEnd p s

end Sys2Proof.Machine
end

