-- ==== Sys2Proof/Safety.lean ====
section
/-! DEFINITION. What counts as a sound state of the part and as the effect of a command, in the terms the statements
use: the invariants that every step keeps, and the taking and answering of a request. -/

namespace Sys2Proof.Machine

/-! ### Invariants -/

/-- The output lines have the values their rules give: PERMIT (R67), FAULT (R158), the gear commands (R131), ATTN
(R170). FAULT's survey condition counts once the survey has been read, or strap fault has ended start-up (log 7). -/
structure LinesFollow (s : State) : Prop where
  permit : ∀ f, s.gru.permit.get f = true ↔
    (s.mdc.mode = .run ∧ s.mdc.stopN = false ∧ s.mdc.latch = false ∧ (s.tracker f).state = .tracked ∧
      s.transfer f = none)
  fault : s.mdc.fault = true ↔
    (s.mdc.strapFault = true ∨ (surveySettled s = true ∧ s.svt.state = .unconfigured) ∨
      ∃ f, (s.tracker f).state = .tripped)
  load : ∀ k < 12, s.xfc.ldcmd.getD k false = true ↔
    ∃ f t, s.transfer f = some t ∧ t.phase = .gearRunning ∧ t.kind = .load ∧ t.landing = k
  unload : ∀ k < 12, s.xfc.ulcmd.getD k false = true ↔
    ∃ f t, s.transfer f = some t ∧ t.phase = .gearRunning ∧ t.kind = .unload ∧ t.landing = k
  attn : ∀ p, (s.port p).attn = true ↔ (s.port p).flags &&& (s.port p).mask ≠ 0

/-- Each of the thirty-two task records is in exactly one of the four collections, once (R106). -/
def PoolPartitioned (s : State) : Prop :=
  (s.tku.free ++ s.tku.queues.u ++ s.tku.queues.l ++ s.tku.completion).Perm (List.range 32)

/-- A frame's trip reason set is non-empty exactly when the frame is TRIPPED (R32). -/
def TripsHaveReasons (s : State) : Prop :=
  ∀ f, (s.tracker f).reasons ≠ 0 ↔ (s.tracker f).state = .tripped

/-- Every grant is one run, U's lies above L's (R46), and an UNKNOWN frame owns no zone (R47). -/
structure GrantsApart (s : State) : Prop where
  run : ∀ f g, s.grant f = some g → g.lo ≤ g.hi
  apart : ∀ u l, s.grant .U = some u → s.grant .L = some l → l.hi < u.lo
  unknown : ∀ f, (s.tracker f).state = .unknown → s.grant f = none

/-- The length of a service table is 1 to 8. -/
def tableSized (n : Nat) : Prop :=
  1 ≤ n ∧ n ≤ 8

/-- The service tables have 1 to 8 entries and the pointer names an entry of the working one (R70). -/
structure PointerInTable (s : State) : Prop where
  working : tableSized s.arb.table.length
  pointer : s.arb.pointer < s.arb.table.length
  pending : ∀ t, s.arb.pendingTable = some t → tableSized t.length
  survey : tableSized s.svt.working.tableLen
  edit : tableSized s.svt.edit.tableLen

/-- Each bay's content is the mass whose record names the bay, or empty (R86). -/
def PlacesFollow (s : State) : Prop :=
  ∀ b < 40, (s.bay b).content = bayContent s.inv.masses b

/-- S_raw is the sum of nominal × h over the STORED and CARRIED masses, and STORED_kJ the rounded energy of it
(R96). -/
def AccountFollows (s : State) : Prop :=
  s.inv.sRaw = (massIds.map (fun id => massEnergy s.svt.working (s.mass id))).sum ∧
    s.inv.storedKJ = (s.inv.sRaw * 9807 + 500000000) / 1000000000

/-- The reply lists hold at most four replies (R168), the error counts stop at 255 (R163), and a port's flags and mask
are of its own role (R169, R170). -/
def PortsBounded (s : State) : Prop :=
  ∀ p, (s.port p).replies.length ≤ 4 ∧ (s.port p).errorCount ≤ 255 ∧
    (s.port p).flags &&& ~~~(roleFlags (s.port p).role) = 0 ∧ (s.port p).mask &&& ~~~(roleFlags (s.port p).role) = 0

/-- In RUN the stop chain is released and acknowledged, the inventory is VERIFIED, no write of it has failed, and no
frame is TRIPPED (R149, R151). -/
def RunIsClear (s : State) : Prop :=
  s.mdc.mode = .run →
    s.mdc.stopN = false ∧ s.mdc.latch = false ∧ s.inv.verified = true ∧ s.inv.save ≠ .notSaved ∧
      ∀ f, (s.tracker f).state ≠ .tripped

/-- In LOCKOUT frame f is UNKNOWN, holds no grant, no request and no transfer, and has no live task (R152). -/
structure FrameQuiet (s : State) (f : Frame) : Prop where
  tracking : (s.tracker f).state = .unknown
  grant : s.grant f = none
  request : s.request f = none
  transfer : s.transfer f = none
  queue : s.tku.queues.get f = []

/-- The mode is LOCKOUT until start-up has ended (R148), and LOCKOUT is quiet (R152). -/
structure LockoutIsQuiet (s : State) : Prop where
  startUp : s.startUp ≠ .ended → s.mdc.mode = .lockout
  quiet : s.mdc.mode = .lockout → ∀ f, FrameQuiet s f

/-- How many SURVEY writes STI holds, in flight or waiting. -/
def surveyWrites (x : Sti) : Nat :=
  (match x.op with
    | .write .survey _ _ _ => 1
    | _ => 0) + (if x.waiting.survey.isSome then 1 else 0)

/-- The mass of frame f's transfer is in the transfer's charge: IN_TRANSFER between its bay and the frame (R87), to be
returned to that bay after a load and to that frame after an unload (R134). -/
structure InCharge (s : State) (f : Frame) (t : Transfer) : Prop where
  id : 1 ≤ t.mass ∧ t.mass ≤ 40
  record : (s.mass t.mass).state = .inTransfer ∧ (s.mass t.mass).bay = some t.bay ∧ (s.mass t.mass).frame = some f
  ret : match t.kind with
    | .load => t.ret = .bay t.bay
    | .unload => ∃ k, t.ret = .frame f k

/-- At most one mass record names a bay and at most one names a frame (R86), with what keeps it so: a transfer up to its
verification holds its mass, live tasks name masses, the bays of the working survey and of one being saved have records
(R8), and STI holds a SURVEY write only while a save is outstanding (R10). -/
structure PlacesHeldOnce (s : State) : Prop where
  bay : ∀ i ∈ massIds, ∀ j ∈ massIds, ∀ b,
    (s.mass i).namedBay = some b → (s.mass j).namedBay = some b → i = j
  frame : ∀ i ∈ massIds, ∀ j ∈ massIds, ∀ f,
    (s.mass i).namedFrame = some f → (s.mass j).namedFrame = some f → i = j
  transfer : ∀ f t, s.transfer f = some t → t.phase ≠ .abandoning → t.phase ≠ .finishing → InCharge s f t
  task : ∀ f, ∀ id ∈ s.tku.queues.get f, 1 ≤ (s.task id).mass ∧ (s.task id).mass ≤ 40
  working : s.svt.working.nb ≤ 40
  edit : s.svt.saveOutstanding = true → s.svt.edit.nb ≤ 40 ∧ s.startUp = .ended
  saving : surveyWrites s.sti ≤ (if s.svt.saveOutstanding then 1 else 0)

/-- A mass record as the part holds it (R84): a nominal of 5,000 to 60,000 kg, and the places that its state names and
no other. -/
def Mass.Sound (r : Mass) : Prop :=
  5000 ≤ r.nominal ∧ r.nominal ≤ 60000 ∧
    match r.state with
    | .absent => r.bay = none ∧ r.frame = none ∧ r.landing = none
    | .stored => (∃ b ≤ 39, r.bay = some b) ∧ r.frame = none ∧ r.landing = none
    | .carried => r.bay = none ∧ r.frame ≠ none ∧ ∃ k ≤ 11, r.landing = some k
    | .inTransfer => (∃ b ≤ 39, r.bay = some b) ∧ r.frame ≠ none ∧ r.landing = none
    | .unaccounted => r.bay = none ∧ r.frame = none ∧ r.landing = none

/-! ### What a taken request does -/

/-- A request of type r sent on port p is taken and handed to its block: the line is not held low (R164), fewer than
four replies wait (R168), and none of the conditions of R166 is met. -/
structure Admitted (s : State) (p : PortId) (r : Req) : Prop where
  line : (s.port p).lineLow = false
  room : (s.port p).replies.length < 4
  straps : s.mdc.strapFault = false
  started : s.startUp = .ended
  role : mayBeSent r (s.port p).role = true
  survey : s.svt.state = .unconfigured → r.admittedUnconfigured = true

/-- The state u in which a link frame of a type, taken on port p, is answered with a payload: the port hunts, and the
reply, of that type plus 0x80, joins its list (R161, R166, R168). -/
def repliedTo (p : PortId) (type : Byte) (payload : List Byte) (u : State) : State :=
  u.setPort p { u.port p with
    rx := .hunt
    replies := (u.port p).replies ++
      [{ type := type + 0x80, payload := payload, crc := frameCrc (type + 0x80) payload }] }

/-- The state u in which a request of the table, taken on port p, is answered with a payload. -/
def replied (p : PortId) (r : Req) (payload : List Byte) (u : State) : State :=
  repliedTo p r.typeByte payload u

/-- The bytes of a link frame (12, "The link frame"). -/
def linkFrame (type : Byte) (payload : List Byte) : List Byte :=
  [0xC3, type, BitVec.ofNat 8 payload.length] ++ payload ++ bytes16 (frameCrc type payload)

/-- The commands that stand for the expiries that are due, in the order in which the idle part takes them (log 2). -/
def dueCommands (s : State) : List Instr :=
  ([Frame.U, .L].filter (stalenessDue s)).map Instr.stalenessExpiry ++
    ([Frame.U, .L].filter (transferDue s)).map Instr.transferTimerExpiry ++
    (([0, 1, 2, 3] : List PortId).filter (gapDue s)).map Instr.gapExpiry

/-! ### What a report does to its tracker -/

/-- The plausibility check of R23: the range part, and the movement part where there is a last accepted report. -/
structure PlausibleReport (s : State) (f : Frame) (r : Report) : Prop where
  range : r.e + s.svt.working.fh ≤ s.svt.working.sl
  movement : ∀ last, s.lastReport f = some last →
    (r.e - last.e) + (last.e - r.e) ≤
      ((s.svt.tuning.get f).vl * (r.arrival - last.arrival).toNat + 999) / 1000 + (s.svt.working.winder.get f).ptol

/-- The state with an accepted report kept: it is the last accepted report, the count is 0 and the staleness timer
expires at its arrival plus RTO (R20, R23, R30). -/
def kept (f : Frame) (r : Report) (s : State) : State :=
  s.setTracker f { s.tracker f with
    last := some r, count := 0, timer := some (r.arrival + BitVec.ofNat 32 (s.svt.working.winder.get f).rto) }

/-- The state with a frame tripped by reasons that it did not hold all of, or from another state: TRIPPED, the reasons
added, FRAME_STATE raised, and the shaft in HOLD where it was in RUN (R32, R149). -/
def tripped (f : Frame) (reasons : BitVec 16) (s : State) : State :=
  let t := (s.setTracker f { s.tracker f with
    state := .tripped, reasons := (s.tracker f).reasons ||| reasons }).raiseFrame f .frameState
  if s.mdc.mode = .run then (t.setMdc { t.mdc with mode := .hold }).raiseAll .modeChanged else t

/-- A STALE frame with an accepted report kept comes back to TRACKED, with FRAME_STATE (R31). -/
def recovered (f : Frame) (r : Report) (s : State) : State :=
  ((kept f r s).setTracker f { (kept f r s).tracker f with state := .tracked }).raiseFrame f .frameState

/-- The reply that joins a port's list for a request answered with a payload (R162, R166). -/
def replyOf (r : Req) (payload : List Byte) : Reply :=
  { type := r.typeByte + 0x80, payload := payload, crc := frameCrc (r.typeByte + 0x80) payload }

/-! ### Runs of zones -/

/-- The trim of a grant with a request in force (R58). -/
def trimmed (dir : Dir) (g e window : Run) : Run :=
  match dir with
  | .up => ⟨e.lo, min g.hi (max e.hi window.hi)⟩
  | .down => ⟨max g.lo (min e.lo window.lo), e.hi⟩

/-- A trim with a request in force takes a zone from ahead of the frame (R51). -/
def cutAhead (dir : Dir) (g n : Run) : Bool :=
  match dir with
  | .up => n.hi != g.hi
  | .down => n.lo != g.lo

/-- The state with frame f's grant changed and GRANT_CHANGED raised on its winder port where a condition holds (R51). -/
def regranted (f : Frame) (n : Run) (announce : Bool) (s : State) : State :=
  if announce then (s.setGrant f (some n)).raiseWinder f .grantChanged else s.setGrant f (some n)

/-- A run lies on frame f's own side of the other frame's grant (R20, R156). -/
def OnOwnSide (s : State) (f : Frame) (n : Run) : Prop :=
  ∀ g, s.grant f.other = some g → match f with
    | .U => g.hi < n.lo
    | .L => n.hi < g.lo

end Sys2Proof.Machine
end

