-- ==== Sys2Proof/WellFormed.lean ====
section
/-! DEFINITION. Which command terms stand for an event the part can meet. The widths of the operands are in their
types; what is left to check is the length of the byte lists and the type of an unknown request. -/

namespace Sys2Proof

/-- The read of one slot: one to three attempts (R177). -/
def slotReadWellFormed (attempts : List (List Byte)) : Bool :=
  decide (1 ≤ attempts.length) && decide (attempts.length ≤ Config.storeAttempts)

/-- The check of a command term: its byte lists have the lengths the layouts give (R161, R177, R182) and an unknown
request's type is not one of R165. -/
def Instr.wellFormed : Instr → Bool
  | .position _ _ _ _ _ => true
  | .requestTravel _ _ => true
  | .releaseTravel _ => true
  | .readGrant _ => true
  | .readTask _ => true
  | .transfer _ => true
  | .submitTask _ _ _ _ _ => true
  | .cancelTask _ _ => true
  | .redirectTask _ _ _ => true
  | .takeCompletion _ => true
  | .hold _ => true
  | .resume _ => true
  | .lockout _ => true
  | .unlock _ => true
  | .ackStop _ => true
  | .clearTrip _ _ => true
  | .setTuning _ _ _ _ _ _ _ entries => decide (entries.length = 8)
  | .setSurveyItem _ _ _ _ => true
  | .saveSurvey _ => true
  | .declareMass _ _ _ _ _ _ => true
  | .confirmInventory _ => true
  | .saveInventory _ => true
  | .setBayService _ _ _ => true
  | .setLandingService _ _ _ => true
  | .readStatus _ => true
  | .readFrame _ _ => true
  | .readMass _ _ => true
  | .readBay _ _ => true
  | .readEnergy _ => true
  | .readSurveyItem _ _ _ _ => true
  | .readTaskById _ _ => true
  | .readEvents _ => true
  | .clearEvents _ _ => true
  | .setEventMask _ _ => true
  | .unknownRequest _ type payload => (Req.ofType type).isNone && decide (payload.length ≤ Config.maxPayload)
  | .frameDiscarded _ _ => true
  | .gapExpiry _ => true
  | .linkBreak _ => true
  | .replySent _ => true
  | .stalenessExpiry _ => true
  | .transferTimerExpiry _ => true
  | .stopNAssertion => true
  | .stopNRelease => true
  | .gdoneRising _ => true
  | .gfltRising _ => true
  | .coldReset _ _ _ _ _ => true
  | .surveyReadEnd slotA slotB => slotReadWellFormed slotA && slotReadWellFormed slotB
  | .inventoryReadEnd slotA slotB => slotReadWellFormed slotA && slotReadWellFormed slotB
  | .storeAttemptEnd _ => true
  | .linkByteReceived _ _ => true
  | .linkBreakEnd _ => true

/-- A well-formed command. -/
abbrev Instr.WellFormed (i : Instr) : Prop :=
  i.wellFormed = true

end Sys2Proof
end

