-- ==== Sys2Proof/Certificates/Slice0/Obligations.lean ====
section
/-! DEFINITION. The statements for the provers. Each `Obligations.<Name>` is a proposition about the model, with the
rule or the chapter it comes from. `replied p r payload u` is the state u with a request of type r on port p answered;
an equation for the next state says with it that everything the right-hand side does not name is unchanged. -/

open Sys2Proof Sys2Proof.Machine

/-! ### The step, the queue and shaft time -/

/-- A step with a command at the front of the queue is that command's effect, with the rest of the queue waiting. -/
def Obligations.StepTakesTheFrontCommand : Prop :=
  ∀ (c : Instr) (q : List Instr) (s : State), step (s.withPending (c :: q)) = exec c (s.withPending q)

/-- With no command waiting the step takes the first expiry that is due, and where none is due one millisecond of shaft
time passes and nothing else changes. The choice is the model's own (log 2). -/
def Obligations.IdleStepTakesAnExpiryOrAMillisecond : Prop :=
  ∀ s : State, s.pending = [] →
    (∀ c cs, dueCommands s = c :: cs → step s = exec c s) ∧
    (dueCommands s = [] → step s = .next { s with time := s.time + 1 })

/-- Every command completes, in every state: no command ends in a fault or a refusal, which is the model's reading of a
manual that names no event that stops the part (DEDUCED, log 37). None but the step touches the queue, which is the
model's own and survives COLD_RESET too (DESIGN CHOICE, log 4). -/
def Obligations.EveryCommandCompletesAndKeepsTheQueue : Prop :=
  ∀ (c : Instr) (s : State), ∃ t, exec c s = .next t ∧ t.pending = s.pending

/-! ### Requests and their bytes -/

/-- The payload that a well-formed request command is written as is read back as that command, every operand at every
value (R182), and its length is the one the request table gives. -/
def Obligations.RequestsReadBackFromTheirPayloads : Prop :=
  ∀ (i : Instr) (p : PortId) (r : Req) (payload : List Byte), i.WellFormed →
    encodeRequest i = some (p, r, payload) → decodeRequest p r payload = some i ∧ payload.length = r.payloadLength

/-- The bytes of a request's link frame, taken one after another by a port that hunts, do what the request command
does (R161, R162, R166). That a request row stands for the end of its whole link frame is the model's choice (log 1). -/
def Obligations.BytesOfAFrameActAsTheRequest : Prop :=
  ∀ (i : Instr) (p : PortId) (r : Req) (payload : List Byte) (s : State), i.WellFormed →
    encodeRequest i = some (p, r, payload) → (s.port p).rx = .hunt →
    Host.Core.run Sys2Proof.core (linkFrame r.typeByte payload).length
        (s.withPending ((linkFrame r.typeByte payload).map (Instr.linkByteReceived p))) =
      exec i (s.withPending [])

/-- A few payloads written out byte by byte from 12_message_and_image_layouts.md read as the requests they stand for,
and a payload of another length as none; type bytes and status codes are those of R165 and R167. -/
def Obligations.PayloadsFromTheLayoutsReadRight : Prop :=
  decodeRequest 1 .position [0x38, 0x5E, 0x06, 0x00, 0xC0, 0xE0, 0x30, 0x75, 0x00, 0x00, 0x01] =
      some (.position 1 417336 (-8000) 30000 1) ∧
    decodeRequest 2 .requestTravel [0xE8, 0x5C, 0x06, 0x00] = some (.requestTravel 2 417000) ∧
    decodeRequest 0 .submitTask [0xF5, 0x01, 0x03, 0x09, 0x02] = some (.submitTask 0 501 3 9 2) ∧
    decodeRequest 0 .declareMass [0x15, 0xA8, 0x61, 0x02, 0x01, 0x03] = some (.declareMass 0 21 25000 2 1 3) ∧
    decodeRequest 3 .setEventMask [0x02, 0x1D] = some (.setEventMask 3 0x1D02) ∧
    decodeRequest 3 .readEvents [0x00] = none ∧
    [Req.position, .transfer, .submitTask, .takeCompletion, .hold, .clearTrip, .setTuning, .saveSurvey, .declareMass,
        .setLandingService, .readStatus, .readTaskById, .readEvents, .setEventMask].map Req.typeByte =
      [0x01, 0x06, 0x20, 0x23, 0x28, 0x2D, 0x30, 0x32, 0x38, 0x3C, 0x40, 0x46, 0x48, 0x4A] ∧
    [Status.ok, .pending, .role, .noTask, .frame, .storeFault, .strapFault].map Status.code =
      [0x00, 0x01, 0x10, 0x1A, 0x20, 0x2A, 0x2D]

/-! ### Invariants that every step keeps -/

/-- PERMIT, FAULT, the gear commands and ATTN have the values their rules give after every step (R67, R131, R158,
R170). -/
def Obligations.OutputLinesFollowTheirConditions : Prop :=
  ∀ s t : State, LinesFollow s → step s = .next t → LinesFollow t

/-- Each task record stays in exactly one of the four collections, once (R106). -/
def Obligations.TaskPoolStaysPartitioned : Prop :=
  ∀ s t : State, PoolPartitioned s → step s = .next t → PoolPartitioned t

/-- Grants stay runs, U's above L's, and an UNKNOWN frame owns no zone (R46, R47). -/
def Obligations.GrantsStayApart : Prop :=
  ∀ s t : State, GrantsApart s → step s = .next t → GrantsApart t

/-- The service pointer always names an entry of the working service table (R70). -/
def Obligations.ServicePointerStaysInItsTable : Prop :=
  ∀ s t : State, PointerInTable s → step s = .next t → PointerInTable t

/-- Bay contents follow the mass records, and S_raw and STORED_kJ follow them and the working survey (R96). At most one
mass record names a bay and at most one names a frame (R86), in states whose other invariants hold. -/
def Obligations.BaysAndStoredEnergyFollowTheMassRecords : Prop :=
  ∀ s t : State, step s = .next t →
    (PlacesFollow s → PlacesFollow t) ∧ (AccountFollows s → AccountFollows t) ∧
      (PlacesHeldOnce s → PlacesFollow s → PoolPartitioned s → LockoutIsQuiet s → PlacesHeldOnce t)

/-- Reply lists, error counts, flags and masks stay within their bounds (R163, R168, R169, R170). -/
def Obligations.PortsStayWithinTheirBounds : Prop :=
  ∀ s t : State, PortsBounded s → step s = .next t → PortsBounded t

/-- A trip reason set is non-empty exactly when its frame is TRIPPED (R32), and the shaft is in RUN only while nothing
bars it (R149, R151). -/
def Obligations.RunStaysClearAndTripsHaveReasons : Prop :=
  ∀ s t : State, TripsHaveReasons s ∧ RunIsClear s → step s = .next t → TripsHaveReasons t ∧ RunIsClear t

/-- The mode is LOCKOUT until start-up has ended, and in LOCKOUT no frame is tracked, holds a grant or a request, has a
transfer or a live task (R148, R152). -/
def Obligations.LockoutStaysQuiet : Prop :=
  ∀ s t : State, LockoutIsQuiet s → step s = .next t → LockoutIsQuiet t

/-- What only certain commands can do: only COLD_RESET sets shaft time back, samples the straps or changes a role (R159);
only it and the ends of the two reads move start-up (R178, R179); the working survey is taken from the store alone (R3,
R11); the edit survey changes besides by SET_SURVEY_ITEM (R6); only RESUME brings RUN (R149) and only ACK_STOP clears the
latch (R155); UNVERIFIED becomes VERIFIED by CONFIRM_INVENTORY or at start-up (R90); a port's mask changes by
SET_EVENT_MASK or a break of that port (R170); a region's current slot changes at the ends of store operations (R176,
R177). A byte received can be the last of a request's frame, and acts as that request. The command is well-formed: an
unknown request has no type of R165. -/
def Obligations.OnlyTheirCommandsChangeClockModeAndSurvey : Prop :=
  ∀ (c : Instr) (s t : State), c.WellFormed → exec c s = .next t →
    let resets : Prop := ∃ w x y z stop, c = .coldReset w x y z stop
    let reads : Prop := ∃ a b, c = .surveyReadEnd a b ∨ c = .inventoryReadEnd a b
    let attempts : Prop := ∃ back, c = .storeAttemptEnd back
    let byteOn (p : PortId) : Prop := ∃ b, c = .linkByteReceived p b
    let byte : Prop := ∃ p, byteOn p
    (t.time ≠ s.time ∨ t.mdc.strapFault ≠ s.mdc.strapFault ∨ (∃ p, (t.port p).role ≠ (s.port p).role) → resets) ∧
    (t.startUp ≠ s.startUp → resets ∨ reads) ∧
    (t.svt.working ≠ s.svt.working → resets ∨ reads ∨ attempts) ∧
    (t.svt.edit ≠ s.svt.edit → resets ∨ reads ∨ attempts ∨ byte ∨ ∃ p i j v, c = .setSurveyItem p i j v) ∧
    (s.mdc.mode ≠ .run → t.mdc.mode = .run → byte ∨ ∃ p, c = .resume p) ∧
    (s.mdc.latch = true → t.mdc.latch = false → resets ∨ byte ∨ ∃ p, c = .ackStop p) ∧
    (s.inv.verified = false → t.inv.verified = true → reads ∨ byte ∨ ∃ p, c = .confirmInventory p) ∧
    (∀ p, (t.port p).mask ≠ (s.port p).mask →
      resets ∨ byteOn p ∨ c = .linkBreak p ∨ ∃ set, c = .setEventMask p set) ∧
    (t.sti.current ≠ s.sti.current → resets ∨ reads ∨ attempts)

/-- The state right after reset meets every invariant above. -/
def Obligations.ResetMeetsTheInvariants : Prop :=
  LinesFollow State.reset ∧ PoolPartitioned State.reset ∧ GrantsApart State.reset ∧ PointerInTable State.reset ∧
    PlacesFollow State.reset ∧ AccountFollows State.reset ∧ PortsBounded State.reset ∧
    TripsHaveReasons State.reset ∧ RunIsClear State.reset ∧ LockoutIsQuiet State.reset ∧ PlacesHeldOnce State.reset

/-! ### The conditions every request meets (R166, R168) -/

/-- A request that meets one of the conditions of R166 is answered with that condition's status alone, and changes
nothing beyond the port's reply list and receive state; so is a taken frame whose type R165 does not list, and one whose
payload has another length than its type's: it comes as its bytes, and its last byte is answered with RANGE, or with ROLE
where the role may not send it. -/
def Obligations.ConditionsOfR166AnswerBeforeTheBlock : Prop :=
  ∀ (p : PortId) (s : State), (s.port p).lineLow = false → (s.port p).replies.length < 4 →
    (∀ (i : Instr) (r : Req) (payload : List Byte), encodeRequest i = some (p, r, payload) →
      (s.mdc.strapFault = true → exec i s = .next (replied p r [0x2D] s)) ∧
      (s.mdc.strapFault = false → s.startUp ≠ .ended → exec i s = .next (replied p r [0x2C] s)) ∧
      (s.mdc.strapFault = false → s.startUp = .ended → mayBeSent r (s.port p).role = false →
        exec i s = .next (replied p r [0x10] s)) ∧
      (s.mdc.strapFault = false → s.startUp = .ended → mayBeSent r (s.port p).role = true →
        s.svt.state = .unconfigured → r.admittedUnconfigured = false → exec i s = .next (replied p r [0x27] s))) ∧
    (∀ (type : Byte) (payload : List Byte), type ∉ Req.list.map Req.typeByte →
      (s.mdc.strapFault = true → exec (.unknownRequest p type payload) s = .next (repliedTo p type [0x2D] s)) ∧
      (s.mdc.strapFault = false → s.startUp ≠ .ended →
        exec (.unknownRequest p type payload) s = .next (repliedTo p type [0x2C] s)) ∧
      (s.mdc.strapFault = false → s.startUp = .ended →
        exec (.unknownRequest p type payload) s = .next (repliedTo p type [0x14] s))) ∧
    (∀ (r : Req) (payload : List Byte) (c0 c1 : Byte) (last : BitVec 32),
      (s.port p).rx = .check r.typeByte payload (some c0) last →
      c1 ++ c0 = crc16 (r.typeByte :: BitVec.ofNat 8 payload.length :: payload) → payload.length ≠ r.payloadLength →
      s.mdc.strapFault = false → s.startUp = .ended →
      exec (.linkByteReceived p c1) s =
        .next (replied p r [if mayBeSent r (s.port p).role then 0x13 else 0x10] s))

/-- While four replies wait, a request is discarded with cause OVERFLOW and gets no reply; while the line is held low
it is not received at all (R163, R164, R168). -/
def Obligations.AFullReplyListDiscardsTheRequest : Prop :=
  ∀ (i : Instr) (p : PortId) (r : Req) (payload : List Byte) (s : State), encodeRequest i = some (p, r, payload) →
    ((s.port p).lineLow = true → exec i s = .next s) ∧
    ((s.port p).lineLow = false → 4 ≤ (s.port p).replies.length →
      exec i s = .next (s.setPort p { s.port p with
        rx := .hunt
        errorCount := min ((s.port p).errorCount + 1) 255
        errorCause := .overflow
        flags := (s.port p).flags ||| 0x0008 }).drive)

/-! ### LKU's own commands -/

/-- A discard returns the port to HUNT, counts the error up to 255, keeps its cause and raises LINK_ERROR on that port
alone (R163): FRAME_DISCARDED with its cause, GAP_EXPIRY once more than 5 ms have passed since the last byte. -/
def Obligations.DiscardsAreCountedOnTheirPort : Prop :=
  ∀ (p : PortId) (s : State),
    let after (cause : LinkCause) : State := (s.setPort p { s.port p with
        rx := .hunt
        errorCount := min ((s.port p).errorCount + 1) 255
        errorCause := cause
        flags := (s.port p).flags ||| 0x0008 }).drive
    ((s.port p).lineLow = false →
      exec (.frameDiscarded p .length) s = .next (after .length) ∧ exec (.frameDiscarded p .crc) s = .next (after .crc)) ∧
    ((s.port p).lineLow = false → (s.port p).replies.length = 4 →
      exec (.frameDiscarded p .overflow) s = .next (after .overflow)) ∧
    (∀ last, (s.port p).rx.lastByte = some last → 5 < (s.time - last).toNat → (s.time - last).toNat < 2147483648 →
      exec (.gapExpiry p) s = .next (after .gap)) ∧
    (∀ last, (s.port p).rx.lastByte = some last → (s.time - last).toNat ≤ 5 → exec (.gapExpiry p) s = .next s) ∧
    ((s.port p).rx = .hunt → exec (.gapExpiry p) s = .next s)

/-- A link break clears the port's reception, error count and cause, flags and mask, so that ATTN falls; it leaves the
replies, the role, the other ports and every other block, is taken once for each low period, and no byte is taken while
the line is low (R164). A reply leaves the front of its list when its last byte has been sent, and nothing else changes
(R168). -/
def Obligations.ALinkBreakClearsItsPortAndSentRepliesLeave : Prop :=
  ∀ (p : PortId) (s : State),
    ((s.port p).lineLow = false → ∃ t, exec (.linkBreak p) s = .next t ∧
      t = (s.setPort p { s.port p with
        lineLow := true, rx := .hunt, errorCount := 0, errorCause := .none, flags := 0, mask := 0 }).drive ∧
      (t.port p).attn = false ∧ (t.port p).replies = (s.port p).replies) ∧
    ((s.port p).lineLow = true → exec (.linkBreak p) s = .next s ∧ ∀ b, exec (.linkByteReceived p b) s = .next s) ∧
    exec (.linkBreakEnd p) s = .next (s.setPort p { s.port p with lineLow := false }) ∧
    exec (.replySent p) s = .next (s.setPort p { s.port p with replies := (s.port p).replies.drop 1 })

/-- Each byte moves the receive state by the table of R161: sync, type, length, payload and the two CRC bytes. -/
def Obligations.BytesMoveTheReceiveState : Prop :=
  ∀ (p : PortId) (b : Byte) (s : State), (s.port p).lineLow = false →
    let rx (x : Rx) : State := s.setPort p { s.port p with rx := x }
    ((s.port p).rx = .hunt → b ≠ 0xC3 → exec (.linkByteReceived p b) s = .next s) ∧
    ((s.port p).rx = .hunt → b = 0xC3 → exec (.linkByteReceived p b) s = .next (rx (.type s.time))) ∧
    (∀ l, (s.port p).rx = .type l → exec (.linkByteReceived p b) s = .next (rx (.length b s.time))) ∧
    (∀ ty l, (s.port p).rx = .length ty l → b = 0 →
      exec (.linkByteReceived p b) s = .next (rx (.check ty [] none s.time))) ∧
    (∀ ty l, (s.port p).rx = .length ty l → 1 ≤ b.toNat → b.toNat ≤ 60 →
      exec (.linkByteReceived p b) s = .next (rx (.payload ty [] b.toNat s.time))) ∧
    (∀ ty l, (s.port p).rx = .length ty l → 60 < b.toNat →
      exec (.linkByteReceived p b) s = exec (.frameDiscarded p .length) s) ∧
    (∀ ty got n l, (s.port p).rx = .payload ty got n l → 2 ≤ n →
      exec (.linkByteReceived p b) s = .next (rx (.payload ty (got ++ [b]) (n - 1) s.time))) ∧
    (∀ ty got l, (s.port p).rx = .payload ty got 1 l →
      exec (.linkByteReceived p b) s = .next (rx (.check ty (got ++ [b]) none s.time))) ∧
    (∀ ty pl l, (s.port p).rx = .check ty pl none l →
      exec (.linkByteReceived p b) s = .next (rx (.check ty pl (some b) s.time))) ∧
    (∀ ty pl c l, (s.port p).rx = .check ty pl (some c) l → b ++ c ≠ crc16 (ty :: BitVec.ofNat 8 pl.length :: pl) →
      exec (.linkByteReceived p b) s = exec (.frameDiscarded p .crc) s)

/-! ### Event requests (R171, R172) -/

/-- READ_EVENTS answers flags and mask; SET_EVENT_MASK replaces the mask and answers mask and flags; CLEAR_EVENTS clears
the named flags and answers those left; a set that names a flag not of the port's role is refused with RANGE. -/
def Obligations.EventRequestsActOnTheirPort : Prop :=
  ∀ (p : PortId) (set : BitVec 16) (s : State),
    (Admitted s p .readEvents → exec (.readEvents p) s =
      .next (replied p .readEvents ([0x00] ++ u16 (s.port p).flags.toNat ++ u16 (s.port p).mask.toNat) s)) ∧
    (Admitted s p .setEventMask → set &&& ~~~(roleFlags (s.port p).role) = 0 → exec (.setEventMask p set) s =
      .next (replied p .setEventMask ([0x00] ++ u16 set.toNat ++ u16 (s.port p).flags.toNat)
        (s.setPort p { s.port p with mask := set }).drive)) ∧
    (Admitted s p .setEventMask → set &&& ~~~(roleFlags (s.port p).role) ≠ 0 → exec (.setEventMask p set) s =
      .next (replied p .setEventMask [0x13] s)) ∧
    (Admitted s p .clearEvents → set &&& ~~~(roleFlags (s.port p).role) = 0 → exec (.clearEvents p set) s =
      .next (replied p .clearEvents ([0x00] ++ u16 ((s.port p).flags &&& ~~~set).toNat)
        (s.setPort p { s.port p with flags := (s.port p).flags &&& ~~~set }).drive)) ∧
    (Admitted s p .clearEvents → set &&& ~~~(roleFlags (s.port p).role) ≠ 0 → exec (.clearEvents p set) s =
      .next (replied p .clearEvents [0x13] s))

/-! ### Reads: each answers from the state and changes nothing but the port's list -/

/-- READ_FRAME carries what R35 lists, in its order; a frame byte other than 0 and 1 is refused with RANGE. -/
def Obligations.ReadFrameReportsTheTracker : Prop :=
  ∀ (p : PortId) (frame : Byte) (s : State), Admitted s p .readFrame →
    (∀ f, frame.toNat = frameCode f → exec (.readFrame p frame) s = .next (replied p .readFrame
      ([0x00] ++ u8 (trackingCode (s.tracker f).state) ++ u16 (s.tracker f).reasons.toNat ++ u8 (s.tracker f).count ++
        (match (s.tracker f).timer with
          | some x => [1] ++ u32 (msLeft s.time x)
          | none => List.replicate 5 0) ++
        (match (s.tracker f).last with
          | some r => [1] ++ u32 r.e ++ signed 2 r.v ++ u32 r.m ++ [if r.brakeSet then 1 else 0] ++ u32 r.arrival.toNat
          | none => List.replicate 16 0) ++
        [if frameAtRest s f then 1 else 0] ++
        (match frameLanding s f with
          | some k => [1] ++ u8 k
          | none => List.replicate 2 0) ++
        u16 (s.svt.tuning.get f).vl) s)) ∧
    (2 ≤ frame.toNat → exec (.readFrame p frame) s = .next (replied p .readFrame [0x13] s))

/-- READ_MASS, READ_BAY and READ_ENERGY carry what R103 and R104 list; an id outside 1 to 40 and a bay outside the
shaft are refused with RANGE. The order of the counts by state is log 45's, the presence byte of a bay's content
log 46's. -/
def Obligations.InventoryReadsReportTheRecords : Prop :=
  ∀ (p : PortId) (n : Byte) (s : State),
    let opt (x : Option Nat) : List Byte := match x with
      | some v => [1] ++ u8 v
      | none => List.replicate 2 0
    let yes (b : Bool) : List Byte := [if b then 1 else 0]
    (Admitted s p .readMass → 1 ≤ n.toNat → n.toNat ≤ 40 → exec (.readMass p n) s = .next (replied p .readMass
      ([0x00] ++ u8 (massStateCode (s.mass n.toNat).state) ++ u16 (s.mass n.toNat).nominal ++ opt (s.mass n.toNat).bay ++
        opt ((s.mass n.toNat).frame.map frameCode) ++ opt (s.mass n.toNat).landing ++ opt (s.mass n.toNat).task ++
        u64 (massEnergy s.svt.working (s.mass n.toNat))) s)) ∧
    (Admitted s p .readMass → n.toNat = 0 ∨ 40 < n.toNat →
      exec (.readMass p n) s = .next (replied p .readMass [0x13] s)) ∧
    (∀ k j, Admitted s p .readBay → s.svt.working.bayIdentity n.toNat = some (k, j) →
      exec (.readBay p n) s = .next (replied p .readBay
        ([0x00] ++ opt (s.bay n.toNat).content ++ yes (s.bay n.toNat).inService ++ opt (s.bay n.toNat).task ++ u8 k ++
          u8 j ++ yes ((s.bay n.toNat).inService && (s.landing k).inService) ++ yes (s.landing k).inService ++
          yes (s.landing k).late ++ yes (s.landing k).unexpected) s)) ∧
    (Admitted s p .readBay → s.svt.working.nb ≤ n.toNat →
      exec (.readBay p n) s = .next (replied p .readBay [0x13] s)) ∧
    (Admitted s p .readEnergy → exec (.readEnergy p) s = .next (replied p .readEnergy
      ([0x00] ++ u32 s.inv.storedKJ ++ u64 s.inv.sRaw ++ yes s.inv.verified ++ u8 (saveStateCode s.inv.save) ++
        u8 (massCount s .absent) ++ u8 (massCount s .stored) ++ u8 (massCount s .carried) ++
        u8 (massCount s .inTransfer) ++ u8 (massCount s .unaccounted)) s))

/-- READ_GRANT carries the 20 bytes of its layout (R69, 12): presence bits, grant with its bounds in millimetres, target,
demand, last end reason and working LEG, absent fields as 0. -/
def Obligations.ReadGrantReportsGrantRequestAndDemand : Prop :=
  ∀ (p : PortId) (f : Frame) (s : State), Admitted s p .readGrant → (s.port p).role = winderRole f →
    let bit (b : Bool) (v : Nat) : Nat := if b then v else 0
    let down : Bool := match s.request f with
      | some t => t.dir == .down
      | none => false
    exec (.readGrant p) s = .next (replied p .readGrant
      ([0x00] ++ u8 (bit (s.grant f).isSome 1 + bit (s.request f).isSome 2 + bit down 4 + bit (demand s f).isSome 8 +
          bit (s.gru.permit.get f) 16) ++
        (match s.grant f with
          | some g => u8 g.lo ++ u8 g.hi ++ u32 (g.lo * s.svt.working.zl) ++
              u32 (min ((g.hi + 1) * s.svt.working.zl) s.svt.working.sl)
          | none => List.replicate 10 0) ++
        (match s.request f with
          | some t => u32 t.target
          | none => List.replicate 4 0) ++
        (match demand s f with
          | some d => u8 d.lo ++ u8 d.hi
          | none => List.replicate 2 0) ++
        u8 (endReasonCode (s.gru.lastEnd.get f)) ++ u8 (s.svt.tuning.get f).leg) s)

/-- READ_TASK carries the head of the sending frame's queue, or NO_TASK for an empty queue (R127); READ_TASK_BY_ID a
record's collection, and for a record in queue U, in queue L or on the completion list its place, its fields and cancel
pending (R128; the layout is log 20's). -/
def Obligations.TaskReadsReportTheRecords : Prop :=
  ∀ (p : PortId) (f : Frame) (n : Byte) (s : State),
    (Admitted s p .readTask → (s.port p).role = winderRole f → s.tku.queues.get f = [] →
      exec (.readTask p) s = .next (replied p .readTask [0x1A] s)) ∧
    (∀ id rest b k, Admitted s p .readTask → (s.port p).role = winderRole f → s.tku.queues.get f = id :: rest →
      b = (if (s.task id).phase = .toPickup ∨ (s.task id).phase = .loading then (s.task id).source.getD (s.task id).dest
        else (s.task id).dest) → s.svt.working.landingOf b = some k →
      exec (.readTask p) s = .next (replied p .readTask
        ([0x00] ++ u8 id ++ u8 (phaseCode (s.task id).phase) ++ u8 (s.task id).mass ++
          u16 (s.mass (s.task id).mass).nominal ++ u8 k ++ u8 b ++
          u8 (if (s.task id).phase = .toPickup then 0 else if (s.task id).phase = .toDrop then 1 else 0xFF) ++
          [if (s.task id).reasons.getLsbD 0 then 1 else 0]) s)) ∧
    (Admitted s p .readTaskById → 32 ≤ n.toNat →
      exec (.readTaskById p n) s = .next (replied p .readTaskById [0x13] s)) ∧
    (Admitted s p .readTaskById → n.toNat < 32 → n.toNat ∉ s.tku.queues.u → n.toNat ∉ s.tku.queues.l →
      n.toNat ∉ s.tku.completion → exec (.readTaskById p n) s = .next (replied p .readTaskById [0x00, 0] s)) ∧
    (Admitted s p .readTaskById → n.toNat < 32 → n.toNat ∈ s.tku.queues.u →
      exec (.readTaskById p n) s = .next (replied p .readTaskById
        ([0x00, 1] ++ u8 (s.tku.queues.u.idxOf n.toNat) ++ recordBytes n.toNat (s.task n.toNat) ++
          [1, if (s.task n.toNat).cancelPending then 1 else 0]) s)) ∧
    (Admitted s p .readTaskById → n.toNat < 32 → n.toNat ∉ s.tku.queues.u → n.toNat ∈ s.tku.queues.l →
      exec (.readTaskById p n) s = .next (replied p .readTaskById
        ([0x00, 2] ++ u8 (s.tku.queues.l.idxOf n.toNat) ++ recordBytes n.toNat (s.task n.toNat) ++
          [1, if (s.task n.toNat).cancelPending then 1 else 0]) s)) ∧
    (Admitted s p .readTaskById → n.toNat < 32 → n.toNat ∉ s.tku.queues.u → n.toNat ∉ s.tku.queues.l →
      n.toNat ∈ s.tku.completion → exec (.readTaskById p n) s = .next (replied p .readTaskById
        ([0x00, 3, 0] ++ recordBytes n.toNat (s.task n.toNat) ++ [0, 0]) s))

/-- READ_STATUS carries what R173 lists, in its order, in 59 bytes while every number fits its width. The presence
bytes and the order of phases and transfers are log 22's; the milliseconds left on a transfer timer, 0 beyond half the
range of the clock, are log 35's. -/
def Obligations.ReadStatusReportsThePart : Prop :=
  ∀ (p : PortId) (s : State), Admitted s p .readStatus →
    let yes (b : Bool) : List Byte := [if b then 1 else 0]
    let context (f : Frame) : List Byte := match s.transfer f with
      | some t => u8 (xphaseCode (some t.phase)) ++ u8 1 ++ u8 (kindCode t.kind) ++ u8 t.task ++ u8 t.mass ++
          u8 t.landing ++ u8 t.bay ++ u32 (match t.timer with
            | some x => msLeft s.time x
            | none => 0)
      | none => List.replicate 11 0
    let result (f : Frame) : List Byte := match s.xfc.lastResult.get f with
      | some r => u8 1 ++ u8 (kindCode r.kind) ++ u8 r.task ++ u8 r.mass ++ u8 r.landing ++ u8 r.bay ++
          u8 (xoutcomeCode r.outcome) ++ u8 (causeCode r.cause) ++ yes r.saved
      | none => List.replicate 9 0
    let payload : List Byte :=
      u8 0 ++ u8 (modeCode s.mdc.mode) ++ yes s.mdc.latch ++ yes s.mdc.stopN ++ yes s.mdc.fault ++
        yes (s.gru.permit.get .U) ++ yes (s.gru.permit.get .L) ++ u8 (surveyStateCode s.svt.state) ++
        yes s.inv.verified ++ u8 (saveStateCode s.inv.save) ++ u8 s.arb.pointer ++
        yes (s.arb.blockedReported.get .U) ++ yes (s.arb.blockedReported.get .L) ++
        u8 (match s.arb.lastLoser with
          | none => 0xFF
          | some f => frameCode f) ++
        u8 (trackingCode (s.tracker .U).state) ++ u8 (trackingCode (s.tracker .L).state) ++ context .U ++ context .L ++
        result .U ++ result .L ++ u8 (roleCode (s.port p).role) ++ u8 (s.port p).errorCount ++
        u8 (linkCauseCode (s.port p).errorCause)
    payload.length = 59 ∧ exec (.readStatus p) s = .next (replied p .readStatus payload s)

/-- READ_SURVEY_ITEM carries an item of the working or the edit survey, or a VL, a LEG, the length or an entry of the
service table of the working or the pending tuning, with the survey state and save-outstanding; an item, an index or a
copy that there is not is refused with RANGE (R7). The presence byte in the pending tuning, and RANGE for an entry beyond
a table's length, are log 23's. -/
def Obligations.ReadSurveyItemReportsTheCopyNamed : Prop :=
  ∀ (p : PortId) (item index : Byte) (s : State), Admitted s p .readSurveyItem →
    let carries (item copy : Byte) (bytes : List Byte) : Prop := exec (.readSurveyItem p item index copy) s =
      .next (replied p .readSurveyItem
        ([0x00] ++ bytes ++ u8 (surveyStateCode s.svt.state) ++ [if s.svt.saveOutstanding then 1 else 0]) s)
    let refused (item copy : Byte) : Prop :=
      exec (.readSurveyItem p item index copy) s = .next (replied p .readSurveyItem [0x13] s)
    let optional (x : Option Nat) : List Byte := match x with
      | some v => [1] ++ u32 v
      | none => List.replicate 5 0
    (∀ n, itemIndices item.toNat = some n → index.toNat < n →
      carries item 0 (u32 (s.svt.working.item item.toNat index.toNat)) ∧
      carries item 1 (u32 (s.svt.edit.item item.toNat index.toNat))) ∧
    (itemIndices item.toNat = none → refused item 0 ∧ refused item 1) ∧
    (∀ n, itemIndices item.toNat = some n → n ≤ index.toNat → refused item 0 ∧ refused item 1) ∧
    (∀ copy : Byte, 4 ≤ copy.toNat → refused item copy) ∧
    (∀ f, index.toNat = frameCode f →
      carries 0x28 2 (u32 (s.svt.tuning.get f).vl) ∧ carries 0x28 3 (optional (s.svt.tuning.get f).pendingVl) ∧
      carries 0x29 2 (u32 (s.svt.tuning.get f).leg) ∧ carries 0x29 3 (optional (s.svt.tuning.get f).pendingLeg)) ∧
    (2 ≤ index.toNat → refused 0x28 2 ∧ refused 0x28 3 ∧ refused 0x29 2 ∧ refused 0x29 3) ∧
    (index = 0 → carries 0x30 2 (u32 s.arb.table.length) ∧
      carries 0x30 3 (optional (s.arb.pendingTable.map List.length))) ∧
    (index ≠ 0 → refused 0x30 2 ∧ refused 0x30 3) ∧
    (index.toNat < s.arb.table.length → carries 0x31 2 (u32 (frameCode (s.arb.table.getD index.toNat .U)))) ∧
    (s.arb.table.length ≤ index.toNat → refused 0x31 2) ∧
    (∀ t, s.arb.pendingTable = some t → index.toNat < t.length →
      carries 0x31 3 (optional (some (frameCode (t.getD index.toNat .U))))) ∧
    (∀ t, s.arb.pendingTable = some t → t.length ≤ index.toNat → refused 0x31 3) ∧
    (s.arb.pendingTable = none → index.toNat < 8 → carries 0x31 3 (optional none)) ∧
    (s.arb.pendingTable = none → 8 ≤ index.toNat → refused 0x31 3) ∧
    (item ≠ 0x28 → item ≠ 0x29 → item ≠ 0x30 → item ≠ 0x31 → refused item 2 ∧ refused item 3)

/-! ### Modes and the stop chain -/

/-- HOLD brings the shaft from RUN to HOLD, changes nothing in HOLD and is refused with MODE in LOCKOUT, its reply
carrying the mode after the request (R149, R150). UNLOCK returns the shaft from LOCKOUT to HOLD where no survey save is
outstanding and the survey is VALID, changes nothing in HOLD, and is otherwise refused by the first check that fails
(R153). Each change raises MODE_CHANGED on every port, and both PERMIT lines are then off. -/
def Obligations.HoldAndUnlockBringTheShaftToHold : Prop :=
  ∀ (p : PortId) (s : State),
    let unlocked (payload : List Byte) : Prop := exec (.unlock p) s = .next (replied p .unlock payload s)
    (Admitted s p .hold →
      (s.mdc.mode = .run → ∃ t, exec (.hold p) s = .next t ∧
        t = replied p .hold [0x00, 1] ((s.setMdc { s.mdc with mode := .hold }).raiseAll .modeChanged).drive ∧
        t.gru.permit = ⟨false, false⟩) ∧
      (s.mdc.mode = .hold → exec (.hold p) s = .next (replied p .hold [0x00, 1] s)) ∧
      (s.mdc.mode = .lockout → exec (.hold p) s = .next (replied p .hold [0x11, 2] s))) ∧
    (Admitted s p .unlock →
      if s.mdc.mode = .run then unlocked [0x11]
      else if s.mdc.mode = .hold then unlocked [0x00]
      else if s.svt.saveOutstanding = true then unlocked [0x12]
      else if s.svt.state = .edited then unlocked [0x27, 2]
      else ∃ t, exec (.unlock p) s = .next t ∧
        t = replied p .unlock [0x00] ((s.setMdc { s.mdc with mode := .hold }).raiseAll .modeChanged).drive ∧
        t.gru.permit = ⟨false, false⟩)

/-- RESUME: from HOLD with nothing barring it the mode becomes RUN, MODE_CHANGED is raised on every port and a round is
held; otherwise the first check that fails gives the refusal and nothing changes (R151). That a save in flight does not bar it
after a failed one, as R151 has it and the close of R180 does not, is log 47's. -/
def Obligations.ResumeReturnsTheShaftToRun : Prop :=
  ∀ (p : PortId) (s : State), Admitted s p .resume →
    let no (payload : List Byte) : Prop := exec (.resume p) s = .next (replied p .resume payload s)
    if s.mdc.mode = .lockout then no [0x11]
    else if s.mdc.mode = .run then no [0x00]
    else if s.mdc.stopN = true then no [0x24]
    else if s.mdc.latch = true then no [0x25]
    else if s.inv.verified = false then no [0x26]
    else if s.inv.save = .notSaved then no [0x2A]
    else if (s.tracker .U).state = .tripped then no [0x15, 0]
    else if (s.tracker .L).state = .tripped then no [0x15, 1]
    else ∃ t, exec (.resume p) s = .next t ∧
      t = replied p .resume [0x00] (holdRound ((s.setMdc { s.mdc with mode := .run }).raiseAll .modeChanged)).drive ∧
      t.mdc.mode = .run ∧ ∀ f, (s.tracker f).state = .tracked → s.transfer f = none → t.gru.permit.get f = true

/-- LOCKOUT from HOLD with no transfer in flight: both frames become UNKNOWN with no grant, request or live task, the
mode is LOCKOUT, MODE_CHANGED is on every port, both PERMIT lines are off, every live task has ended CANCELLED with
LOCKOUT and CANCELLED, the requests held have ended CLEARED; the stop latch, the inventory's masses and its state, the
survey and the last deadlock loser are as they were (R152). -/
def Obligations.LockoutTakesTheShaftOutOfService : Prop :=
  ∀ (p : PortId) (s : State), Admitted s p .lockout →
    let no (payload : List Byte) : Prop := exec (.lockout p) s = .next (replied p .lockout payload s)
    (s.mdc.mode = .run → no [0x11]) ∧ (s.mdc.mode = .lockout → no [0x00]) ∧
    (s.mdc.mode = .hold → s.transfer .U ≠ none → no [0x12, 0]) ∧
    (s.mdc.mode = .hold → s.transfer .U = none → s.transfer .L ≠ none → no [0x12, 1]) ∧
    (s.mdc.mode = .hold → s.transfer .U = none → s.transfer .L = none →
      ∃ t, exec (.lockout p) s = .next t ∧ t.mdc.mode = .lockout ∧ t.gru.permit = ⟨false, false⟩ ∧
        (∀ f, FrameQuiet t f ∧ t.tracker f = Tracker.initial ∧
          t.gru.lastEnd.get f = (if (s.request f).isSome then .cleared else s.gru.lastEnd.get f)) ∧
        t.tku.completion = s.tku.completion ++ s.tku.queues.u ++ s.tku.queues.l ∧
        (PoolPartitioned s → ∀ f id, id ∈ s.tku.queues.get f →
          (t.task id).phase = .cancelled ∧ (t.task id).reasons = (s.task id).reasons ||| 0x0003) ∧
        (∀ q, (t.port q).flags.getLsbD 0 = true) ∧
        (t.port p).replies = (s.port p).replies ++
          [{ type := 0xAA, payload := [0x00], crc := frameCrc 0xAA [0x00] }] ∧
        t.mdc.latch = s.mdc.latch ∧ t.mdc.stopN = s.mdc.stopN ∧
        (∀ id, t.mass id = { s.mass id with task := (t.mass id).task }) ∧
        t.inv.verified = s.inv.verified ∧ t.inv.save = s.inv.save ∧ t.inv.storedKJ = s.inv.storedKJ ∧
        t.svt.working = s.svt.working ∧ t.svt.edit = s.svt.edit ∧ t.svt.state = s.svt.state ∧
        t.arb.lastLoser = s.arb.lastLoser ∧ t.sti = s.sti ∧ t.time = s.time)

/-- ACK_STOP clears the latch where STOP_N is released and is refused with STOP_ACTIVE where it is asserted; a release
of STOP_N changes the condition alone, with PERMIT following, and one that is released already is no release (R155). -/
def Obligations.StopsAreReleasedAndAcknowledged : Prop :=
  ∀ (p : PortId) (s : State),
    (Admitted s p .ackStop → s.mdc.stopN = true → exec (.ackStop p) s = .next (replied p .ackStop [0x24] s)) ∧
    (Admitted s p .ackStop → s.mdc.stopN = false → exec (.ackStop p) s =
      .next (replied p .ackStop [0x00] (s.setMdc { s.mdc with latch := false }).drive)) ∧
    (s.mdc.stopN = true → exec .stopNRelease s = .next (s.setMdc { s.mdc with stopN := false }).drive) ∧
    (s.mdc.stopN = false → exec .stopNRelease s = .next s)

/-- An assertion of STOP_N sets condition and latch, raises STOP_SEEN to dispatch and monitor, holds the shaft from RUN
and turns both PERMIT lines off, whatever the mode; where no transfer is in COMMITTING or GEAR_RUNNING that is all. A
transfer in COMMITTING is in ABANDONING with cause STOP and waits on its restore, or has ended ABANDONED with STOP where
the save state is NOT_SAVED; its mass is back at its return place and its task back in the phase before the commit, or
ended where a cancel was pending (R137, R119). One in GEAR_RUNNING fails with TRANSFER_ABORT and trips its frame. An input
that is asserted already is no assertion (R154, R146). -/
def Obligations.AStopHoldsTheShaft : Prop :=
  ∀ s : State,
    let seen : State := (s.setMdc { s.mdc with stopN := true, latch := true }).raiseWatchers .stopSeen
    let apartFrom (f : Frame) (x : Transfer) : Prop := ∀ y, s.transfer f.other = some y →
      y.mass ≠ x.mass ∧ y.task ∈ s.tku.queues.get f.other
    (s.mdc.stopN = true → exec .stopNAssertion s = .next s) ∧
    (s.mdc.stopN = false → ∃ t, exec .stopNAssertion s = .next t ∧ t.mdc.stopN = true ∧ t.mdc.latch = true ∧
      t.gru.permit = ⟨false, false⟩ ∧ t.mdc.mode = (if s.mdc.mode = .run then .hold else s.mdc.mode) ∧
      (∀ q, isWatcher (s.port q).role = true → (t.port q).flags.getLsbD 11 = true) ∧
      ((∀ f x, s.transfer f = some x → x.phase ≠ .committing ∧ x.phase ≠ .gearRunning) →
        t = if s.mdc.mode = .run then
            ((seen.setMdc { seen.mdc with mode := .hold }).raiseAll .modeChanged).drive
          else seen.drive) ∧
      (∀ f x, s.transfer f = some x → x.phase = .committing →
        (s.inv.save ≠ .notSaved → t.transfer f = some { x with phase := .abandoning, cause := .stop }) ∧
        (s.inv.save = .notSaved → t.transfer f = none ∧
          t.xfc.lastResult.get f = some ⟨x.kind, x.task, x.mass, x.landing, x.bay, .abandoned, .stop, false⟩) ∧
        (1 ≤ x.mass → x.mass ≤ 40 → apartFrom f x → t.mass x.mass = (match x.ret with
          | .bay b => { s.mass x.mass with
              state := .stored, bay := some b, frame := none, landing := none, task := (t.mass x.mass).task }
          | .frame g k => { s.mass x.mass with
              state := .carried, bay := none, frame := some g, landing := some k, task := (t.mass x.mass).task })) ∧
        (PoolPartitioned s → x.task ∈ s.tku.queues.get f → apartFrom f x →
          ((s.task x.task).phase = .unloading → (t.task x.task).phase = .toDrop) ∧
          ((s.task x.task).phase = .loading → (s.task x.task).cancelPending = false →
            (t.task x.task).phase = .toPickup) ∧
          ((s.task x.task).phase = .loading → (s.task x.task).cancelPending = true →
            (t.task x.task).phase = .cancelled ∧ (t.task x.task).reasons = (s.task x.task).reasons ||| 0x0001 ∧
              x.task ∈ t.tku.completion))) ∧
      (∀ f x, s.transfer f = some x → x.phase = .gearRunning → t.transfer f = none ∧
        t.xfc.lastResult.get f = some ⟨x.kind, x.task, x.mass, x.landing, x.bay, .failed, .transferAbort, false⟩ ∧
        (t.tracker f).state = .tripped ∧ (t.tracker f).reasons = (s.tracker f).reasons ||| 0x0200))

/-- CLEAR_TRIP: a TRIPPED frame that passes the checks of R156 becomes TRACKED with an empty reason set and the grant of
its last report's envelope, and the reply carries it (R157). Otherwise the first check of R156 that fails gives the refusal
and nothing changes; that a TRACKED or STALE frame is answered with the status alone is log 39's. -/
def Obligations.ClearTripReturnsTheFrameToService : Prop :=
  ∀ (p : PortId) (frame : Byte) (f : Frame) (s : State), Admitted s p .clearTrip →
    let cleared (f : Frame) : State :=
      (s.setTracker f { s.tracker f with state := .tracked, reasons := 0 }).raiseFrame f .frameState
    let no (payload : List Byte) : Prop := exec (.clearTrip p frame) s = .next (replied p .clearTrip payload s)
    (2 ≤ frame.toNat → no [0x13]) ∧
    (frame.toNat = frameCode f → s.mdc.mode = .run → no [0x11]) ∧
    (frame.toNat = frameCode f → s.mdc.mode ≠ .run → (s.tracker f).state = .unknown → no [0x15]) ∧
    (frame.toNat = frameCode f → s.mdc.mode ≠ .run →
      (s.tracker f).state = .tracked ∨ (s.tracker f).state = .stale → no [0x00]) ∧
    (frame.toNat = frameCode f → s.mdc.mode ≠ .run → (s.tracker f).state = .tripped → s.transfer f ≠ none → no [0x12]) ∧
    (frame.toNat = frameCode f → s.mdc.mode ≠ .run → (s.tracker f).state = .tripped → s.transfer f = none →
      let bars (id : Nat) : Prop := (s.mass id).state = .unaccounted ∨
        ((s.mass id).state = .inTransfer ∧ (s.mass id).frame = some f)
      ((s.tracker f).timer = none ∨ s.lastReport f = none → no [0x15]) ∧
      (∀ r, (s.tracker f).timer ≠ none → s.lastReport f = some r →
        let e : Run := envelope s.svt.working f r.e r.v r.m
        (20 < r.v.natAbs → no [0x17]) ∧
        (r.v.natAbs ≤ 20 → (s.svt.working.winder.get f).pl < r.m → no [0x21]) ∧
        (∀ id ∈ massIds, r.v.natAbs ≤ 20 → r.m ≤ (s.svt.working.winder.get f).pl → bars id →
          (∀ j ∈ massIds, j < id → ¬ bars j) → no ([0x28] ++ u8 id)) ∧
        (r.v.natAbs ≤ 20 → r.m ≤ (s.svt.working.winder.get f).pl → (∀ id ∈ massIds, ¬ bars id) →
          (∃ z, e.lo ≤ z ∧ z ≤ e.hi ∧ zoneOwner s z = some f.other) ∨ ¬ OnOwnSide s f e → no [0x29]))) ∧
    (∀ r e, frame.toNat = frameCode f → s.mdc.mode = .hold → (s.tracker f).state = .tripped → s.transfer f = none →
      (s.tracker f).timer ≠ none → s.lastReport f = some r → r.v.natAbs ≤ 20 →
      r.m ≤ (s.svt.working.winder.get f).pl →
      (∀ id ∈ massIds, (s.mass id).state ≠ .unaccounted ∧ ¬ ((s.mass id).state = .inTransfer ∧ (s.mass id).frame = some f)) →
      e = envelope s.svt.working f r.e r.v r.m →
      (∀ z, e.lo ≤ z → z ≤ e.hi → zoneOwner s z ≠ some f.other) →
      (∀ g, s.grant f.other = some g → match f with
        | .U => g.hi < e.lo
        | .L => e.hi < g.lo) →
      ∃ t, exec (.clearTrip p frame) s = .next t ∧
        t = replied p .clearTrip ([0x00] ++ u8 e.lo ++ u8 e.hi)
          (if s.grant f = some e then (cleared f).drive
            else (((cleared f).setGrant f (some e)).raiseWinder f .grantChanged).drive))

/-! ### Reports and grants -/

/-- A report of a TRACKED frame without a request or a transfer, in RUN or HOLD, that passes every check: it is kept,
the grant is cut to its envelope, GRANT_CHANGED is raised and a round is asked for where a zone was freed (R23, R28, R58,
R61). -/
def Obligations.AContainedReportCutsTheGrantToItsEnvelope : Prop :=
  ∀ (p : PortId) (f : Frame) (e : BitVec 32) (v : BitVec 16) (m : BitVec 32) (flags : Byte) (g : Run) (s : State),
    let r : Report := ⟨e.toNat, v.toInt, m.toInt.toNat, flags.getLsbD 0, s.time⟩
    let n : Run := envelope s.svt.working f r.e r.v r.m
    Admitted s p .position → (s.port p).role = winderRole f → s.mdc.mode ≠ .lockout →
    (s.tracker f).state = .tracked → s.request f = none → s.transfer f = none → s.grant f = some g →
    PlausibleReport s f r → r.m ≤ (s.svt.working.winder.get f).pl → r.v.natAbs ≤ (s.svt.tuning.get f).vl →
    g.lo ≤ n.lo → n.hi ≤ g.hi →
    exec (.position p e v m flags) s = .next (replied p .position ([0x00] ++ u8 1 ++ u16 (s.tracker f).reasons.toNat)
      (if n = g then (kept f r s).drive else (askRound (regranted f n true (kept f r s))).drive))

/-- A report of a TRACKED frame under way that passes every check: where the frame is at rest within LVT of its target
the request is cleared with ARRIVED and the grant is the envelope (R60); otherwise the grant keeps the zones ahead up to
the target window (R58), zones taken from ahead raise GRANT_CHANGED (R51), and a round is asked for where a zone was
freed or a demand stands (R61). -/
def Obligations.AReportUnderWayTrimsOrEndsTheRequest : Prop :=
  ∀ (p : PortId) (f : Frame) (e : BitVec 32) (v : BitVec 16) (m : BitVec 32) (flags : Byte) (g : Run) (q : Travel)
    (s : State),
    let r : Report := ⟨e.toNat, v.toInt, m.toInt.toNat, flags.getLsbD 0, s.time⟩
    let n : Run := envelope s.svt.working f r.e r.v r.m
    let n' : Run := trimmed q.dir g n (targetWindow s.svt.working f q r.m)
    let u : State := regranted f n' (cutAhead q.dir g n') (kept f r s)
    let arrived : Prop := r.v.natAbs ≤ 20 ∧ (r.e - q.target) + (q.target - r.e) ≤ s.svt.working.lvt
    Admitted s p .position → (s.port p).role = winderRole f → s.mdc.mode ≠ .lockout →
    (s.tracker f).state = .tracked → s.request f = some q → s.transfer f = none → s.grant f = some g →
    PlausibleReport s f r → r.m ≤ (s.svt.working.winder.get f).pl → r.v.natAbs ≤ (s.svt.tuning.get f).vl →
    g.lo ≤ n.lo → n.hi ≤ g.hi →
    (¬ arrived → exec (.position p e v m flags) s =
      .next (replied p .position ([0x00] ++ u8 1 ++ u16 (s.tracker f).reasons.toNat)
        (if n' ≠ g ∨ demand u f ≠ none then askRound u else u).drive)) ∧
    (arrived → ∃ t, exec (.position p e v m flags) s = .next t ∧ t.tracker f = (kept f r s).tracker f ∧
      t.request f = none ∧ t.gru.lastEnd.get f = .arrived ∧ t.grant f = some n ∧
      (∀ w, (s.port w).role = winderRole f → (t.port w).flags.getLsbD 5 = true) ∧
      t.inv = s.inv ∧ t.tku = s.tku ∧ t.sti = s.sti ∧ t.mdc.mode = s.mdc.mode)

/-- A plausible report of a TRACKED or STALE frame without a transfer that is overloaded, too fast or not contained
trips the frame with every reason noted, together; the report stays as the last accepted one, the grants stay, and the
shaft is in HOLD (R24 to R28, R32). -/
def Obligations.ReasonsNotedByAReportTripTheFrame : Prop :=
  ∀ (p : PortId) (f : Frame) (e : BitVec 32) (v : BitVec 16) (m : BitVec 32) (flags : Byte) (s : State),
    let r : Report := ⟨e.toNat, v.toInt, m.toInt.toNat, flags.getLsbD 0, s.time⟩
    let n : Run := envelope s.svt.working f r.e r.v r.m
    let noted : BitVec 16 :=
      (if (s.svt.working.winder.get f).pl < r.m then 0x0004 else 0) |||
        (if (s.svt.tuning.get f).vl < r.v.natAbs then 0x0008 else 0) |||
        (match s.grant f with
          | some g => if g.lo ≤ n.lo ∧ n.hi ≤ g.hi then 0 else 0x0010
          | none => 0x0010)
    Admitted s p .position → (s.port p).role = winderRole f → s.mdc.mode ≠ .lockout →
    (s.tracker f).state = .tracked ∨ (s.tracker f).state = .stale → s.transfer f = none →
    PlausibleReport s f r → noted ≠ 0 →
    ∃ t, exec (.position p e v m flags) s = .next t ∧
      t = replied p .position ([0x00] ++ u8 3 ++ u16 ((s.tracker f).reasons ||| noted).toNat)
        (tripped f noted (kept f r s)).drive ∧
      t.gru.grants = s.gru.grants ∧ t.mdc.mode = .hold ∧ t.mdc.fault = true ∧ t.gru.permit = ⟨false, false⟩

/-- A report that fails the plausibility check is answered IMPLAUSIBLE and counted up to 255; the third trips a TRACKED
or STALE frame with IMPLAUSIBLE, and on a TRIPPED frame it causes nothing further (R23, R33). In LOCKOUT a report is
answered OK and changes nothing (R22). -/
def Obligations.ImplausibleReportsAreCountedAndTheThirdTrips : Prop :=
  ∀ (p : PortId) (f : Frame) (e : BitVec 32) (v : BitVec 16) (m : BitVec 32) (flags : Byte) (s : State),
    let r : Report := ⟨e.toNat, v.toInt, m.toInt.toNat, flags.getLsbD 0, s.time⟩
    let counted : State := s.setTracker f { s.tracker f with count := min ((s.tracker f).count + 1) 255 }
    let answered (status : Byte) (tracking : Tracking) (reasons : BitVec 16) (u : State) : Prop :=
      exec (.position p e v m flags) s =
        .next (replied p .position ([status] ++ u8 (trackingCode tracking) ++ u16 reasons.toNat) u.drive)
    Admitted s p .position → (s.port p).role = winderRole f →
    (s.mdc.mode = .lockout → answered 0x00 (s.tracker f).state (s.tracker f).reasons s) ∧
    (s.mdc.mode ≠ .lockout → (s.tracker f).state = .tracked ∨ (s.tracker f).state = .stale →
      ¬ PlausibleReport s f r → (s.tracker f).count ≤ 1 →
      answered 0x2B (s.tracker f).state (s.tracker f).reasons counted) ∧
    (s.mdc.mode ≠ .lockout → (s.tracker f).state = .tracked ∨ (s.tracker f).state = .stale →
      ¬ PlausibleReport s f r → 2 ≤ (s.tracker f).count →
      answered 0x2B .tripped ((s.tracker f).reasons ||| 0x0002) (tripped f 0x0002 counted)) ∧
    (s.mdc.mode ≠ .lockout → (s.tracker f).state = .tripped → ¬ PlausibleReport s f r →
      answered 0x2B .tripped (s.tracker f).reasons counted)

/-- The first report of an UNKNOWN frame within range: with every zone of its envelope FREE and the envelope on the
frame's own side, the frame is TRACKED with that grant and a round is asked for, or trips with what the payload and speed
checks note; otherwise it trips with OVERLAP and what they note, without a grant (R20, R21). Beyond the range it is
answered IMPLAUSIBLE and the frame stays UNKNOWN. -/
def Obligations.TheFirstReportAcquiresTheFrame : Prop :=
  ∀ (p : PortId) (f : Frame) (e : BitVec 32) (v : BitVec 16) (m : BitVec 32) (flags : Byte) (s : State),
    let r : Report := ⟨e.toNat, v.toInt, m.toInt.toNat, flags.getLsbD 0, s.time⟩
    let n : Run := envelope s.svt.working f r.e r.v r.m
    let k : State := kept f r s
    let noted : BitVec 16 :=
      (if (s.svt.working.winder.get f).pl < r.m then 0x0004 else 0) |||
        (if (s.svt.tuning.get f).vl < r.v.natAbs then 0x0008 else 0)
    let free : Prop := (∀ z, n.lo ≤ z → z ≤ n.hi → zoneOwner s z = none) ∧ OnOwnSide s f n
    let back : State :=
      ((regranted f n true k).setTracker f { k.tracker f with state := .tracked }).raiseFrame f .frameState
    let answered (status : Byte) (tracking : Tracking) (reasons : BitVec 16) (u : State) : Prop :=
      exec (.position p e v m flags) s =
        .next (replied p .position ([status] ++ u8 (trackingCode tracking) ++ u16 reasons.toNat) u.drive)
    Admitted s p .position → (s.port p).role = winderRole f → s.mdc.mode ≠ .lockout →
    (s.tracker f).state = .unknown →
    (s.svt.working.sl < r.e + s.svt.working.fh → answered 0x2B .unknown (s.tracker f).reasons s) ∧
    (r.e + s.svt.working.fh ≤ s.svt.working.sl → free → noted = 0 →
      answered 0x00 .tracked (s.tracker f).reasons (askRound back)) ∧
    (r.e + s.svt.working.fh ≤ s.svt.working.sl → free → noted ≠ 0 →
      ∃ t, exec (.position p e v m flags) s = .next t ∧ t.grant f = some n ∧ t.mdc.mode = .hold ∧
        t.tracker f = { k.tracker f with state := .tripped, reasons := (s.tracker f).reasons ||| noted }) ∧
    (r.e + s.svt.working.fh ≤ s.svt.working.sl → ¬ free →
      answered 0x00 .tripped ((s.tracker f).reasons ||| (0x0001 ||| noted)) (tripped f (0x0001 ||| noted) k))

/-- STALENESS_EXPIRY: a timer that has reached its expiry stops, and a TRACKED frame becomes STALE; a timer that is
stopped or not yet due does not expire (R30; the half range of the comparison is log 35's). A STALE frame's report that
passes every check, with no transfer, leaves it STALE with its grant frozen while in motion. At rest it returns the frame to
TRACKED (R31): without a request the grant is cut to the envelope; with one the zones ahead up to the target window stay, or
the request ends ARRIVED within LVT of its target and the grant is the envelope (R58, R60); a round is asked for (R61, in
every case by log 14). -/
def Obligations.AStaleFrameReturnsByAReportAtRest : Prop :=
  ∀ (p : PortId) (f : Frame) (e : BitVec 32) (v : BitVec 16) (m : BitVec 32) (flags : Byte) (g : Run) (q : Travel)
    (s : State),
    let r : Report := ⟨e.toNat, v.toInt, m.toInt.toNat, flags.getLsbD 0, s.time⟩
    let n : Run := envelope s.svt.working f r.e r.v r.m
    let back : State := recovered f r s
    let n' : Run := trimmed q.dir g n (targetWindow s.svt.working f q r.m)
    let arrived : Prop := (r.e - q.target) + (q.target - r.e) ≤ s.svt.working.lvt
    let stopped (x : Tracking) : State := s.setTracker f { s.tracker f with timer := none, state := x }
    let passes : Prop := Admitted s p .position ∧ (s.port p).role = winderRole f ∧ s.mdc.mode ≠ .lockout ∧
      (s.tracker f).state = .stale ∧ s.transfer f = none ∧ s.grant f = some g ∧
      PlausibleReport s f r ∧ r.m ≤ (s.svt.working.winder.get f).pl ∧ r.v.natAbs ≤ (s.svt.tuning.get f).vl ∧
      g.lo ≤ n.lo ∧ n.hi ≤ g.hi
    (∀ x, (s.tracker f).timer = some x → (s.time - x).toNat < 2147483648 → (s.tracker f).state = .tracked →
      exec (.stalenessExpiry f) s = .next ((stopped .stale).raiseFrame f .frameState).drive) ∧
    (∀ x, (s.tracker f).timer = some x → (s.time - x).toNat < 2147483648 → (s.tracker f).state ≠ .tracked →
      exec (.stalenessExpiry f) s = .next (stopped (s.tracker f).state).drive) ∧
    (∀ x, (s.tracker f).timer = some x → 2147483648 ≤ (s.time - x).toNat → exec (.stalenessExpiry f) s = .next s) ∧
    ((s.tracker f).timer = none → exec (.stalenessExpiry f) s = .next s) ∧
    (passes → 20 < r.v.natAbs → exec (.position p e v m flags) s =
      .next (replied p .position ([0x00] ++ u8 2 ++ u16 (s.tracker f).reasons.toNat) (kept f r s).drive)) ∧
    (passes → s.request f = none → r.v.natAbs ≤ 20 → exec (.position p e v m flags) s =
      .next (replied p .position ([0x00] ++ u8 1 ++ u16 (s.tracker f).reasons.toNat)
        (askRound (if n = g then back else regranted f n true back)).drive)) ∧
    (passes → s.request f = some q → r.v.natAbs ≤ 20 →
      (¬ arrived → exec (.position p e v m flags) s =
        .next (replied p .position ([0x00] ++ u8 1 ++ u16 (s.tracker f).reasons.toNat)
          (askRound (regranted f n' (cutAhead q.dir g n') back)).drive)) ∧
      (arrived → ∃ t, exec (.position p e v m flags) s = .next t ∧ t.tracker f = back.tracker f ∧
        t.request f = none ∧ t.gru.lastEnd.get f = .arrived ∧ t.grant f = some n ∧
        (∀ w, (s.port w).role = winderRole f → (t.port w).flags.getLsbD 5 = true) ∧
        t.inv = s.inv ∧ t.tku = s.tku ∧ t.sti = s.sti ∧ t.mdc.mode = s.mdc.mode))

/-- REQUEST_TRAVEL: the first check of R52 that fails gives the refusal; otherwise a request in no or the same direction
is stored or replaced and the grant trimmed with it in force, one in the opposite direction is refused with TRAVEL_ACTIVE
in motion and takes the place of the old after a trim to the envelope at rest; its blocked-reported indication goes back
to no (R81); OK in RUN, PENDING in HOLD, and a round is asked for (R52 to R55). -/
def Obligations.RequestTravelPlacesTheRequest : Prop :=
  ∀ (p : PortId) (f : Frame) (target : BitVec 32) (s : State),
    let no (status : Byte) : Prop := exec (.requestTravel p target) s = .next (replied p .requestTravel [status] s)
    let taken (u : State) : Prop := exec (.requestTravel p target) s =
      .next (replied p .requestTravel [if s.mdc.mode = .run then 0x00 else 0x01] (askRound u).drive)
    Admitted s p .requestTravel → (s.port p).role = winderRole f →
    (s.mdc.mode = .lockout → no 0x11) ∧
    (s.mdc.mode ≠ .lockout → (s.tracker f).state ≠ .tracked → no 0x15) ∧
    (∀ (r : Report) (g : Run), s.mdc.mode ≠ .lockout → (s.tracker f).state = .tracked → s.lastReport f = some r →
      s.grant f = some g →
      let e : Run := envelope s.svt.working f r.e r.v r.m
      let dir : Dir := if r.e < target.toNat then .up else .down
      let q : Travel := ⟨target.toNat, dir⟩
      let n : Run := trimmed dir g e (targetWindow s.svt.working f q r.m)
      let placed (u : State) : State := (u.setRequest f (some q)).setBlocked f false
      g.lo ≤ e.lo → e.hi ≤ g.hi →
      if s.svt.working.sl < target.toNat + s.svt.working.fh then no 0x13
      else if (target.toNat - r.e) + (r.e - target.toNat) ≤ s.svt.working.lvt then no 0x16
      else if s.transfer f ≠ none then no 0x12
      else
        (s.request f = none → taken (regranted f n (cutAhead dir g n) (placed s))) ∧
        (∀ old, s.request f = some old → old.dir = dir → taken (regranted f n (cutAhead dir g n) (placed s))) ∧
        (∀ old, s.request f = some old → old.dir ≠ dir → 20 < r.v.natAbs → no 0x17) ∧
        (∀ old, s.request f = some old → old.dir ≠ dir → r.v.natAbs ≤ 20 →
          taken (placed (regranted f e (cutAhead old.dir g e) s))))

/-- RELEASE_TRAVEL: with no request nothing changes; otherwise the request ends with RELEASED, REQUEST_ENDED is raised on
the winder port, the blocked-reported indication goes back to no (R81), the frame's pending tuning becomes working (R17),
and the grant is cut to the envelope for a TRACKED frame and stays for one that is not (R50, R56). -/
def Obligations.ReleaseTravelEndsTheRequest : Prop :=
  ∀ (p : PortId) (f : Frame) (s : State), Admitted s p .releaseTravel → (s.port p).role = winderRole f →
    (s.request f = none → exec (.releaseTravel p) s = .next (replied p .releaseTravel [0x00] s)) ∧
    (s.request f ≠ none → ∃ t, exec (.releaseTravel p) s = .next t ∧
      t.request f = none ∧ t.gru.lastEnd.get f = .released ∧ t.arb.blockedReported.get f = false ∧
      (let x := s.svt.tuning.get f
       t.svt.tuning.get f = ⟨x.pendingVl.getD x.vl, x.pendingLeg.getD x.leg, none, none⟩) ∧
      (∀ w, (s.port w).role = winderRole f → (t.port w).flags.getLsbD 5 = true) ∧
      (t.port p).replies = (s.port p).replies ++ [replyOf .releaseTravel [0x00]] ∧
      ((s.tracker f).state ≠ .tracked → t.grant f = s.grant f) ∧
      (∀ r g, (s.tracker f).state = .tracked → s.transfer f = none → s.lastReport f = some r → s.grant f = some g →
        let e := envelope s.svt.working f r.e r.v r.m
        g.lo ≤ e.lo → e.hi ≤ g.hi → t.grant f = some e) ∧
      (s.mdc.mode ≠ .run → t.grant f.other = s.grant f.other ∧ t.request f.other = s.request f.other) ∧
      t.ftk = s.ftk ∧ t.inv = s.inv ∧ t.tku = s.tku ∧ t.sti = s.sti ∧ t.mdc.mode = s.mdc.mode)

/-! ### Arbitration rounds -/

/-- A deadlock: both frames TRACKED and at rest, grant edge against grant edge, each with a demand toward the other. The
frame that the pointed entry names keeps its request; the other's ends with YIELD and its grant is cut to its envelope,
the loser is recorded, the pointer advances cyclically, and DEADLOCK is raised to dispatch and monitor (R77 to R79). -/
def Obligations.ADeadlockEndsTheLosersRequest : Prop :=
  ∀ (u l a b : Run) (qu ql : Travel) (s : State),
    (∀ f, (s.tracker f).state = .tracked ∧ s.transfer f = none ∧
      ∃ r, s.lastReport f = some r ∧ r.v.natAbs ≤ 20) →
    s.grant .U = some u → s.grant .L = some l → u.lo = l.hi + 1 → s.request .U = some qu → s.request .L = some ql →
    qu.dir = .down → ql.dir = .up → demand s .U = some a → demand s .L = some b →
    let winner : Frame := s.arb.table.getD s.arb.pointer .U
    let loser : Frame := winner.other
    (holdRound s).request loser = none ∧ (holdRound s).gru.lastEnd.get loser = .yield ∧
      (holdRound s).request winner = s.request winner ∧ (holdRound s).gru.lastEnd.get winner = s.gru.lastEnd.get winner ∧
      (holdRound s).arb.lastLoser = some loser ∧ (holdRound s).arb.table = s.arb.table ∧
      (holdRound s).arb.pointer = (if s.arb.pointer + 1 < s.arb.table.length then s.arb.pointer + 1 else 0) ∧
      (∀ w, isWatcher (s.port w).role = true → ((holdRound s).port w).flags.getLsbD 9 = true) ∧
      (∀ w, (s.port w).role = winderRole loser → ((holdRound s).port w).flags.getLsbD 5 = true) ∧
      (∀ r g, s.lastReport loser = some r → s.grant loser = some g →
        let e := envelope s.svt.working loser r.e r.v r.m
        g.lo ≤ e.lo → e.hi ≤ g.hi → (holdRound s).grant loser = some e) ∧
      (holdRound s).ftk = s.ftk ∧ (holdRound s).inv = s.inv ∧ (holdRound s).tku = s.tku ∧ (holdRound s).mdc = s.mdc

/-- A round over two TRACKED frames with at least one FREE zone between their grants serves a demand up to the other
frame's grant, or whole away from it, one or both of them, and the pointer stays; where the demands share a zone, the
frame that the pointed entry names is served first and the other what is left, the pointer advances, and neither is
blocked (R73, R75 to R77, R80; that the second is not, where its demand reaches past the gap, is log 43's). A frame that is not TRACKED is not served, nor is a demand toward a frame that is not (R72).
Such a demand of a frame at rest, and one of a frame at rest whose next zone is owned by a frame with no demand toward it,
is blocked: the indication is yes, and BLOCKED is raised where it was no, to the winder, dispatch and monitor. A frame in
motion is not blocked, nor is one whose opponent's demand stands and that is no deadlock (R80, R81). -/
def Obligations.ARoundServesTheFreeExtents : Prop :=
  (∀ (u l : Run) (s : State),
    s.grant .U = some u → s.grant .L = some l → u.lo ≤ u.hi → l.lo ≤ l.hi → l.hi + 1 < u.lo →
    (∀ f, (s.tracker f).state = .tracked) →
    (∀ q a, s.request .U = some q → q.dir = .down → demand s .U = some a → demand s .L = none →
      (holdRound s).grant .U = some ⟨max a.lo (l.hi + 1), u.hi⟩ ∧ (holdRound s).grant .L = some l ∧
        (holdRound s).arb.pointer = s.arb.pointer) ∧
    (∀ q a, s.request .U = some q → q.dir = .up → demand s .U = some a → demand s .L = none →
      (holdRound s).grant .U = some ⟨u.lo, a.hi⟩ ∧ (holdRound s).grant .L = some l ∧
        (holdRound s).arb.pointer = s.arb.pointer) ∧
    (∀ q b, s.request .L = some q → q.dir = .up → demand s .L = some b → demand s .U = none →
      (holdRound s).grant .L = some ⟨l.lo, min b.hi (u.lo - 1)⟩ ∧ (holdRound s).grant .U = some u ∧
        (holdRound s).arb.pointer = s.arb.pointer) ∧
    (∀ q b, s.request .L = some q → q.dir = .down → demand s .L = some b → demand s .U = none →
      (holdRound s).grant .L = some ⟨b.lo, l.hi⟩ ∧ (holdRound s).grant .U = some u ∧
        (holdRound s).arb.pointer = s.arb.pointer) ∧
    (∀ qu ql a b, s.request .U = some qu → s.request .L = some ql → demand s .U = some a → demand s .L = some b →
      qu.dir = .up ∨ ql.dir = .down ∨ b.hi < a.lo →
      (holdRound s).grant .U = some (match qu.dir with
        | .down => ⟨max a.lo (l.hi + 1), u.hi⟩
        | .up => ⟨u.lo, a.hi⟩) ∧
      (holdRound s).grant .L = some (match ql.dir with
        | .up => ⟨l.lo, min b.hi (u.lo - 1)⟩
        | .down => ⟨b.lo, l.hi⟩) ∧
      (holdRound s).arb = s.arb) ∧
    (∀ qu ql a b, s.request .U = some qu → s.request .L = some ql → qu.dir = .down → ql.dir = .up →
      demand s .U = some a → demand s .L = some b → a.lo ≤ b.hi →
      let uLo := max a.lo (l.hi + 1)
      let lHi := min b.hi (u.lo - 1)
      (holdRound s).arb.pointer = (if s.arb.pointer + 1 < s.arb.table.length then s.arb.pointer + 1 else 0) ∧
        (s.arb.table.getD s.arb.pointer .U = .U →
          (holdRound s).grant .U = some ⟨uLo, u.hi⟩ ∧ (holdRound s).grant .L = some ⟨l.lo, min b.hi (uLo - 1)⟩) ∧
        (s.arb.table.getD s.arb.pointer .U = .L →
          (holdRound s).grant .L = some ⟨l.lo, lHi⟩ ∧ (holdRound s).grant .U = some ⟨max a.lo (lHi + 1), u.hi⟩) ∧
        (holdRound s).arb.blockedReported = s.arb.blockedReported)) ∧
  (∀ (f : Frame) (s : State),
    let unserved : Prop := (holdRound s).grant f = s.grant f ∧ (holdRound s).request f = s.request f ∧
      (holdRound s).arb.pointer = s.arb.pointer
    let was : Bool := s.arb.blockedReported.get f
    let silent : Prop := (holdRound s).arb.blockedReported.get f = was
    let told : Prop := (holdRound s).arb.blockedReported.get f = true ∧
      (was = false → ∀ w, (s.port w).role = winderRole f ∨ isWatcher (s.port w).role = true →
        ((holdRound s).port w).flags.getLsbD 2 = true) ∧
      (was = true → ∀ w, (s.port w).role = winderRole f →
        ((holdRound s).port w).flags.getLsbD 2 = (s.port w).flags.getLsbD 2)
    let rests (g : Frame) : Prop := ∃ r, s.lastReport g = some r ∧ r.v.natAbs ≤ 20
    let asks (g : Frame) : Prop := demand s g ≠ none ∧ ∃ q, s.request g = some q ∧ q.dir = towardOther g
    let edgeToEdge : Prop := ∃ u l, s.grant .U = some u ∧ s.grant .L = some l ∧ u.lo ≤ u.hi ∧ l.lo ≤ l.hi ∧
      u.lo = l.hi + 1
    ((s.tracker f).state ≠ .tracked → unserved ∧ silent) ∧
    (¬ rests f → silent) ∧
    ((s.tracker f).state = .tracked → (s.tracker f.other).state ≠ .tracked → asks f →
      unserved ∧ (rests f → told)) ∧
    ((∀ g, (s.tracker g).state = .tracked) → edgeToEdge → asks f → ¬ asks f.other → unserved ∧ (rests f → told)) ∧
    ((∀ g, (s.tracker g).state = .tracked) → edgeToEdge → asks f → asks f.other → ¬ (rests f ∧ rests f.other) →
      unserved ∧ silent))

/-! ### Tasks -/

/-- SUBMIT_TASK of a mass that stands in a bay or rides on a frame, with every check of R110 to R112 passed, for a named
frame or for ANY with the other frame barred, its queue the longer, or the queues equal and the frame the nearer to the
source landing, U where both are equally near and a frame that is UNKNOWN or has no report infinitely far (R113): the
record with the lowest id is taken from the free list, filled, its mass and bays reserved, and put at the tail of the
frame's queue; at the front of an empty queue it is activated and TASK_CHANGED is raised; the reply carries the id and the frame (R107, R113 to R115). Otherwise the first
of the checks that fails gives the refusal, and nothing changes: MODE, RANGE, POOL_EMPTY, MASS, BAY, FRAME, LIMIT (R110 to
R112). -/
def Obligations.SubmitTaskQueuesTheLowestFreeRecord : Prop :=
  (∀ (p : PortId) (tag : BitVec 16) (mass bay frame : Byte) (f : Frame) (n k : Nat) (source : Option Nat) (s : State),
    let away (g : Frame) : Option Nat := match source.bind s.svt.working.landingOf, s.lastReport g with
      | some j, some r =>
        if (s.tracker g).state = .unknown then none
        else some ((r.e - s.svt.working.floor j) + (s.svt.working.floor j - r.e))
      | _, _ => none
    let nearer : Prop := match f with
      | .U => ∀ b, away .L = some b → ∃ a, away .U = some a ∧ a ≤ b
      | .L => ∃ b, away .L = some b ∧ ∀ a, away .U = some a → b < a
    Admitted s p .submitTask → s.mdc.mode ≠ .lockout → PoolPartitioned s → s.svt.working.nb ≤ 40 →
    n ∈ s.tku.free → (∀ i ∈ s.tku.free, n ≤ i) →
    1 ≤ mass.toNat → mass.toNat ≤ 40 → (s.mass mass.toNat).task = none →
    bay.toNat < s.svt.working.nb → s.svt.working.landingOf bay.toNat = some k → (s.landing k).inService = true →
    (s.bay bay.toNat).inService = true → (s.bay bay.toNat).content = none → (s.bay bay.toNat).task = none →
    ((s.mass mass.toNat).state = .stored ∧ (s.mass mass.toNat).bay = source ∧
        (∃ b < 40, source = some b ∧ b ≠ bay.toNat ∧ (s.bay b).task = none) ∧
        (∀ id ∈ massIds, ¬ ((s.mass id).state = .carried ∧ (s.mass id).frame = some f ∧ (s.mass id).task = none)) ∧
        (frame.toNat = frameCode f ∨ (frame.toNat = 2 ∧
          ((∃ id ∈ massIds, (s.mass id).state = .carried ∧ (s.mass id).frame = some f.other ∧ (s.mass id).task = none) ∨
            (s.tku.queues.get f).length < (s.tku.queues.get f.other).length ∨
            ((s.tku.queues.get f).length = (s.tku.queues.get f.other).length ∧
              source.bind s.svt.working.landingOf ≠ none ∧ nearer)))) ∨
      (s.mass mass.toNat).state = .carried ∧ (s.mass mass.toNat).frame = some f ∧ source = none ∧
        (frame.toNat = frameCode f ∨ frame.toNat = 2)) →
    (s.mass mass.toNat).nominal ≤ (s.svt.working.winder.get f).pl →
    ∃ t, exec (.submitTask p tag mass bay frame) s = .next t ∧
      t.task n = { tag := tag, mass := mass.toNat, source := source, dest := bay.toNat, frame := f
                   phase := if s.tku.queues.get f ≠ [] then .queued else if source.isSome then .toPickup else .toDrop
                   cancelPending := false, reasons := 0, delta := 0, outcome := none } ∧
      t.tku.queues.get f = s.tku.queues.get f ++ [n] ∧ t.tku.queues.get f.other = s.tku.queues.get f.other ∧
      t.tku.free = s.tku.free.erase n ∧ t.tku.completion = s.tku.completion ∧
      t.mass mass.toNat = { s.mass mass.toNat with task := some n } ∧
      (∀ id, id ≠ mass.toNat → t.mass id = s.mass id) ∧
      (t.bay bay.toNat).task = some n ∧ (∀ b, source = some b → (t.bay b).task = some n) ∧
      (s.tku.queues.get f = [] → ∀ w, (s.port w).role = winderRole f → (t.port w).flags.getLsbD 6 = true) ∧
      (t.port p).replies =
        (s.port p).replies ++ [replyOf .submitTask ([0x00] ++ u8 n ++ u8 (frameCode f))] ∧
      t.ftk = s.ftk ∧ t.gru.grants = s.gru.grants ∧ t.arb = s.arb ∧ t.inv.save = s.inv.save ∧ t.sti = s.sti) ∧
  (∀ (p : PortId) (tag : BitVec 16) (mass bay frame : Byte) (s : State), Admitted s p .submitTask →
    let x : Mass := s.mass mass.toNat
    let no (status : Byte) : Prop :=
      exec (.submitTask p tag mass bay frame) s = .next (replied p .submitTask [status] s)
    let asked : Prop := s.mdc.mode ≠ .lockout ∧ frame.toNat ≤ 2 ∧ s.tku.free ≠ []
    let movable : Prop := 1 ≤ mass.toNat ∧ mass.toNat ≤ 40 ∧ (x.state = .stored ∨ x.state = .carried) ∧ x.task = none
    let fits : Prop := bay.toNat < s.svt.working.nb ∧
      (∃ k, s.svt.working.landingOf bay.toNat = some k ∧ (s.landing k).inService = true) ∧
      (s.bay bay.toNat).inService = true ∧ (s.bay bay.toNat).content = none ∧ (s.bay bay.toNat).task = none ∧
      ¬ (x.state = .stored ∧ x.bay = some bay.toNat)
    let barred (g : Frame) : Prop := ∃ id ∈ massIds,
      (s.mass id).state = .carried ∧ (s.mass id).frame = some g ∧ (s.mass id).task = none
    let takes (g : Frame) : Prop := (x.state = .carried ∧ x.frame = some g ∧ (frame.toNat = 2 ∨ frame.toNat = frameCode g)) ∨
      (x.state = .stored ∧ ¬ barred g ∧ (frame.toNat = frameCode g ∨ (frame.toNat = 2 ∧ barred g.other)))
    (s.mdc.mode = .lockout → no 0x11) ∧
    (s.mdc.mode ≠ .lockout → 2 < frame.toNat → no 0x13) ∧
    (s.mdc.mode ≠ .lockout → frame.toNat ≤ 2 → s.tku.free = [] → no 0x1D) ∧
    (asked → ¬ movable → no 0x1E) ∧
    (asked → movable → ¬ fits → no 0x1F) ∧
    (∀ g, asked → movable → fits → frame.toNat = frameCode g → x.state = .carried → x.frame ≠ some g → no 0x20) ∧
    (∀ g, asked → movable → fits → frame.toNat = frameCode g → x.state = .stored → barred g → no 0x20) ∧
    (asked → movable → fits → frame.toNat = 2 → x.state = .stored → barred .U → barred .L → no 0x20) ∧
    (∀ g, asked → movable → fits → takes g → (s.svt.working.winder.get g).pl < x.nominal → no 0x21))

/-- CANCEL_TASK: a QUEUED or TO_PICKUP task ends CANCELLED: its reservations are released, its record with CANCELLED and
its outcome joins the tail of the completion list, COMPLETION_READY is raised, and a record that becomes head is activated
with TASK_CHANGED; a LOADING task is marked; any other is refused with COMMITTED, one that is not live with NO_TASK, an id
above 31 with RANGE (R115, R121, R122). -/
def Obligations.CancelTaskEndsOrMarksTheTask : Prop :=
  ∀ (p : PortId) (n : Byte) (f : Frame) (s : State),
    let id : Nat := n.toNat
    let no (status : Byte) : Prop := exec (.cancelTask p n) s = .next (replied p .cancelTask [status] s)
    Admitted s p .cancelTask → PoolPartitioned s →
    (32 ≤ id → no 0x13) ∧
    (id < 32 → id ∉ s.tku.queues.u → id ∉ s.tku.queues.l → no 0x1A) ∧
    (id ∈ s.tku.queues.get f → (s.task id).phase ≠ .queued → (s.task id).phase ≠ .toPickup →
      (s.task id).phase ≠ .loading → no 0x22) ∧
    (id ∈ s.tku.queues.get f → (s.task id).phase = .loading → exec (.cancelTask p n) s =
      .next (replied p .cancelTask [0x01] (s.setTask id { s.task id with cancelPending := true }))) ∧
    (id ∈ s.tku.queues.get f → (s.task id).phase = .queued ∨ (s.task id).phase = .toPickup →
      ∃ t, exec (.cancelTask p n) s = .next t ∧
        t.task id = { s.task id with
          phase := .cancelled, cancelPending := false, reasons := (s.task id).reasons ||| 0x0001
          outcome := some ⟨(s.task id).phase, (s.mass (s.task id).mass).state⟩ } ∧
        t.tku.queues.get f = (s.tku.queues.get f).erase id ∧
        t.tku.queues.get f.other = s.tku.queues.get f.other ∧
        t.tku.completion = s.tku.completion ++ [id] ∧ t.tku.free = s.tku.free ∧
        (∀ m, t.mass m = { s.mass m with
          task := if m = (s.task id).mass ∧ (s.mass m).task = some id then none else (s.mass m).task }) ∧
        (t.bay (s.task id).dest).task ≠ some id ∧ (∀ b, (s.task id).source = some b → (t.bay b).task ≠ some id) ∧
        (∀ w, isWatcher (s.port w).role = true → (t.port w).flags.getLsbD 8 = true) ∧
        (∀ next rest, s.tku.queues.get f = id :: next :: rest → (t.task next).phase =
          match (s.mass (s.task next).mass).state with
          | .stored => .toPickup
          | .carried => .toDrop
          | _ => (s.task next).phase) ∧
        ((s.tku.queues.get f).head? = some id →
          ∀ w, (s.port w).role = winderRole f → (t.port w).flags.getLsbD 6 = true) ∧
        (t.port p).replies = (s.port p).replies ++ [replyOf .cancelTask [0x00]] ∧
        t.gru.grants = s.gru.grants ∧ t.inv.save = s.inv.save ∧ t.sti = s.sti)

/-- REDIRECT_TASK: a bay that passes the BAY check of R111 becomes the destination and is reserved, and one that does not
is refused with BAY; the old destination's reservation is released, but for a source bay, which keeps its own; the present destination is answered OK
with no change; the reply carries the bay and its landing (R125; log 24). TAKE_COMPLETION: the record at the front of the
list is returned to the free list and its fields are the reply, EMPTY where there is none (R107, R126). -/
def Obligations.TasksAreRedirectedAndCollected : Prop :=
  ∀ (p : PortId) (n bay : Byte) (f : Frame) (k : Nat) (s : State),
    let id : Nat := n.toNat
    let b : Nat := bay.toNat
    let x : Task := s.task id
    let no (status : Byte) : Prop := exec (.redirectTask p n bay) s = .next (replied p .redirectTask [status] s)
    let fits (k : Nat) : Prop := b < s.svt.working.nb ∧ s.svt.working.landingOf b = some k ∧ (s.bay b).inService = true ∧
      (s.landing k).inService = true ∧ (s.bay b).content = none ∧
      ((s.bay b).task = none ∨ (s.bay b).task = some id) ∧
      ¬ ((s.mass x.mass).state = .stored ∧ (s.mass x.mass).bay = some b)
    PoolPartitioned s → s.svt.working.nb ≤ 40 →
    (Admitted s p .redirectTask → 32 ≤ id → no 0x13) ∧
    (Admitted s p .redirectTask → id < 32 → id ∉ s.tku.queues.u → id ∉ s.tku.queues.l → no 0x1A) ∧
    (Admitted s p .redirectTask → id ∈ s.tku.queues.get f → x.phase = .loading ∨ x.phase = .unloading → no 0x12) ∧
    (Admitted s p .redirectTask → id ∈ s.tku.queues.get f →
      x.phase = .queued ∨ x.phase = .toPickup ∨ x.phase = .toDrop →
      (s.svt.working.nb ≤ b → no 0x1F) ∧
      ((¬ ∃ k, fits k) → no 0x1F) ∧
      (fits k → b = x.dest →
        exec (.redirectTask p n bay) s = .next (replied p .redirectTask ([0x00] ++ u8 b ++ u8 k) s)) ∧
      (fits k → b ≠ x.dest → ∃ t, exec (.redirectTask p n bay) s = .next t ∧
        t.task id = { x with dest := b } ∧ (t.bay b).task = some id ∧
        (t.bay x.dest).task =
          (if (s.bay x.dest).task = some id ∧ x.source ≠ some x.dest then none else (s.bay x.dest).task) ∧
        (∀ c, c ≠ b → c ≠ x.dest → t.bay c = s.bay c) ∧ t.inv.masses = s.inv.masses ∧
        t.tku.queues = s.tku.queues ∧ t.tku.completion = s.tku.completion ∧
        ((s.tku.queues.get f).head? = some id →
          ∀ w, (s.port w).role = winderRole f → (t.port w).flags.getLsbD 6 = true) ∧
        (t.port p).replies = (s.port p).replies ++ [replyOf .redirectTask ([0x00] ++ u8 b ++ u8 k)])) ∧
    (Admitted s p .takeCompletion → s.tku.completion = [] →
      exec (.takeCompletion p) s = .next (replied p .takeCompletion [0x23] s)) ∧
    (∀ i rest, Admitted s p .takeCompletion → s.tku.completion = i :: rest →
      ∃ free : List Nat, free.Perm (i :: s.tku.free) ∧
        exec (.takeCompletion p) s = .next (replied p .takeCompletion
          ([0x00] ++ u8 i ++ u16 (s.task i).tag.toNat ++ u8 (s.task i).mass ++ u8 ((s.task i).source.getD 0xFF) ++
            u8 (s.task i).dest ++ u8 (frameCode (s.task i).frame) ++ u8 (phaseCode (s.task i).phase) ++
            u16 (s.task i).reasons.toNat ++ signed 4 (s.task i).delta ++
            (match (s.task i).outcome with
              | some o => u8 (phaseCode o.phase) ++ u8 (massStateCode o.mass)
              | none => u8 0 ++ u8 0))
          (s.setTku { s.tku with completion := rest, free := free })))

/-! ### Transfers -/

/-- TRANSFER of the head task at the landing where the frame stands, with every check of R132 passed: the grant takes in
the reservation, the context is filled with the return place, the expected payload and the span, the mass is IN_TRANSFER
between bay and frame, the task is LOADING or UNLOADING with the step difference in its delta, PERMIT_f is off, a save is
asked for with the commit waiting on it, and the reply is PENDING (R92, R97, R118, R132 to R134). Otherwise the
first check of R132 that fails gives the refusal, and nothing changes. -/
def Obligations.TransferCommitsTheHeadTask : Prop :=
  (∀ (p : PortId) (f : Frame) (kind : Kind) (r : Report) (g : Run) (k id mass b : Nat) (s : State),
    let sv : Survey := s.svt.working
    let w : Winder := sv.winder.get f
    let after : Nat := match kind with
      | .load => (s.mass mass).nominal
      | .unload => 0
    let x : Int := (r.e : Int) - (ropeAllowance sv w r.e after : Int) + (ropeAllowance sv w r.e r.m : Int)
    let now : Run := restEnvelope sv f r.e r.m
    let later : Run := restEnvelope sv f x after
    let wide : Run := ⟨min g.lo (min now.lo later.lo), max g.hi (max now.hi later.hi)⟩
    Admitted s p .transfer → (s.port p).role = winderRole f → s.mdc.mode = .run → s.transfer f = none →
    (s.tracker f).state = .tracked → s.lastReport f = some r → r.v.natAbs ≤ 20 → k < sv.nl →
    (r.e - sv.floor k) + (sv.floor k - r.e) ≤ sv.lvt →
    (∀ j < k, sv.lvt < (r.e - sv.floor j) + (sv.floor j - r.e)) →
    s.request f = none → r.brakeSet = true → (s.tku.queues.get f).head? = some id → id < 32 →
    sv.landingOf b = some k → (s.task id).mass = mass → 1 ≤ mass → mass ≤ 40 → b < 40 →
    (match kind with
      | .load => (s.task id).phase = .toPickup ∧ (s.task id).source = some b ∧ (s.mass mass).state = .stored ∧
          (s.mass mass).bay = some b ∧ ∀ j ∈ massIds, (s.mass j).namedFrame ≠ some f
      | .unload => (s.task id).phase = .toDrop ∧ (s.task id).dest = b ∧ (s.mass mass).state = .carried ∧
          (s.mass mass).frame = some f ∧ (s.bay b).content = none) →
    (s.bay b).inService = true → (s.landing k).inService = true → s.inv.save ≠ .notSaved → s.grant f = some g →
    (∀ z, wide.lo ≤ z → z ≤ wide.hi → zoneOwner s z ≠ some f.other) →
    ∃ t, exec (.transfer p) s = .next t ∧
      t.grant f = some wide ∧ t.grant f.other = s.grant f.other ∧
      t.transfer f = some { phase := .committing, kind := kind, task := id, mass := mass, landing := k, bay := b
                            ret := match kind with
                              | .load => .bay b
                              | .unload => .frame f ((s.mass mass).landing.getD 0)
                            expected := after, spanLo := min (r.e : Int) x - sv.lvt, spanHi := max (r.e : Int) x + sv.lvt
                            timer := none, cause := .none } ∧
      t.mass mass = { s.mass mass with state := .inTransfer, bay := some b, frame := some f, landing := none } ∧
      (∀ j, j ≠ mass → t.mass j = s.mass j) ∧
      t.task id = { s.task id with
        phase := match kind with
          | .load => .loading
          | .unload => .unloading
        delta := (s.task id).delta + ((t.inv.storedKJ : Int) - (s.inv.storedKJ : Int)) } ∧
      t.inv.storedKJ = storedOf (rawSum sv t.inv.masses) ∧
      t.gru.permit.get f = false ∧ t.mdc.mode = .run ∧ t.ftk = s.ftk ∧
      (s.inv.save = .clean → t.inv.save = .writing ∧ t.inv.carriedWaiters = [⟨f, .commit⟩]) ∧
      (s.inv.save ≠ .clean → t.inv.save = .writingDirty ∧ t.sti = s.sti ∧
        t.inv.nextWaiters = s.inv.nextWaiters ++ [⟨f, .commit⟩]) ∧
      (∀ w, (s.port w).role = winderRole f → (t.port w).flags.getLsbD 6 = true) ∧
      (t.port p).replies = (s.port p).replies ++
        [replyOf .transfer ([0x01] ++ u8 (kindCode kind) ++ u8 id ++ u8 mass ++ u8 k ++ u8 b)]) ∧
  (∀ (p : PortId) (f : Frame) (s : State), Admitted s p .transfer → (s.port p).role = winderRole f →
    let sv : Survey := s.svt.working
    let no (status : Byte) : Prop := exec (.transfer p) s = .next (replied p .transfer [status] s)
    let near (e k : Nat) : Prop := (e - sv.floor k) + (sv.floor k - e) ≤ sv.lvt
    let stands (r : Report) (k : Nat) : Prop := s.lastReport f = some r ∧ r.v.natAbs ≤ 20 ∧ k < sv.nl ∧ near r.e k ∧
      ∀ j < k, ¬ near r.e j
    let ready : Prop := s.mdc.mode = .run ∧ s.transfer f = none ∧ (s.tracker f).state = .tracked
    let calls (k : Nat) (kind : Kind) (id b : Nat) : Prop := (s.tku.queues.get f).head? = some id ∧
      sv.landingOf b = some k ∧ match kind with
        | .load => (s.task id).phase = .toPickup ∧ (s.task id).source = some b
        | .unload => (s.task id).phase = .toDrop ∧ (s.task id).dest = b
    (s.mdc.mode ≠ .run → no 0x11) ∧
    (s.mdc.mode = .run → s.transfer f ≠ none → no 0x12) ∧
    (s.mdc.mode = .run → s.transfer f = none → (s.tracker f).state ≠ .tracked → no 0x15) ∧
    (ready → (¬ ∃ r k, stands r k) → no 0x18) ∧
    (∀ r k, ready → stands r k → s.request f ≠ none → no 0x17) ∧
    (∀ r k, ready → stands r k → s.request f = none → r.brakeSet = false → no 0x19) ∧
    (∀ r k, ready → stands r k → s.request f = none → r.brakeSet = true → (¬ ∃ kind id b, calls k kind id b) → no 0x1A) ∧
    (∀ r k kind id b, ready → stands r k → s.request f = none → r.brakeSet = true → calls k kind id b →
      let x : Mass := s.mass (s.task id).mass
      let after : Nat := match kind with
        | .load => x.nominal
        | .unload => 0
      let now : Run := restEnvelope sv f r.e r.m
      let later : Run := restEnvelope sv f
        ((r.e : Int) - (ropeAllowance sv (sv.winder.get f) r.e after : Int) +
          (ropeAllowance sv (sv.winder.get f) r.e r.m : Int)) after
      let inPlace : Prop := match kind with
        | .load => x.state = .stored ∧ x.bay = some b
        | .unload => x.state = .carried ∧ x.frame = some f
      let clear : Prop := match kind with
        | .load => ∀ j ∈ massIds, (s.mass j).namedFrame ≠ some f
        | .unload => (s.bay b).content = none
      let usable : Prop := (s.bay b).inService = true ∧ (s.landing k).inService = true
      (¬ inPlace → no 0x1E) ∧
      (inPlace → ¬ clear → no (match kind with
        | .load => 0x20
        | .unload => 0x1F)) ∧
      (inPlace → clear → ¬ usable → no 0x1B) ∧
      (inPlace → clear → usable → s.inv.save = .notSaved → no 0x2A) ∧
      (∀ g z, inPlace → clear → usable → s.inv.save ≠ .notSaved → s.grant f = some g →
        min g.lo (min now.lo later.lo) ≤ z → z ≤ max g.hi (max now.hi later.hi) → zoneOwner s z = some f.other →
        no 0x1C)))

/-- GDONE_k while a transfer runs the gear of landing k: the command output falls, the timer stops and the transfer is
VERIFYING, and nothing else changes (R139). With no transfer running it, the edge is unexpected: the late one of a
timed-out landing sets LATE and clears the marker, any other sets the unexpected-signal indication, GEAR_UNEXPECTED is
raised, and beyond NL that is all (R143). -/
def Obligations.GearDoneStartsTheVerification : Prop :=
  ∀ (k : Fin 12) (s : State),
    let runs (f : Frame) : Prop := ∃ x, s.transfer f = some x ∧ x.phase = .gearRunning ∧ x.landing = k.val
    (∀ f x, s.transfer f = some x → x.phase = .gearRunning → x.landing = k.val → ¬ runs f.other →
      ∃ t, exec (.gdoneRising k) s = .next t ∧
        t = (s.setTransfer f (some { x with phase := .verifying, timer := none })).drive ∧
        t.xfc.ldcmd.getD k.val true = false ∧ t.xfc.ulcmd.getD k.val true = false) ∧
    (¬ runs .U → ¬ runs .L → k.val < s.svt.working.nl → s.xfc.timedOut.getD k.val false = true →
      exec (.gdoneRising k) s = .next (((s.setLanding k.val { s.landing k.val with late := true }).setXfc
        { s.xfc with timedOut := s.xfc.timedOut.set k.val false }).raiseWatchers .gearUnexpected).drive) ∧
    (¬ runs .U → ¬ runs .L → k.val < s.svt.working.nl → s.xfc.timedOut.getD k.val false = false →
      exec (.gdoneRising k) s = .next ((s.setLanding k.val
        { s.landing k.val with unexpected := true }).raiseWatchers .gearUnexpected).drive) ∧
    (¬ runs .U → ¬ runs .L → s.svt.working.nl ≤ k.val →
      exec (.gdoneRising k) s = .next (s.raiseWatchers .gearUnexpected).drive)

/-- GFLT_k while a transfer runs the gear of landing k, and the expiry of its timer, fail the transfer: the mass is
UNACCOUNTED without a place, the inventory UNVERIFIED, the landing out of service and after a timeout marked, the context
IDLE with the result FAILED, the frame TRIPPED with the cause and the shaft in HOLD, the task ended FAILED with it, and
the grant stays (R140, R141). A timer not yet due does not expire (log 3), and half the range of the clock bounds what is
due (log 35); an unexpected GFLT_k sets its indication
(R143). -/
def Obligations.AGearFaultOrTimeoutFailsTheTransfer : Prop :=
  ∀ (k : Fin 12) (f : Frame) (x : Transfer) (s : State),
    let runs (f : Frame) : Prop := ∃ x, s.transfer f = some x ∧ x.phase = .gearRunning ∧ x.landing = k.val
    let failed (c : Instr) (cause : Cause) (trip reason : BitVec 16) (marked : Bool) : Prop :=
      ∃ t, exec c s = .next t ∧ t.transfer f = none ∧
        t.xfc.lastResult.get f = some ⟨x.kind, x.task, x.mass, x.landing, x.bay, .failed, cause, false⟩ ∧
        (t.mass x.mass).state = .unaccounted ∧ (t.mass x.mass).bay = none ∧ (t.mass x.mass).frame = none ∧
        (t.mass x.mass).landing = none ∧ (∀ j, j ≠ x.mass → (t.mass j).state = (s.mass j).state) ∧
        t.inv.verified = false ∧ (t.landing k.val).inService = false ∧ t.xfc.timedOut.getD k.val false = marked ∧
        (t.tracker f).state = .tripped ∧ (t.tracker f).reasons = (s.tracker f).reasons ||| trip ∧
        t.tracker f.other = s.tracker f.other ∧ t.gru.grants = s.gru.grants ∧
        t.mdc.mode = (if s.mdc.mode = .run then .hold else s.mdc.mode) ∧ t.mdc.fault = true ∧
        (PoolPartitioned s → x.task ∈ s.tku.queues.get f → (t.task x.task).phase = .failed ∧
          (t.task x.task).reasons = (s.task x.task).reasons ||| reason |||
            (if (s.task x.task).cancelPending then 0x0001 else 0) ∧
          t.tku.completion = s.tku.completion ++ [x.task]) ∧
        (∀ w, (s.port w).role = winderRole f → (t.port w).flags.getLsbD 7 = true)
    (s.transfer f = some x → x.phase = .gearRunning → x.landing = k.val → 1 ≤ x.mass → x.mass ≤ 40 →
      ¬ runs f.other →
      failed (.gfltRising k) .transferFault 0x0080 0x0004 (s.xfc.timedOut.getD k.val false)) ∧
    (∀ z, s.transfer f = some x → x.phase = .gearRunning → x.landing = k.val → 1 ≤ x.mass → x.mass ≤ 40 →
      x.timer = some z → (s.time - z).toNat < 2147483648 →
      failed (.transferTimerExpiry f) .transferTimeout 0x0100 0x0008 true) ∧
    (∀ z, s.transfer f = some x → x.timer = some z → 2147483648 ≤ (s.time - z).toNat →
      exec (.transferTimerExpiry f) s = .next s) ∧
    (s.transfer f = none → exec (.transferTimerExpiry f) s = .next s) ∧
    (¬ runs .U → ¬ runs .L → k.val < s.svt.working.nl → exec (.gfltRising k) s =
      .next ((s.setLanding k.val { s.landing k.val with unexpected := true }).raiseWatchers .gearUnexpected).drive) ∧
    (¬ runs .U → ¬ runs .L → s.svt.working.nl ≤ k.val →
      exec (.gfltRising k) s = .next (s.raiseWatchers .gearUnexpected).drive)

/-- An accepted report reaches its frame's transfer, whether the frame is TRACKED, STALE or TRIPPED (R28, R31, R33, R135).
In VERIFYING the first at rest with the brake set that trips nothing is judged: within LDT of the expected payload the mass
takes its verified place, the transfer is FINISHING and waits on a save; outside it the mass is lost, the transfer ends
FAILED with LOAD_MISMATCH, the frame trips with it and the landing stays in service (R87, R144). A brake released, and in
COMMITTING and GEAR_RUNNING also a motion or a place off the span, trips the frame with BRAKE_RELEASED and abandons a
transfer in COMMITTING, fails one in GEAR_RUNNING or VERIFYING, and leaves one in ABANDONING or FINISHING (R135, R137,
R140, R142); what else such a report notes trips the frame with it. Any other report changes nothing in the transfer, nor
does one that trips the frame for another reason. The trip reason sets are as R32 has them. -/
def Obligations.AReportAtRestVerifiesTheTransfer : Prop :=
  ∀ (p : PortId) (f : Frame) (e : BitVec 32) (v : BitVec 16) (m : BitVec 32) (flags : Byte) (g : Run) (x : Transfer)
    (s : State),
    let r : Report := ⟨e.toNat, v.toInt, m.toInt.toNat, flags.getLsbD 0, s.time⟩
    let n : Run := envelope s.svt.working f r.e r.v r.m
    let state : Tracking := (s.tracker f).state
    let contained : Prop := s.grant f = some g ∧ r.m ≤ (s.svt.working.winder.get f).pl ∧
      r.v.natAbs ≤ (s.svt.tuning.get f).vl ∧ g.lo ≤ n.lo ∧ n.hi ≤ g.hi
    let passes : Prop := state = .tripped ∨ ((state = .tracked ∨ state = .stale) ∧ contained)
    let still : Prop := x.phase = .committing ∨ x.phase = .gearRunning
    let released : Prop := r.brakeSet = false ∨
      (still ∧ (20 < r.v.natAbs ∨ (r.e : Int) < x.spanLo ∨ x.spanHi < (r.e : Int)))
    let noted : BitVec 16 :=
      (if (s.svt.working.winder.get f).pl < r.m then 0x0004 else 0) |||
        (if (s.svt.tuning.get f).vl < r.v.natAbs then 0x0008 else 0) |||
        (match s.grant f with
          | some h => if h.lo ≤ n.lo ∧ n.hi ≤ h.hi then 0 else 0x0010
          | none => 0x0010)
    let answered (code : Nat) (reasons : BitVec 16) (u : State) : Prop := exec (.position p e v m flags) s =
      .next (replied p .position ([0x00] ++ u8 code ++ u16 reasons.toNat) u.drive)
    Admitted s p .position → (s.port p).role = winderRole f → s.mdc.mode ≠ .lockout → s.request f = none →
    s.transfer f = some x → PlausibleReport s f r → TripsHaveReasons s →
    (passes → x.phase = .verifying → r.v.natAbs ≤ 20 → r.brakeSet = true → 1 ≤ x.mass → x.mass ≤ 40 →
      s.inv.save ≠ .notSaved →
      ∃ t, exec (.position p e v m flags) s = .next t ∧ t.grant f = s.grant f ∧ t.landing = s.landing ∧
        ((r.m - x.expected) + (x.expected - r.m) ≤ s.svt.working.ldt →
          t.transfer f = some { x with phase := .finishing } ∧
          t.tracker f = { (kept f r s).tracker f with state := if state = .tripped then .tripped else .tracked } ∧
          t.mass x.mass = (match x.kind with
            | .load => { s.mass x.mass with state := .carried, bay := none, frame := some f, landing := some x.landing }
            | .unload => { s.mass x.mass with state := .stored, bay := some x.bay, frame := none, landing := none }) ∧
          t.inv.save = (if s.inv.save = .clean then .writing else .writingDirty) ∧ t.mdc.mode = s.mdc.mode) ∧
        (s.svt.working.ldt < (r.m - x.expected) + (x.expected - r.m) →
          t.transfer f = none ∧
          t.xfc.lastResult.get f = some ⟨x.kind, x.task, x.mass, x.landing, x.bay, .failed, .loadMismatch, false⟩ ∧
          (t.mass x.mass).state = .unaccounted ∧ t.inv.verified = false ∧ (t.tracker f).state = .tripped ∧
          (t.tracker f).reasons = (s.tracker f).reasons ||| 0x0040 ∧ t.mdc.mode = .hold)) ∧
    (state ≠ .unknown → released →
      ∃ t, exec (.position p e v m flags) s = .next t ∧ t.grant f = s.grant f ∧
        t.tracker f = { (kept f r s).tracker f with
          state := .tripped
          reasons := (s.tracker f).reasons ||| 0x0020 ||| (if state = .tripped then 0 else noted) } ∧
        (state ≠ .tripped → t.mdc.mode = .hold) ∧
        (x.phase = .committing →
          (s.inv.save ≠ .notSaved → t.transfer f = some { x with phase := .abandoning, cause := .brakeReleased }) ∧
          (s.inv.save = .notSaved → t.transfer f = none ∧ t.xfc.lastResult.get f =
            some ⟨x.kind, x.task, x.mass, x.landing, x.bay, .abandoned, .brakeReleased, false⟩) ∧
          (1 ≤ x.mass → x.mass ≤ 40 → t.mass x.mass = (match x.ret with
            | .bay b => { s.mass x.mass with
                state := .stored, bay := some b, frame := none, landing := none, task := (t.mass x.mass).task }
            | .frame h k => { s.mass x.mass with
                state := .carried, bay := none, frame := some h, landing := some k, task := (t.mass x.mass).task }))) ∧
        (x.phase = .gearRunning ∨ x.phase = .verifying → t.transfer f = none ∧
          t.xfc.lastResult.get f = some ⟨x.kind, x.task, x.mass, x.landing, x.bay, .failed, .brakeReleased, false⟩ ∧
          t.inv.verified = false ∧ (1 ≤ x.mass → x.mass ≤ 40 → (t.mass x.mass).state = .unaccounted) ∧
          (x.phase = .gearRunning → x.landing < 12 → (t.landing x.landing).inService = false) ∧
          (x.phase = .verifying → t.landing = s.landing)) ∧
        (x.phase = .abandoning ∨ x.phase = .finishing →
          t.transfer f = some x ∧ t.inv = s.inv ∧ t.tku = s.tku ∧ t.sti = s.sti)) ∧
    (¬ released → x.phase ≠ .verifying ∨ 20 < r.v.natAbs →
      (state = .tripped → answered 3 (s.tracker f).reasons (kept f r s)) ∧
      (state = .tracked → contained → answered 1 (s.tracker f).reasons (kept f r s)) ∧
      (state = .stale → contained → 20 < r.v.natAbs → answered 2 (s.tracker f).reasons (kept f r s)) ∧
      (state = .stale → contained → r.v.natAbs ≤ 20 →
        answered 1 (s.tracker f).reasons (askRound (recovered f r s)))) ∧
    (¬ released → state = .tracked ∨ state = .stale → noted ≠ 0 →
      answered 3 ((s.tracker f).reasons ||| noted) (tripped f noted (kept f r s)))

/-! ### Tuning and survey -/

/-- SET_TUNING: a service table of the wrong length or with an entry that names no frame is refused with RANGE. Otherwise
each VL and LEG part, clamped into its range, becomes working where its frame holds no request and pending where it does,
the table becomes working with the pointer at 0 where neither frame holds one and pending otherwise, and a round is asked
for where a working value changed (R14 to R16; the layout of the reply is log 21's, "changed" log 15's). -/
def Obligations.SetTuningAppliesItsParts : Prop :=
  ∀ (p : PortId) (present : Byte) (vlU : BitVec 16) (legU : Byte) (vlL : BitVec 16) (legL len : Byte)
    (entries : List Byte) (s : State),
    let has (i : Nat) : Bool := present.getLsbD i
    let c : Instr := .setTuning p present vlU legU vlL legL len entries
    let clamp (lo hi v : Nat) : Nat := if v < lo then lo else if hi < v then hi else v
    let vl (f : Frame) (v : Nat) : Nat := clamp 500 (s.svt.working.winder.get f).vlMax v
    let free (f : Frame) : Bool := (s.request f).isNone
    let tuned (f : Frame) (hasVl : Bool) (v : Nat) (hasLeg : Bool) (w : Nat) : Tuning :=
      let x := s.svt.tuning.get f
      { vl := if hasVl && free f then vl f v else x.vl
        leg := if hasLeg && free f then clamp 2 64 w else x.leg
        pendingVl := if hasVl then (if free f then none else some (vl f v)) else x.pendingVl
        pendingLeg := if hasLeg then (if free f then none else some (clamp 2 64 w)) else x.pendingLeg }
    let table : List Frame := (entries.take len.toNat).map (fun e => if e = 1 then .L else .U)
    let arb : Arb := if !has 4 then s.arb
      else if free .U && free .L then { s.arb with table := table, pendingTable := none, pointer := 0 }
      else { s.arb with pendingTable := some table }
    let u : State := (s.setSvt { s.svt with
      tuning := ⟨tuned .U (has 0) vlU.toNat (has 1) legU.toNat, tuned .L (has 2) vlL.toNat (has 3) legL.toNat⟩ }).setArb arb
    let changed : Bool := u.svt.tuning.u.vl != s.svt.tuning.u.vl || u.svt.tuning.u.leg != s.svt.tuning.u.leg ||
      u.svt.tuning.l.vl != s.svt.tuning.l.vl || u.svt.tuning.l.leg != s.svt.tuning.l.leg ||
      (has 4 && free .U && free .L)
    let part (b : Bool) (bytes : List Byte) (working : Bool) : List Byte :=
      if b then [1] ++ bytes ++ [if working then 1 else 0] else [0] ++ bytes.map (fun _ => 0) ++ [0]
    let tableBytes : List Byte := u8 table.length ++
      (List.range 8).flatMap (fun i => u8 (if i < table.length then frameCode (table.getD i .U) else 0))
    Admitted s p .setTuning → entries.length = 8 →
    (has 4 = true → len.toNat = 0 ∨ 8 < len.toNat ∨ (∃ e ∈ entries.take len.toNat, 2 ≤ e.toNat) →
      exec c s = .next (replied p .setTuning [0x13] s)) ∧
    ((has 4 = true → 1 ≤ len.toNat ∧ len.toNat ≤ 8 ∧ ∀ e ∈ entries.take len.toNat, e.toNat < 2) →
      exec c s = .next (replied p .setTuning
        ([0x00] ++ part (has 0) (u16 (vl .U vlU.toNat)) (free .U) ++ part (has 1) (u8 (clamp 2 64 legU.toNat)) (free .U) ++
          part (has 2) (u16 (vl .L vlL.toNat)) (free .L) ++ part (has 3) (u8 (clamp 2 64 legL.toNat)) (free .L) ++
          part (has 4) tableBytes (free .U && free .L))
        (if changed then askRound u else u).drive))

/-- SET_SURVEY_ITEM writes one item of the edit survey in LOCKOUT and leaves every other item as it was; the survey state
is EDITED where the copies then differ, VALID where they agree, and UNCONFIGURED stays (R6). SAVE_SURVEY of an edit
survey that passes the checks of R8 hands its image to STI with save-outstanding set (R8, R10); otherwise the first of the
ten checks that fails is named, with the first landing, frame or mass it fails for (R8, R9). -/
def Obligations.SurveyItemsAreEditedAndSaved : Prop :=
  ∀ (p : PortId) (item index : Byte) (value : BitVec 32) (s : State),
    let noItem (payload : List Byte) : Prop :=
      exec (.setSurveyItem p item index value) s = .next (replied p .setSurveyItem payload s)
    let noSave (payload : List Byte) : Prop := exec (.saveSurvey p) s = .next (replied p .saveSurvey payload s)
    let saving : State := s.setSvt { s.svt with saveOutstanding := true }
    let sti : Sti := match s.sti.op with
      | .idle =>
          let g := s.sti.generation.survey + 1
          let slot : Slot := if s.sti.current.survey = some .a then .b else .a
          { s.sti with op := .write .survey slot g (imageBytes .survey g (surveyBody s.svt.edit)) }
      | _ => { s.sti with waiting := { s.sti.waiting with survey := some (surveyBody s.svt.edit) } }
    (Admitted s p .setSurveyItem → s.mdc.mode ≠ .lockout → noItem [0x11]) ∧
    (Admitted s p .setSurveyItem → s.mdc.mode = .lockout → s.svt.saveOutstanding = true → noItem [0x12]) ∧
    (Admitted s p .setSurveyItem → s.mdc.mode = .lockout → s.svt.saveOutstanding = false →
      itemAccepts item.toNat index.toNat value.toNat = false → noItem [0x13]) ∧
    (∀ n lo hi, Admitted s p .setSurveyItem → s.mdc.mode = .lockout → s.svt.saveOutstanding = false →
      itemIndices item.toNat = some n → index.toNat < n → itemRange item.toNat = some (lo, hi) →
      lo ≤ value.toNat → value.toNat ≤ hi →
      ∃ (edit : Survey) (st : SurveyState),
        exec (.setSurveyItem p item index value) s = .next (replied p .setSurveyItem
          ([0x00] ++ u8 (surveyStateCode st)) (s.setSvt { s.svt with edit := edit, state := st })) ∧
        edit.item item.toNat index.toNat = value.toNat ∧
        (∀ c i n', itemIndices c = some n' → i < n' → c ≠ 0x0A → c ≠ 0x0B → (c, i) ≠ (item.toNat, index.toNat) →
          edit.item c i = s.svt.edit.item c i) ∧
        st = (if s.svt.state = .unconfigured then .unconfigured
          else if edit = s.svt.working then .valid else .edited)) ∧
    (Admitted s p .saveSurvey → s.mdc.mode ≠ .lockout → noSave [0x11]) ∧
    (Admitted s p .saveSurvey → s.mdc.mode = .lockout → s.svt.saveOutstanding = true → noSave [0x12]) ∧
    (Admitted s p .saveSurvey → s.mdc.mode = .lockout → s.svt.saveOutstanding = false →
      let sv : Survey := s.svt.edit
      let lowest (fails : Nat → Prop) (k : Nat) : Prop := fails k ∧ ∀ j < k, ¬ fails j
      let upper (k : Nat) : Prop := 1 ≤ k ∧ k < sv.nl
      let count : Prop := sv.nz < 8 ∨ 256 < sv.nz
      let head : Prop := sv.he < sv.sl ∨ sv.sl + 100000 < sv.he
      let height (k : Nat) : Prop := k < sv.nl ∧ sv.sl < sv.floor k + sv.fh
      let order (k : Nat) : Prop := upper k ∧ sv.floor k ≤ sv.floor (k - 1)
      let spacing (k : Nat) : Prop := upper k ∧ sv.floor k < sv.floor (k - 1) + sv.fh
      let zone (k : Nat) : Prop := upper k ∧ sv.zoneOf (sv.floor k) = sv.zoneOf (sv.floor (k - 1))
      let bays : Prop := 40 < sv.nb
      let fast (f : Frame) : Prop := (sv.winder.get f).vlMax < (sv.winder.get f).defaultVl
      let landing (id : Nat) : Prop := 1 ≤ id ∧ id ≤ 40 ∧ (s.mass id).state = .carried ∧
        ∃ k, (s.mass id).landing = some k ∧ sv.nl ≤ k
      let bay (id : Nat) : Prop := 1 ≤ id ∧ id ≤ 40 ∧ ∃ b, (s.mass id).namedBay = some b ∧
        if s.svt.state = .unconfigured then sv.nb ≤ b
        else sv.bayIdentity b = none ∨ sv.bayIdentity b ≠ s.svt.working.bayIdentity b
      let none_ (fails : Nat → Prop) : Prop := ∀ k, ¬ fails k
      (count → noSave [0x27, 1, 0]) ∧
      (¬ count → head → noSave [0x27, 2, 0]) ∧
      (∀ k, ¬ count → ¬ head → lowest height k → noSave ([0x27, 3] ++ u8 k)) ∧
      (∀ k, ¬ count → ¬ head → none_ height → lowest order k → noSave ([0x27, 4] ++ u8 k)) ∧
      (∀ k, ¬ count → ¬ head → none_ height → none_ order → lowest spacing k → noSave ([0x27, 5] ++ u8 k)) ∧
      (∀ k, ¬ count → ¬ head → none_ height → none_ order → none_ spacing → lowest zone k →
        noSave ([0x27, 6] ++ u8 k)) ∧
      (¬ count → ¬ head → none_ height → none_ order → none_ spacing → none_ zone →
        (bays → noSave [0x27, 7, 0]) ∧
        (¬ bays → fast .U → noSave [0x27, 8, 0]) ∧
        (¬ bays → ¬ fast .U → fast .L → noSave [0x27, 8, 1]) ∧
        (∀ id, ¬ bays → ¬ fast .U → ¬ fast .L → lowest landing id → noSave ([0x27, 9] ++ u8 id)) ∧
        (∀ id, ¬ bays → ¬ fast .U → ¬ fast .L → none_ landing → lowest bay id → noSave ([0x27, 10] ++ u8 id)))) ∧
    (Admitted s p .saveSurvey → s.mdc.mode = .lockout → s.svt.saveOutstanding = false →
      s.svt.edit.shapeCheck = none → inventoryCheck s = none →
      exec (.saveSurvey p) s = .next (replied p .saveSurvey [0x01] (saving.setSti sti)))

/-! ### Inventory requests -/

/-- DECLARE_MASS in LOCKOUT sets the record to the place declared, keeps its reservation, makes the inventory UNVERIFIED,
asks for a save where anything persisted changed, and answers with the record and STORED_kJ; a place outside the shaft is
refused with RANGE, a bay that is not usable or holds another mass with BAY, a frame that another record names with FRAME
(R99). CONFIRM_INVENTORY makes it VERIFIED with INVENTORY_STATE and a save, names the first record that is UNACCOUNTED or
IN_TRANSFER, and changes nothing where it is VERIFIED (R100). Both are refused with MODE outside LOCKOUT. -/
def Obligations.MassesAreDeclaredAndConfirmed : Prop :=
  ∀ (p : PortId) (n : Byte) (nominal : BitVec 16) (kind a b : Byte) (r : Mass) (s : State),
    let id : Nat := n.toNat
    let old : Mass := s.mass id
    let placed : Prop :=
      (kind = 0 ∧ r = { old with
        state := .absent, nominal := nominal.toNat, bay := none, frame := none, landing := none }) ∨
      (kind = 1 ∧ a.toNat < s.svt.working.nb ∧ bayUsable s a.toNat = true ∧
        ((s.bay a.toNat).content = none ∨ (s.bay a.toNat).content = some id) ∧ r = { old with
          state := .stored, nominal := nominal.toNat, bay := some a.toNat, frame := none, landing := none }) ∨
      (kind = 2 ∧ ∃ f, a.toNat = frameCode f ∧ b.toNat < s.svt.working.nl ∧
        (∀ j ∈ massIds, j ≠ id → (s.mass j).namedFrame ≠ some f) ∧ r = { old with
          state := .carried, nominal := nominal.toNat, bay := none, frame := some f, landing := some b.toNat })
    let inLockout (q : Req) : Prop := Admitted s p q ∧ s.mdc.mode = .lockout
    let opt (x : Option Nat) : List Byte := match x with
      | some v => [1] ++ u8 v
      | none => List.replicate 2 0
    (Admitted s p .declareMass → s.mdc.mode ≠ .lockout →
      exec (.declareMass p n nominal kind a b) s = .next (replied p .declareMass [0x11] s)) ∧
    (inLockout .declareMass → id = 0 ∨ 40 < id ∨ nominal.toNat < 5000 ∨ 60000 < nominal.toNat ∨ 2 < kind.toNat →
      exec (.declareMass p n nominal kind a b) s = .next (replied p .declareMass [0x13] s)) ∧
    (inLockout .declareMass → 1 ≤ id → id ≤ 40 → 5000 ≤ nominal.toNat → nominal.toNat ≤ 60000 →
      let no (status : Byte) : Prop :=
        exec (.declareMass p n nominal kind a b) s = .next (replied p .declareMass [status] s)
      (kind = 1 → s.svt.working.nb ≤ a.toNat → no 0x13) ∧
      (kind = 2 → 2 ≤ a.toNat ∨ s.svt.working.nl ≤ b.toNat → no 0x13) ∧
      (kind = 1 → a.toNat < s.svt.working.nb →
        ((s.bay a.toNat).inService = false ∨
          (∃ k, s.svt.working.landingOf a.toNat = some k ∧ (s.landing k).inService = false) ∨
          ((s.bay a.toNat).content ≠ none ∧ (s.bay a.toNat).content ≠ some id)) → no 0x1F) ∧
      (∀ f, kind = 2 → a.toNat = frameCode f → b.toNat < s.svt.working.nl →
        (∃ j ∈ massIds, j ≠ id ∧ (s.mass j).namedFrame = some f) → no 0x20)) ∧
    (inLockout .declareMass → 1 ≤ id → id ≤ 40 → 5000 ≤ nominal.toNat → nominal.toNat ≤ 60000 → placed →
      ∃ t, exec (.declareMass p n nominal kind a b) s = .next t ∧ t.mass id = r ∧
        (∀ j, j ≠ id → t.mass j = s.mass j) ∧ t.inv.verified = false ∧
        t.inv.save = (if r ≠ old ∨ s.inv.verified = true then
            match s.inv.save with
            | .clean => .writing
            | .writing => .writingDirty
            | x => x
          else s.inv.save) ∧
        (∀ c < 40, (t.bay c).content = bayContent t.inv.masses c ∧ (t.bay c).inService = (s.bay c).inService) ∧
        (s.inv.verified = true → ∀ w, isWatcher (s.port w).role = true → (t.port w).flags.getLsbD 12 = true) ∧
        t.inv.storedKJ = storedOf (rawSum s.svt.working t.inv.masses) ∧
        (t.port p).replies = (s.port p).replies ++ [replyOf .declareMass ([0x00] ++ u8 (massStateCode r.state) ++
          u16 r.nominal ++ opt r.bay ++ opt (r.frame.map frameCode) ++ opt r.landing ++ opt r.task ++
          u32 t.inv.storedKJ)] ∧
        t.svt = s.svt ∧ t.ftk = s.ftk ∧ t.tku = s.tku) ∧
    (Admitted s p .confirmInventory → s.mdc.mode ≠ .lockout →
      exec (.confirmInventory p) s = .next (replied p .confirmInventory [0x11] s)) ∧
    (inLockout .confirmInventory → (∃ j ∈ massIds, (s.mass j).state = .unaccounted ∨ (s.mass j).state = .inTransfer) →
      ∃ j, 1 ≤ j ∧ j ≤ 40 ∧ ((s.mass j).state = .unaccounted ∨ (s.mass j).state = .inTransfer) ∧
        (∀ i ∈ massIds, i < j → (s.mass i).state ≠ .unaccounted ∧ (s.mass i).state ≠ .inTransfer) ∧
        exec (.confirmInventory p) s = .next (replied p .confirmInventory ([0x28] ++ u8 j) s)) ∧
    (inLockout .confirmInventory → (∀ j ∈ massIds, (s.mass j).state ≠ .unaccounted ∧ (s.mass j).state ≠ .inTransfer) →
      (s.inv.verified = true → exec (.confirmInventory p) s = .next (replied p .confirmInventory [0x00] s)) ∧
      (s.inv.verified = false → ∃ t, exec (.confirmInventory p) s = .next t ∧ t.inv.verified = true ∧
        t.inv.masses = s.inv.masses ∧ (s.inv.save = .clean → t.inv.save = .writing) ∧
        (s.inv.save = .writing → t.inv.save = .writingDirty) ∧
        (∀ w, isWatcher (s.port w).role = true → (t.port w).flags.getLsbD 12 = true) ∧
        (t.port p).replies = (s.port p).replies ++ [replyOf .confirmInventory [0x00]]))

/-- SAVE_INVENTORY starts a write of the persisted inventory in CLEAN and in NOT_SAVED and joins the next write otherwise
(R92, R95). SET_BAY_SERVICE and SET_LANDING_SERVICE are refused with MODE in RUN and with RANGE for a place or a flag that
there is not; otherwise the flag takes its value, a save is asked for where it changed, and a landing set in service
loses both indications (R101, R102) and its timed-out marker (R143). The presence byte of a bay's content is log 46's. -/
def Obligations.TheInventoryIsSavedAndServed : Prop :=
  ∀ (p : PortId) (n flag : Byte) (s : State),
    let i : Nat := n.toNat
    let v : Bool := flag = 1
    let image (r : Region) (items : List Byte) (x : Sti) : Sti := match x.op with
      | .idle =>
          let g := x.generation.get r + 1
          let slot : Slot := if x.current.get r = some .a then .b else .a
          { x with op := .write r slot g (imageBytes r g items) }
      | _ => { x with waiting := x.waiting.set r (some items) }
    let written : State := (s.setSti (image .inventory (inventoryBody s.inv) s.sti)).setInv
      { s.inv with save := .writing, carriedWaiters := [], nextWaiters := [] }
    let saved (same : Bool) (t : State) : Prop := t.inv.save = (if same then s.inv.save else match s.inv.save with
      | .clean => .writing
      | .writing => .writingDirty
      | x => x)
    (Admitted s p .saveInventory → s.inv.save = .clean ∨ s.inv.save = .notSaved →
      exec (.saveInventory p) s = .next (replied p .saveInventory [0x01, 1] written)) ∧
    (Admitted s p .saveInventory → s.inv.save = .writing ∨ s.inv.save = .writingDirty →
      exec (.saveInventory p) s =
        .next (replied p .saveInventory [0x01, 2] (s.setInv { s.inv with save := .writingDirty }))) ∧
    (Admitted s p .setBayService → s.mdc.mode = .run →
      exec (.setBayService p n flag) s = .next (replied p .setBayService [0x11] s)) ∧
    (Admitted s p .setBayService → s.mdc.mode ≠ .run → 2 ≤ flag.toNat ∨ s.svt.working.nb ≤ i →
      exec (.setBayService p n flag) s = .next (replied p .setBayService [0x13] s)) ∧
    (Admitted s p .setBayService → s.mdc.mode ≠ .run → flag.toNat < 2 → i < s.svt.working.nb → i < 40 →
      ∃ t, exec (.setBayService p n flag) s = .next t ∧ t.bay i = { s.bay i with inService := v } ∧
        (∀ j, j ≠ i → t.bay j = s.bay j) ∧ t.landing = s.landing ∧ saved ((s.bay i).inService == v) t ∧
        (t.port p).replies = (s.port p).replies ++ [replyOf .setBayService ([0x00] ++
          (match (s.bay i).content with
            | some x => u8 1 ++ u8 x
            | none => List.replicate 2 0) ++ [if v then 1 else 0] ++
          (match (s.bay i).task with
            | some x => u8 1 ++ u8 x
            | none => List.replicate 2 0))]) ∧
    (Admitted s p .setLandingService → s.mdc.mode = .run →
      exec (.setLandingService p n flag) s = .next (replied p .setLandingService [0x11] s)) ∧
    (Admitted s p .setLandingService → s.mdc.mode ≠ .run → 2 ≤ flag.toNat ∨ s.svt.working.nl ≤ i →
      exec (.setLandingService p n flag) s = .next (replied p .setLandingService [0x13] s)) ∧
    (Admitted s p .setLandingService → s.mdc.mode ≠ .run → flag.toNat < 2 → i < s.svt.working.nl → i < 12 →
      ∃ t, exec (.setLandingService p n flag) s = .next t ∧
        t.landing i = (if v then ⟨true, false, false⟩ else { s.landing i with inService := false }) ∧
        (∀ j, j ≠ i → t.landing j = s.landing j) ∧ t.inv.bays = s.inv.bays ∧
        t.xfc.timedOut.getD i false = (if v then false else s.xfc.timedOut.getD i false) ∧
        saved ((s.landing i).inService == v) t ∧
        (t.port p).replies = (s.port p).replies ++ [replyOf .setLandingService ([0x00] ++ [if v then 1 else 0] ++
          (if v then [0, 0] else [if (s.landing i).late then 1 else 0, if (s.landing i).unexpected then 1 else 0]))])

/-! ### Reset, start-up and the store -/

/-- COLD_RESET, from any state: the straps give the roles (00 MONITOR, 01 WINDER_U, 10 WINDER_L, 11 DISPATCH); with one of
each but MONITOR the read of the SURVEY region begins, and otherwise the part is in strap fault with FAULT asserted;
STOP_N asserted sets condition and latch; everything else has its reset value, and the commands that wait still wait
(R148, R159, R160, R178). The model's choices in it: the sampling and the queue (log 4), the level of STOP_N (log 6), the
zero fields of free task records (log 9), and no receive line held low (log 30). -/
def Obligations.ColdResetSamplesTheStraps : Prop :=
  ∀ (a b c d : BitVec 2) (stop : Bool) (s : State),
    let role (x : BitVec 2) : Role :=
      if x = 0 then .monitor else if x = 1 then .winderU else if x = 2 then .winderL else .dispatch
    let roles : List Role := [a, b, c, d].map role
    let sound : Prop := roles.count .winderU = 1 ∧ roles.count .winderL = 1 ∧ roles.count .dispatch = 1
    let fresh : State := { State.reset with
      ports := Bank.ofFn 4 (fun i => PortState.initial (roles.getD i .monitor)), pending := s.pending }
    (sound → exec (.coldReset a b c d stop) s = .next { fresh with
      startUp := .surveyRead, sti := { State.reset.sti with op := .read .survey }
      mdc := { mode := .lockout, latch := stop, stopN := stop, strapFault := false, fault := false } }) ∧
    (¬ sound → exec (.coldReset a b c d stop) s = .next { fresh with
      mdc := { mode := .lockout, latch := stop, stopN := stop, strapFault := true, fault := true } })

/-- What is written to the store is what is read from it. The image of a survey whose items are in range is a good image
with its generation (R174), and its body decodes to that survey (R184). The image of an inventory is a good image with its
generation, and its body spells each sound mass record, each service flag and the inventory state; the bytes for no and
for UNVERIFIED are log 42's. -/
def Obligations.SurveyImagesReadBack : Prop :=
  (∀ (sv : Survey) (g : BitVec 32), sv.inRange = true → (∀ i < 8, sv.table.getD i 0 < 256) →
    goodImage .survey (imageBytes .survey g (surveyBody sv)) = some (g, surveyBody sv) ∧
      decodeSurvey (surveyBody sv) = sv ∧ (imageBytes .survey g (surveyBody sv)).length = 142) ∧
  (∀ (x : Inv) (g : BitVec 32),
    let items : List Byte := inventoryBody x
    goodImage .inventory (imageBytes .inventory g items) = some (g, items) ∧
      (imageBytes .inventory g items).length = 349 ∧
      (∀ id, 1 ≤ id → id ≤ 40 → (x.masses.getD (id - 1) Mass.unreadable).Sound →
        decodeMass id ((items.drop (7 * (id - 1))).take 7) =
          ({ x.masses.getD (id - 1) Mass.unreadable with task := none }, false)) ∧
      (∀ b < 40, items.getD (280 + b) 0 = if (x.bays.getD b Bay.unreadable).inService then 1 else 0) ∧
      (∀ k < 12, items.getD (320 + k) 0 = if (x.landings.getD k Landing.unreadable).inService then 1 else 0) ∧
      items.getD 332 0 = if x.verified then 1 else 0)

/-- SURVEY_READ_END while start-up waits for it: of two good images with generations g and g + 1 in A and B the part takes
B, of two others A, and the only good one otherwise. A body whose survey passes its checks makes it VALID in both copies
with its default tuning and service table; one that fails them leaves the slot current and the survey UNCONFIGURED with
the factory values, as no good image does, and the read of the INVENTORY region begins (R177, R178, R184, R13). Otherwise
there is no read to end (log 3). -/
def Obligations.StartUpTakesTheSurveyFromTheStore : Prop :=
  ∀ (slotA slotB : List (List Byte)) (s : State),
    let a := slotImage .survey slotA
    let b := slotImage .survey slotB
    let loaded (slot : Option Slot) (g : BitVec 32) (sv : Survey) (st : SurveyState) : Prop :=
      ∃ t, exec (.surveyReadEnd slotA slotB) s = .next t ∧ t.startUp = .inventoryRead ∧
        t.sti = { s.sti with op := .read .inventory, current := { s.sti.current with survey := slot }
                             generation := { s.sti.generation with survey := g } } ∧
        t.svt = { working := sv, edit := sv, state := st, saveOutstanding := false
                  tuning := ⟨⟨sv.winder.u.defaultVl, sv.winder.u.defaultLeg, none, none⟩,
                    ⟨sv.winder.l.defaultVl, sv.winder.l.defaultLeg, none, none⟩⟩ } ∧
        t.arb.table = sv.defaultTable ∧ t.arb.pendingTable = none ∧ t.arb.pointer = 0 ∧
        t.mdc.mode = s.mdc.mode ∧ t.ftk = s.ftk ∧ t.inv.masses = s.inv.masses ∧ t.tku = s.tku
    let waits : Prop := s.startUp = .surveyRead ∧ s.sti.op = .read .survey
    let chosen (slot : Slot) (g : BitVec 32) (x : List Byte) : Prop :=
      (slot = .a ∧ a = some (g, x) ∧ b = none) ∨ (slot = .b ∧ a = none ∧ b = some (g, x)) ∨
        (slot = .b ∧ ∃ h y, a = some (h, y) ∧ b = some (g, x) ∧ g = h + 1) ∨
        (slot = .a ∧ ∃ h y, a = some (g, x) ∧ b = some (h, y) ∧ h ≠ g + 1)
    (¬ waits → exec (.surveyReadEnd slotA slotB) s = .next s) ∧
    (waits → a = none → b = none → loaded none 0 Survey.factory .unconfigured) ∧
    (∀ slot g sv, waits → sv.passes = true → (∀ i < 8, sv.table.getD i 0 < 256) → chosen slot g (surveyBody sv) →
      loaded (some slot) g sv .valid) ∧
    (∀ slot g x, waits → chosen slot g x → (decodeSurvey x).passes = false →
      loaded (some slot) g Survey.factory .unconfigured)

/-- INVENTORY_READ_END while start-up waits for it ends start-up: the mode is HOLD where the survey is VALID and the
inventory VERIFIED, LOCKOUT otherwise, with MODE_CHANGED on every port. With no good image every mass is UNACCOUNTED, the
inventory UNVERIFIED and a save is asked for. Of a good image, chosen as in R177, a record that its seven bytes spell is
taken, unless it is IN_TRANSFER, lies outside the shaft of a VALID survey, or names the place of a record of lower id (as
the image holds it: log 18); every other is UNACCOUNTED with no place. The inventory is VERIFIED exactly where the body
says so and no record was made UNACCOUNTED, and INVENTORY_STATE is raised where it ceases to be; a save is asked for
exactly where the inventory as loaded differs from the body (R179, R180, R184; its bytes: log 19). -/
def Obligations.StartUpTakesTheInventoryAndEntersTheMode : Prop :=
  ∀ (slotA slotB : List (List Byte)) (s : State),
    let a := slotImage .inventory slotA
    let b := slotImage .inventory slotB
    let waits : Prop := s.startUp = .inventoryRead ∧ s.sti.op = .read .inventory
    let chosen (slot : Slot) (g : BitVec 32) (x : List Byte) : Prop :=
      (slot = .a ∧ a = some (g, x) ∧ b = none) ∨ (slot = .b ∧ a = none ∧ b = some (g, x)) ∨
        (slot = .b ∧ ∃ h y, a = some (h, y) ∧ b = some (g, x) ∧ g = h + 1) ∨
        (slot = .a ∧ ∃ h y, a = some (g, x) ∧ b = some (h, y) ∧ h ≠ g + 1)
    let lost (nominal : Nat) : Mass :=
      { state := .unaccounted, nominal := nominal, bay := none, frame := none, landing := none, task := none }
    (¬ waits → exec (.inventoryReadEnd slotA slotB) s = .next s) ∧
    (waits → ∃ t, exec (.inventoryReadEnd slotA slotB) s = .next t ∧ t.startUp = .ended ∧
      t.mdc.mode = (if s.svt.state = .valid ∧ t.inv.verified = true then .hold else .lockout) ∧
      (∀ w, (t.port w).flags.getLsbD 0 = true) ∧ t.svt = s.svt ∧ t.ftk = s.ftk ∧ t.tku = s.tku ∧
      (∀ id ∈ massIds, (t.mass id).state ≠ .inTransfer ∧ (t.mass id).task = none) ∧
      (∀ c < 40, (t.bay c).content = bayContent t.inv.masses c) ∧
      (a = none → b = none → t.inv.verified = false ∧ t.sti.current.inventory = none ∧
        (s.inv.save = .clean → t.inv.save = .writing) ∧
        (∀ id ∈ massIds, (t.mass id).state = .unaccounted) ∧
        (∀ c < 40, (t.bay c).inService = true ∧ (t.bay c).content = none) ∧
        (∀ k < 12, (t.landing k).inService = true)) ∧
      (∀ slot g items, chosen slot g items →
        let field (id i : Nat) : Nat := (items.getD (7 * (id - 1) + i) 0).toNat
        let spelled (id : Nat) (m : Mass) : Prop := field id 0 = id ∧ m.nominal = field id 2 + 256 * field id 3 ∧
          m.Sound ∧ massStateCode m.state = field id 1 ∧ (∀ c, m.bay = some c → c = field id 4) ∧
          (∀ f, m.frame = some f → frameCode f = field id 5) ∧ (∀ k, m.landing = some k → k = field id 6) ∧
          m.task = none
        let keeps (id : Nat) (m : Mass) : Prop := m.state ≠ .inTransfer ∧
          (s.svt.state = .valid → (∀ c, m.bay = some c → c < s.svt.working.nb) ∧
            ∀ k, m.landing = some k → k < s.svt.working.nl) ∧
          ∀ j ∈ massIds, j < id → ∀ n, spelled j n →
            (∀ c, m.namedBay = some c → n.namedBay ≠ some c) ∧ ∀ f, m.namedFrame = some f → n.namedFrame ≠ some f
        t.sti.current.inventory = some slot ∧ t.sti.generation.inventory = g ∧
        (∀ id ∈ massIds,
          (∀ m, spelled id m → keeps id m → t.mass id = m) ∧
          (∀ m, spelled id m → ¬ keeps id m → t.mass id = lost m.nominal) ∧
          ((¬ ∃ m, spelled id m) → t.mass id = lost (min 60000 (max 5000 (field id 2 + 256 * field id 3))))) ∧
        (t.inv.verified = true ↔ items.getD 332 0 = 1 ∧
          ∀ id ∈ massIds, (t.mass id).state = .unaccounted → ∃ m, spelled id m ∧ m.state = .unaccounted) ∧
        (items.getD 332 0 = 1 → t.inv.verified = false →
          ∀ w, isWatcher (s.port w).role = true → (t.port w).flags.getLsbD 12 = true) ∧
        (s.inv.save = .clean → t.inv.save = if inventoryBody t.inv = items then .clean else .writing) ∧
        (∀ c < 40, (t.bay c).inService = (items.getD (280 + c) 0 == 1)) ∧
        (∀ k < 12, (t.landing k).inService = (items.getD (320 + k) 0 == 1))))

/-- STORE_ATTEMPT_END: an attempt that does not read back what was written is made again, up to the third, which fails the
write (R176). A SURVEY write that completes makes the edit survey the working one, VALID, with its defaults and the zone
table free, and asks for a save of the inventory (R11); one that fails leaves both copies and raises STORE_FAULT (R12).
An INVENTORY write that completes leaves CLEAN, or starts the next write where changes waited; one that fails leaves
NOT_SAVED with the shaft in HOLD and STORE_FAULT (R93, R94). A write that waits begins before the block is told (R175). The
answer to a commit commands the gear, or ends the transfer ABANDONED with STORE_FAULT, and changes nothing in ABANDONING
(R136). The answer to a restore ends the transfer ABANDONED with its cause and leaves the task (R138); the answer to a
verified change ends it COMPLETED, and the task goes on to its drop, returns where a cancel was pending, or is DONE
(R145, R118, R123). With no write in flight no attempt ends (log 3). -/
def Obligations.StoreAttemptsEndTheWrite : Prop :=
  ∀ (back : Option (List Byte)) (region : Region) (slot : Slot) (g : BitVec 32) (image : List Byte) (s : State),
    let c : Instr := .storeAttemptEnd back
    let writing : Prop := s.sti.op = .write region slot g image
    let completes : Prop := writing ∧ back = some image ∧ s.sti.waiting = ⟨none, none⟩
    let fails : Prop := writing ∧ back ≠ some image ∧ s.sti.attempts = 2 ∧ s.sti.waiting = ⟨none, none⟩
    let done : Sti := { s.sti with
      op := .idle, attempts := 0, current := s.sti.current.set region (some slot)
      generation := s.sti.generation.set region g }
    ((∀ r x y z, s.sti.op ≠ .write r x y z) → exec c s = .next s) ∧
    (writing → back ≠ some image → s.sti.attempts ≤ 1 →
      exec c s = .next (s.setSti { s.sti with attempts := s.sti.attempts + 1 }).drive) ∧
    (completes → region = .survey → s.inv.save = .clean → ∃ t, exec c s = .next t ∧
      t.svt = { working := s.svt.edit, edit := s.svt.edit, state := .valid, saveOutstanding := false
                tuning := s.svt.edit.tuning } ∧
      t.gru.grants = ⟨none, none⟩ ∧ t.arb.table = s.svt.edit.defaultTable ∧ t.arb.pointer = 0 ∧
      t.arb.pendingTable = none ∧ t.sti.current = done.current ∧ t.sti.generation = done.generation ∧
      t.inv.save = .writing ∧ (∀ j, t.mass j = s.mass j) ∧ t.inv.storedKJ = storedOf (rawSum s.svt.edit s.inv.masses)) ∧
    (fails → region = .survey → exec c s = .next (((s.setSti { s.sti with op := .idle, attempts := 0 }).setSvt
      { s.svt with saveOutstanding := false }).raiseWatchers .storeFault).drive) ∧
    (completes → region = .inventory → s.inv.save = .writing → s.inv.carriedWaiters = [] →
      exec c s = .next ((s.setSti done).setInv
        { s.inv with save := .clean, carriedWaiters := [], nextWaiters := [] }).drive) ∧
    (∀ f x, completes → region = .inventory → s.inv.save = .writing → s.inv.carriedWaiters = [⟨f, .commit⟩] →
      s.transfer f = some x → x.phase = .committing → ∃ t, exec c s = .next t ∧ t.inv.save = .clean ∧
        t.transfer f = some { x with
          phase := .gearRunning, timer := some (s.time + BitVec.ofNat 32 (s.svt.working.tto * 1000)) } ∧
        (x.landing < 12 → (match x.kind with
          | .load => t.xfc.ldcmd.getD x.landing false = true
          | .unload => t.xfc.ulcmd.getD x.landing false = true))) ∧
    (completes → region = .inventory → s.inv.save = .writingDirty → s.inv.carriedWaiters = [] →
      ∃ t, exec c s = .next t ∧ t.inv.save = .writing ∧ t.inv.carriedWaiters = s.inv.nextWaiters ∧
        t.sti.op = .write .inventory (if slot = .a then .b else .a) (g + 1)
          (imageBytes .inventory (g + 1) (inventoryBody s.inv))) ∧
    (fails → region = .inventory → s.inv.save = .writing ∨ s.inv.save = .writingDirty → s.inv.carriedWaiters = [] →
      s.inv.nextWaiters = [] → ∃ t, exec c s = .next t ∧ t.inv.save = .notSaved ∧ t.inv.masses = s.inv.masses ∧
        t.mdc.mode = (if s.mdc.mode = .run then .hold else s.mdc.mode) ∧
        (∀ w, isWatcher (s.port w).role = true → (t.port w).flags.getLsbD 10 = true)) ∧
    (∀ f x, fails → region = .inventory → s.inv.save = .writing → s.inv.carriedWaiters = [⟨f, .commit⟩] →
      s.inv.nextWaiters = [] → s.transfer f = some x → x.phase = .committing →
      ∃ t, exec c s = .next t ∧ t.inv.save = .notSaved ∧ t.transfer f = none ∧
        t.xfc.lastResult.get f = some ⟨x.kind, x.task, x.mass, x.landing, x.bay, .abandoned, .storeFault, false⟩) ∧
    (∀ f x (w : Change) (saved : Bool), (if saved then completes else fails) → region = .inventory →
      s.inv.save = .writing → s.inv.carriedWaiters = [⟨f, w⟩] → s.inv.nextWaiters = [] → s.transfer f = some x →
      let ended (o : XOutcome) (cause : Cause) (t : State) : Prop := t.transfer f = none ∧
        t.xfc.lastResult.get f = some ⟨x.kind, x.task, x.mass, x.landing, x.bay, o, cause, saved⟩ ∧
        t.inv.save = (if saved then .clean else .notSaved) ∧
        (∀ q, (s.port q).role = winderRole f → (t.port q).flags.getLsbD 7 = true)
      let y : Task := s.task x.task
      let back : Nat := y.source.getD y.dest
      (x.phase = .abandoning → w = .commit → ∃ t, exec c s = .next t ∧ t.transfer f = some x ∧ t.tku = s.tku) ∧
      (x.phase = .abandoning → w = .restore → ∃ t, exec c s = .next t ∧ ended .abandoned x.cause t ∧
        t.tku = s.tku ∧ t.inv.masses = s.inv.masses) ∧
      (x.phase = .finishing → w = .verified → ∃ t, exec c s = .next t ∧ ended .completed .none t ∧
        (x.task < 32 → y.phase = .loading → y.cancelPending = false →
          t.task x.task = { y with phase := .toDrop } ∧ t.tku.completion = s.tku.completion) ∧
        (x.task < 32 → y.phase = .loading → y.cancelPending = true →
          t.task x.task =
            { y with dest := back, reasons := y.reasons ||| 0x0001, cancelPending := false, phase := .toDrop } ∧
          (t.bay y.dest).task = (if back ≠ y.dest ∧ (s.bay y.dest).task = some x.task then none else (s.bay y.dest).task)) ∧
        (PoolPartitioned s → x.task ∈ s.tku.queues.get f → y.phase = .unloading →
          (t.task x.task).phase = .done ∧ t.tku.completion = s.tku.completion ++ [x.task] ∧
            t.tku.queues.get f = (s.tku.queues.get f).erase x.task))) ∧
    (∀ (r : Region) (items : List Byte), writing → back = some image ∨ s.sti.attempts = 2 →
      s.sti.waiting = (⟨none, none⟩ : PerRegion (Option (List Byte))).set r (some items) → r ≠ region →
      ∃ t, exec c s = .next t ∧
        t.sti.op = .write r (if s.sti.current.get r = some .a then .b else .a) (s.sti.generation.get r + 1)
          (imageBytes r (s.sti.generation.get r + 1) items) ∧ t.sti.attempts = 0 ∧
        (region = .inventory → back = some image → s.inv.save = .writingDirty →
          t.inv.save = .writing ∧ t.sti.waiting = ⟨none, some (inventoryBody s.inv)⟩) ∧
        (region = .survey → back = some image → s.inv.save = .writing →
          t.inv.save = .writingDirty ∧ t.sti.waiting = ⟨none, none⟩))
end

