-- ==== Sys2Proof/Laws/State.lean ====
section
/-! SUPPORT. One lemma per field per update of the state, each true by rfl: what every named update leaves and what it
writes. Later proofs rewrite with these and unfold no record update. -/

namespace Sys2Proof.Machine

/-! ### Pairs and banks -/

@[simp] theorem Frame.other_other (f : Frame) : f.other.other = f := by cases f <;> rfl

@[simp] theorem Frame.other_ne (f : Frame) : f.other ≠ f := by cases f <;> decide

@[simp] theorem Frame.ne_other (f : Frame) : f ≠ f.other := by cases f <;> decide

@[simp] theorem Pair.get_set_self {α : Type} (x : Pair α) (f : Frame) (a : α) : (x.set f a).get f = a := by
  cases f <;> rfl

@[simp] theorem Pair.get_set_other {α : Type} (x : Pair α) (f : Frame) (a : α) :
    (x.set f a).get f.other = x.get f.other := by cases f <;> rfl

theorem Pair.get_set {α : Type} (x : Pair α) (f g : Frame) (a : α) :
    (x.set f a).get g = if g = f then a else x.get g := by cases f <;> cases g <;> rfl

@[simp] theorem Pair.set_get_self {α : Type} (x : Pair α) (f : Frame) : x.set f (x.get f) = x := by cases f <;> rfl

@[simp] theorem Pair.set_set {α : Type} (x : Pair α) (f : Frame) (a b : α) : (x.set f a).set f b = x.set f b := by
  cases f <;> rfl

@[simp] theorem PerRegion.get_set_self {α : Type} (x : PerRegion α) (r : Region) (a : α) : (x.set r a).get r = a := by
  cases r <;> rfl

theorem PerRegion.get_set {α : Type} (x : PerRegion α) (r q : Region) (a : α) :
    (x.set r a).get q = if q = r then a else x.get q := by cases r <;> cases q <;> rfl

theorem Bank.ext_toList {α : Type} {n : Nat} {a b : Bank α n} (h : a.toList = b.toList) : a = b := by
  cases a; cases b; cases h; rfl

theorem Bank.getD_set {α : Type} {n : Nat} (b : Bank α n) (i j : Nat) (a d : α) :
    (b.set i a).getD j d = if j = i ∧ i < n then a else b.getD j d := by
  have hl := b.len
  unfold Bank.getD Bank.set
  by_cases hij : j = i
  · subst hij
    by_cases hn : j < n
    · simp [List.getD, hl, hn]
    · simp [List.getD, hl, hn]
  · have : ¬ i = j := fun h => hij h.symm
    simp [List.getD, hij, this]

theorem Bank.getD_ofFn {α : Type} (n : Nat) (f : Nat → α) (i : Nat) (d : α) :
    (Bank.ofFn n f).getD i d = if i < n then f i else d := by
  unfold Bank.getD Bank.ofFn
  by_cases h : i < n <;> simp [List.getD, h]

theorem Bank.getD_map {α β : Type} {n : Nat} (b : Bank α n) (f : α → β) (i : Nat) (d : α) (e : β) (h : i < n) :
    (b.map f).getD i e = f (b.getD i d) := by
  have hl := b.len
  unfold Bank.getD Bank.map
  simp [List.getD, hl, h]

@[simp] theorem Bank.set_set {α : Type} {n : Nat} (b : Bank α n) (i : Nat) (x y : α) :
    (b.set i x).set i y = b.set i y := by
  apply Bank.ext_toList; simp [Bank.set]

theorem Bank.set_getD_self {α : Type} {n : Nat} (b : Bank α n) (i : Nat) (d : α) : b.set i (b.getD i d) = b := by
  apply Bank.ext_toList
  have hl := b.len
  by_cases h : i < n
  · simp [Bank.set, Bank.getD, List.getD, hl, h]
  · exact List.set_eq_of_length_le (by omega)

/-! ### Updates of the whole state -/

@[simp] theorem State.setPort_time (s : State) (p : PortId) (x : PortState) : (s.setPort p x).time = s.time := rfl
@[simp] theorem State.setPort_startUp (s : State) (p : PortId) (x : PortState) : (s.setPort p x).startUp = s.startUp := rfl
@[simp] theorem State.setPort_ports (s : State) (p : PortId) (x : PortState) : (s.setPort p x).ports = s.ports.set p.val x := rfl
@[simp] theorem State.setPort_svt (s : State) (p : PortId) (x : PortState) : (s.setPort p x).svt = s.svt := rfl
@[simp] theorem State.setPort_ftk (s : State) (p : PortId) (x : PortState) : (s.setPort p x).ftk = s.ftk := rfl
@[simp] theorem State.setPort_gru (s : State) (p : PortId) (x : PortState) : (s.setPort p x).gru = s.gru := rfl
@[simp] theorem State.setPort_arb (s : State) (p : PortId) (x : PortState) : (s.setPort p x).arb = s.arb := rfl
@[simp] theorem State.setPort_inv (s : State) (p : PortId) (x : PortState) : (s.setPort p x).inv = s.inv := rfl
@[simp] theorem State.setPort_tku (s : State) (p : PortId) (x : PortState) : (s.setPort p x).tku = s.tku := rfl
@[simp] theorem State.setPort_xfc (s : State) (p : PortId) (x : PortState) : (s.setPort p x).xfc = s.xfc := rfl
@[simp] theorem State.setPort_mdc (s : State) (p : PortId) (x : PortState) : (s.setPort p x).mdc = s.mdc := rfl
@[simp] theorem State.setPort_sti (s : State) (p : PortId) (x : PortState) : (s.setPort p x).sti = s.sti := rfl
@[simp] theorem State.setPort_pending (s : State) (p : PortId) (x : PortState) : (s.setPort p x).pending = s.pending := rfl

@[simp] theorem State.setTracker_time (s : State) (f : Frame) (x : Tracker) : (s.setTracker f x).time = s.time := rfl
@[simp] theorem State.setTracker_startUp (s : State) (f : Frame) (x : Tracker) : (s.setTracker f x).startUp = s.startUp := rfl
@[simp] theorem State.setTracker_ports (s : State) (f : Frame) (x : Tracker) : (s.setTracker f x).ports = s.ports := rfl
@[simp] theorem State.setTracker_svt (s : State) (f : Frame) (x : Tracker) : (s.setTracker f x).svt = s.svt := rfl
@[simp] theorem State.setTracker_ftk (s : State) (f : Frame) (x : Tracker) : (s.setTracker f x).ftk = s.ftk.set f x := rfl
@[simp] theorem State.setTracker_gru (s : State) (f : Frame) (x : Tracker) : (s.setTracker f x).gru = s.gru := rfl
@[simp] theorem State.setTracker_arb (s : State) (f : Frame) (x : Tracker) : (s.setTracker f x).arb = s.arb := rfl
@[simp] theorem State.setTracker_inv (s : State) (f : Frame) (x : Tracker) : (s.setTracker f x).inv = s.inv := rfl
@[simp] theorem State.setTracker_tku (s : State) (f : Frame) (x : Tracker) : (s.setTracker f x).tku = s.tku := rfl
@[simp] theorem State.setTracker_xfc (s : State) (f : Frame) (x : Tracker) : (s.setTracker f x).xfc = s.xfc := rfl
@[simp] theorem State.setTracker_mdc (s : State) (f : Frame) (x : Tracker) : (s.setTracker f x).mdc = s.mdc := rfl
@[simp] theorem State.setTracker_sti (s : State) (f : Frame) (x : Tracker) : (s.setTracker f x).sti = s.sti := rfl
@[simp] theorem State.setTracker_pending (s : State) (f : Frame) (x : Tracker) : (s.setTracker f x).pending = s.pending := rfl

@[simp] theorem State.setSvt_time (s : State) (x : Svt) : (s.setSvt x).time = s.time := rfl
@[simp] theorem State.setSvt_startUp (s : State) (x : Svt) : (s.setSvt x).startUp = s.startUp := rfl
@[simp] theorem State.setSvt_ports (s : State) (x : Svt) : (s.setSvt x).ports = s.ports := rfl
@[simp] theorem State.setSvt_svt (s : State) (x : Svt) : (s.setSvt x).svt = x := rfl
@[simp] theorem State.setSvt_ftk (s : State) (x : Svt) : (s.setSvt x).ftk = s.ftk := rfl
@[simp] theorem State.setSvt_gru (s : State) (x : Svt) : (s.setSvt x).gru = s.gru := rfl
@[simp] theorem State.setSvt_arb (s : State) (x : Svt) : (s.setSvt x).arb = s.arb := rfl
@[simp] theorem State.setSvt_inv (s : State) (x : Svt) : (s.setSvt x).inv = s.inv := rfl
@[simp] theorem State.setSvt_tku (s : State) (x : Svt) : (s.setSvt x).tku = s.tku := rfl
@[simp] theorem State.setSvt_xfc (s : State) (x : Svt) : (s.setSvt x).xfc = s.xfc := rfl
@[simp] theorem State.setSvt_mdc (s : State) (x : Svt) : (s.setSvt x).mdc = s.mdc := rfl
@[simp] theorem State.setSvt_sti (s : State) (x : Svt) : (s.setSvt x).sti = s.sti := rfl
@[simp] theorem State.setSvt_pending (s : State) (x : Svt) : (s.setSvt x).pending = s.pending := rfl

@[simp] theorem State.setGru_time (s : State) (x : Gru) : (s.setGru x).time = s.time := rfl
@[simp] theorem State.setGru_startUp (s : State) (x : Gru) : (s.setGru x).startUp = s.startUp := rfl
@[simp] theorem State.setGru_ports (s : State) (x : Gru) : (s.setGru x).ports = s.ports := rfl
@[simp] theorem State.setGru_svt (s : State) (x : Gru) : (s.setGru x).svt = s.svt := rfl
@[simp] theorem State.setGru_ftk (s : State) (x : Gru) : (s.setGru x).ftk = s.ftk := rfl
@[simp] theorem State.setGru_gru (s : State) (x : Gru) : (s.setGru x).gru = x := rfl
@[simp] theorem State.setGru_arb (s : State) (x : Gru) : (s.setGru x).arb = s.arb := rfl
@[simp] theorem State.setGru_inv (s : State) (x : Gru) : (s.setGru x).inv = s.inv := rfl
@[simp] theorem State.setGru_tku (s : State) (x : Gru) : (s.setGru x).tku = s.tku := rfl
@[simp] theorem State.setGru_xfc (s : State) (x : Gru) : (s.setGru x).xfc = s.xfc := rfl
@[simp] theorem State.setGru_mdc (s : State) (x : Gru) : (s.setGru x).mdc = s.mdc := rfl
@[simp] theorem State.setGru_sti (s : State) (x : Gru) : (s.setGru x).sti = s.sti := rfl
@[simp] theorem State.setGru_pending (s : State) (x : Gru) : (s.setGru x).pending = s.pending := rfl

@[simp] theorem State.setGrant_time (s : State) (f : Frame) (x : Option Run) : (s.setGrant f x).time = s.time := rfl
@[simp] theorem State.setGrant_startUp (s : State) (f : Frame) (x : Option Run) : (s.setGrant f x).startUp = s.startUp := rfl
@[simp] theorem State.setGrant_ports (s : State) (f : Frame) (x : Option Run) : (s.setGrant f x).ports = s.ports := rfl
@[simp] theorem State.setGrant_svt (s : State) (f : Frame) (x : Option Run) : (s.setGrant f x).svt = s.svt := rfl
@[simp] theorem State.setGrant_ftk (s : State) (f : Frame) (x : Option Run) : (s.setGrant f x).ftk = s.ftk := rfl
@[simp] theorem State.setGrant_gru (s : State) (f : Frame) (x : Option Run) : (s.setGrant f x).gru = { s.gru with grants := s.gru.grants.set f x } := rfl
@[simp] theorem State.setGrant_arb (s : State) (f : Frame) (x : Option Run) : (s.setGrant f x).arb = s.arb := rfl
@[simp] theorem State.setGrant_inv (s : State) (f : Frame) (x : Option Run) : (s.setGrant f x).inv = s.inv := rfl
@[simp] theorem State.setGrant_tku (s : State) (f : Frame) (x : Option Run) : (s.setGrant f x).tku = s.tku := rfl
@[simp] theorem State.setGrant_xfc (s : State) (f : Frame) (x : Option Run) : (s.setGrant f x).xfc = s.xfc := rfl
@[simp] theorem State.setGrant_mdc (s : State) (f : Frame) (x : Option Run) : (s.setGrant f x).mdc = s.mdc := rfl
@[simp] theorem State.setGrant_sti (s : State) (f : Frame) (x : Option Run) : (s.setGrant f x).sti = s.sti := rfl
@[simp] theorem State.setGrant_pending (s : State) (f : Frame) (x : Option Run) : (s.setGrant f x).pending = s.pending := rfl

@[simp] theorem State.setRequest_time (s : State) (f : Frame) (x : Option Travel) : (s.setRequest f x).time = s.time := rfl
@[simp] theorem State.setRequest_startUp (s : State) (f : Frame) (x : Option Travel) : (s.setRequest f x).startUp = s.startUp := rfl
@[simp] theorem State.setRequest_ports (s : State) (f : Frame) (x : Option Travel) : (s.setRequest f x).ports = s.ports := rfl
@[simp] theorem State.setRequest_svt (s : State) (f : Frame) (x : Option Travel) : (s.setRequest f x).svt = s.svt := rfl
@[simp] theorem State.setRequest_ftk (s : State) (f : Frame) (x : Option Travel) : (s.setRequest f x).ftk = s.ftk := rfl
@[simp] theorem State.setRequest_gru (s : State) (f : Frame) (x : Option Travel) : (s.setRequest f x).gru = { s.gru with requests := s.gru.requests.set f x } := rfl
@[simp] theorem State.setRequest_arb (s : State) (f : Frame) (x : Option Travel) : (s.setRequest f x).arb = s.arb := rfl
@[simp] theorem State.setRequest_inv (s : State) (f : Frame) (x : Option Travel) : (s.setRequest f x).inv = s.inv := rfl
@[simp] theorem State.setRequest_tku (s : State) (f : Frame) (x : Option Travel) : (s.setRequest f x).tku = s.tku := rfl
@[simp] theorem State.setRequest_xfc (s : State) (f : Frame) (x : Option Travel) : (s.setRequest f x).xfc = s.xfc := rfl
@[simp] theorem State.setRequest_mdc (s : State) (f : Frame) (x : Option Travel) : (s.setRequest f x).mdc = s.mdc := rfl
@[simp] theorem State.setRequest_sti (s : State) (f : Frame) (x : Option Travel) : (s.setRequest f x).sti = s.sti := rfl
@[simp] theorem State.setRequest_pending (s : State) (f : Frame) (x : Option Travel) : (s.setRequest f x).pending = s.pending := rfl

@[simp] theorem State.setArb_time (s : State) (x : Arb) : (s.setArb x).time = s.time := rfl
@[simp] theorem State.setArb_startUp (s : State) (x : Arb) : (s.setArb x).startUp = s.startUp := rfl
@[simp] theorem State.setArb_ports (s : State) (x : Arb) : (s.setArb x).ports = s.ports := rfl
@[simp] theorem State.setArb_svt (s : State) (x : Arb) : (s.setArb x).svt = s.svt := rfl
@[simp] theorem State.setArb_ftk (s : State) (x : Arb) : (s.setArb x).ftk = s.ftk := rfl
@[simp] theorem State.setArb_gru (s : State) (x : Arb) : (s.setArb x).gru = s.gru := rfl
@[simp] theorem State.setArb_arb (s : State) (x : Arb) : (s.setArb x).arb = x := rfl
@[simp] theorem State.setArb_inv (s : State) (x : Arb) : (s.setArb x).inv = s.inv := rfl
@[simp] theorem State.setArb_tku (s : State) (x : Arb) : (s.setArb x).tku = s.tku := rfl
@[simp] theorem State.setArb_xfc (s : State) (x : Arb) : (s.setArb x).xfc = s.xfc := rfl
@[simp] theorem State.setArb_mdc (s : State) (x : Arb) : (s.setArb x).mdc = s.mdc := rfl
@[simp] theorem State.setArb_sti (s : State) (x : Arb) : (s.setArb x).sti = s.sti := rfl
@[simp] theorem State.setArb_pending (s : State) (x : Arb) : (s.setArb x).pending = s.pending := rfl

@[simp] theorem State.setBlocked_time (s : State) (f : Frame) (x : Bool) : (s.setBlocked f x).time = s.time := rfl
@[simp] theorem State.setBlocked_startUp (s : State) (f : Frame) (x : Bool) : (s.setBlocked f x).startUp = s.startUp := rfl
@[simp] theorem State.setBlocked_ports (s : State) (f : Frame) (x : Bool) : (s.setBlocked f x).ports = s.ports := rfl
@[simp] theorem State.setBlocked_svt (s : State) (f : Frame) (x : Bool) : (s.setBlocked f x).svt = s.svt := rfl
@[simp] theorem State.setBlocked_ftk (s : State) (f : Frame) (x : Bool) : (s.setBlocked f x).ftk = s.ftk := rfl
@[simp] theorem State.setBlocked_gru (s : State) (f : Frame) (x : Bool) : (s.setBlocked f x).gru = s.gru := rfl
@[simp] theorem State.setBlocked_arb (s : State) (f : Frame) (x : Bool) : (s.setBlocked f x).arb = { s.arb with blockedReported := s.arb.blockedReported.set f x } := rfl
@[simp] theorem State.setBlocked_inv (s : State) (f : Frame) (x : Bool) : (s.setBlocked f x).inv = s.inv := rfl
@[simp] theorem State.setBlocked_tku (s : State) (f : Frame) (x : Bool) : (s.setBlocked f x).tku = s.tku := rfl
@[simp] theorem State.setBlocked_xfc (s : State) (f : Frame) (x : Bool) : (s.setBlocked f x).xfc = s.xfc := rfl
@[simp] theorem State.setBlocked_mdc (s : State) (f : Frame) (x : Bool) : (s.setBlocked f x).mdc = s.mdc := rfl
@[simp] theorem State.setBlocked_sti (s : State) (f : Frame) (x : Bool) : (s.setBlocked f x).sti = s.sti := rfl
@[simp] theorem State.setBlocked_pending (s : State) (f : Frame) (x : Bool) : (s.setBlocked f x).pending = s.pending := rfl

@[simp] theorem State.setInv_time (s : State) (x : Inv) : (s.setInv x).time = s.time := rfl
@[simp] theorem State.setInv_startUp (s : State) (x : Inv) : (s.setInv x).startUp = s.startUp := rfl
@[simp] theorem State.setInv_ports (s : State) (x : Inv) : (s.setInv x).ports = s.ports := rfl
@[simp] theorem State.setInv_svt (s : State) (x : Inv) : (s.setInv x).svt = s.svt := rfl
@[simp] theorem State.setInv_ftk (s : State) (x : Inv) : (s.setInv x).ftk = s.ftk := rfl
@[simp] theorem State.setInv_gru (s : State) (x : Inv) : (s.setInv x).gru = s.gru := rfl
@[simp] theorem State.setInv_arb (s : State) (x : Inv) : (s.setInv x).arb = s.arb := rfl
@[simp] theorem State.setInv_inv (s : State) (x : Inv) : (s.setInv x).inv = x := rfl
@[simp] theorem State.setInv_tku (s : State) (x : Inv) : (s.setInv x).tku = s.tku := rfl
@[simp] theorem State.setInv_xfc (s : State) (x : Inv) : (s.setInv x).xfc = s.xfc := rfl
@[simp] theorem State.setInv_mdc (s : State) (x : Inv) : (s.setInv x).mdc = s.mdc := rfl
@[simp] theorem State.setInv_sti (s : State) (x : Inv) : (s.setInv x).sti = s.sti := rfl
@[simp] theorem State.setInv_pending (s : State) (x : Inv) : (s.setInv x).pending = s.pending := rfl

@[simp] theorem State.setBay_time (s : State) (b : Nat) (x : Bay) : (s.setBay b x).time = s.time := rfl
@[simp] theorem State.setBay_startUp (s : State) (b : Nat) (x : Bay) : (s.setBay b x).startUp = s.startUp := rfl
@[simp] theorem State.setBay_ports (s : State) (b : Nat) (x : Bay) : (s.setBay b x).ports = s.ports := rfl
@[simp] theorem State.setBay_svt (s : State) (b : Nat) (x : Bay) : (s.setBay b x).svt = s.svt := rfl
@[simp] theorem State.setBay_ftk (s : State) (b : Nat) (x : Bay) : (s.setBay b x).ftk = s.ftk := rfl
@[simp] theorem State.setBay_gru (s : State) (b : Nat) (x : Bay) : (s.setBay b x).gru = s.gru := rfl
@[simp] theorem State.setBay_arb (s : State) (b : Nat) (x : Bay) : (s.setBay b x).arb = s.arb := rfl
@[simp] theorem State.setBay_inv (s : State) (b : Nat) (x : Bay) : (s.setBay b x).inv = { s.inv with bays := s.inv.bays.set b x } := rfl
@[simp] theorem State.setBay_tku (s : State) (b : Nat) (x : Bay) : (s.setBay b x).tku = s.tku := rfl
@[simp] theorem State.setBay_xfc (s : State) (b : Nat) (x : Bay) : (s.setBay b x).xfc = s.xfc := rfl
@[simp] theorem State.setBay_mdc (s : State) (b : Nat) (x : Bay) : (s.setBay b x).mdc = s.mdc := rfl
@[simp] theorem State.setBay_sti (s : State) (b : Nat) (x : Bay) : (s.setBay b x).sti = s.sti := rfl
@[simp] theorem State.setBay_pending (s : State) (b : Nat) (x : Bay) : (s.setBay b x).pending = s.pending := rfl

@[simp] theorem State.setLanding_time (s : State) (k : Nat) (x : Landing) : (s.setLanding k x).time = s.time := rfl
@[simp] theorem State.setLanding_startUp (s : State) (k : Nat) (x : Landing) : (s.setLanding k x).startUp = s.startUp := rfl
@[simp] theorem State.setLanding_ports (s : State) (k : Nat) (x : Landing) : (s.setLanding k x).ports = s.ports := rfl
@[simp] theorem State.setLanding_svt (s : State) (k : Nat) (x : Landing) : (s.setLanding k x).svt = s.svt := rfl
@[simp] theorem State.setLanding_ftk (s : State) (k : Nat) (x : Landing) : (s.setLanding k x).ftk = s.ftk := rfl
@[simp] theorem State.setLanding_gru (s : State) (k : Nat) (x : Landing) : (s.setLanding k x).gru = s.gru := rfl
@[simp] theorem State.setLanding_arb (s : State) (k : Nat) (x : Landing) : (s.setLanding k x).arb = s.arb := rfl
@[simp] theorem State.setLanding_inv (s : State) (k : Nat) (x : Landing) : (s.setLanding k x).inv = { s.inv with landings := s.inv.landings.set k x } := rfl
@[simp] theorem State.setLanding_tku (s : State) (k : Nat) (x : Landing) : (s.setLanding k x).tku = s.tku := rfl
@[simp] theorem State.setLanding_xfc (s : State) (k : Nat) (x : Landing) : (s.setLanding k x).xfc = s.xfc := rfl
@[simp] theorem State.setLanding_mdc (s : State) (k : Nat) (x : Landing) : (s.setLanding k x).mdc = s.mdc := rfl
@[simp] theorem State.setLanding_sti (s : State) (k : Nat) (x : Landing) : (s.setLanding k x).sti = s.sti := rfl
@[simp] theorem State.setLanding_pending (s : State) (k : Nat) (x : Landing) : (s.setLanding k x).pending = s.pending := rfl

@[simp] theorem State.setTku_time (s : State) (x : Tku) : (s.setTku x).time = s.time := rfl
@[simp] theorem State.setTku_startUp (s : State) (x : Tku) : (s.setTku x).startUp = s.startUp := rfl
@[simp] theorem State.setTku_ports (s : State) (x : Tku) : (s.setTku x).ports = s.ports := rfl
@[simp] theorem State.setTku_svt (s : State) (x : Tku) : (s.setTku x).svt = s.svt := rfl
@[simp] theorem State.setTku_ftk (s : State) (x : Tku) : (s.setTku x).ftk = s.ftk := rfl
@[simp] theorem State.setTku_gru (s : State) (x : Tku) : (s.setTku x).gru = s.gru := rfl
@[simp] theorem State.setTku_arb (s : State) (x : Tku) : (s.setTku x).arb = s.arb := rfl
@[simp] theorem State.setTku_inv (s : State) (x : Tku) : (s.setTku x).inv = s.inv := rfl
@[simp] theorem State.setTku_tku (s : State) (x : Tku) : (s.setTku x).tku = x := rfl
@[simp] theorem State.setTku_xfc (s : State) (x : Tku) : (s.setTku x).xfc = s.xfc := rfl
@[simp] theorem State.setTku_mdc (s : State) (x : Tku) : (s.setTku x).mdc = s.mdc := rfl
@[simp] theorem State.setTku_sti (s : State) (x : Tku) : (s.setTku x).sti = s.sti := rfl
@[simp] theorem State.setTku_pending (s : State) (x : Tku) : (s.setTku x).pending = s.pending := rfl

@[simp] theorem State.setTask_time (s : State) (id : Nat) (x : Task) : (s.setTask id x).time = s.time := rfl
@[simp] theorem State.setTask_startUp (s : State) (id : Nat) (x : Task) : (s.setTask id x).startUp = s.startUp := rfl
@[simp] theorem State.setTask_ports (s : State) (id : Nat) (x : Task) : (s.setTask id x).ports = s.ports := rfl
@[simp] theorem State.setTask_svt (s : State) (id : Nat) (x : Task) : (s.setTask id x).svt = s.svt := rfl
@[simp] theorem State.setTask_ftk (s : State) (id : Nat) (x : Task) : (s.setTask id x).ftk = s.ftk := rfl
@[simp] theorem State.setTask_gru (s : State) (id : Nat) (x : Task) : (s.setTask id x).gru = s.gru := rfl
@[simp] theorem State.setTask_arb (s : State) (id : Nat) (x : Task) : (s.setTask id x).arb = s.arb := rfl
@[simp] theorem State.setTask_inv (s : State) (id : Nat) (x : Task) : (s.setTask id x).inv = s.inv := rfl
@[simp] theorem State.setTask_tku (s : State) (id : Nat) (x : Task) : (s.setTask id x).tku = { s.tku with tasks := s.tku.tasks.set id x } := rfl
@[simp] theorem State.setTask_xfc (s : State) (id : Nat) (x : Task) : (s.setTask id x).xfc = s.xfc := rfl
@[simp] theorem State.setTask_mdc (s : State) (id : Nat) (x : Task) : (s.setTask id x).mdc = s.mdc := rfl
@[simp] theorem State.setTask_sti (s : State) (id : Nat) (x : Task) : (s.setTask id x).sti = s.sti := rfl
@[simp] theorem State.setTask_pending (s : State) (id : Nat) (x : Task) : (s.setTask id x).pending = s.pending := rfl

@[simp] theorem State.setXfc_time (s : State) (x : Xfc) : (s.setXfc x).time = s.time := rfl
@[simp] theorem State.setXfc_startUp (s : State) (x : Xfc) : (s.setXfc x).startUp = s.startUp := rfl
@[simp] theorem State.setXfc_ports (s : State) (x : Xfc) : (s.setXfc x).ports = s.ports := rfl
@[simp] theorem State.setXfc_svt (s : State) (x : Xfc) : (s.setXfc x).svt = s.svt := rfl
@[simp] theorem State.setXfc_ftk (s : State) (x : Xfc) : (s.setXfc x).ftk = s.ftk := rfl
@[simp] theorem State.setXfc_gru (s : State) (x : Xfc) : (s.setXfc x).gru = s.gru := rfl
@[simp] theorem State.setXfc_arb (s : State) (x : Xfc) : (s.setXfc x).arb = s.arb := rfl
@[simp] theorem State.setXfc_inv (s : State) (x : Xfc) : (s.setXfc x).inv = s.inv := rfl
@[simp] theorem State.setXfc_tku (s : State) (x : Xfc) : (s.setXfc x).tku = s.tku := rfl
@[simp] theorem State.setXfc_xfc (s : State) (x : Xfc) : (s.setXfc x).xfc = x := rfl
@[simp] theorem State.setXfc_mdc (s : State) (x : Xfc) : (s.setXfc x).mdc = s.mdc := rfl
@[simp] theorem State.setXfc_sti (s : State) (x : Xfc) : (s.setXfc x).sti = s.sti := rfl
@[simp] theorem State.setXfc_pending (s : State) (x : Xfc) : (s.setXfc x).pending = s.pending := rfl

@[simp] theorem State.setTransfer_time (s : State) (f : Frame) (x : Option Transfer) : (s.setTransfer f x).time = s.time := rfl
@[simp] theorem State.setTransfer_startUp (s : State) (f : Frame) (x : Option Transfer) : (s.setTransfer f x).startUp = s.startUp := rfl
@[simp] theorem State.setTransfer_ports (s : State) (f : Frame) (x : Option Transfer) : (s.setTransfer f x).ports = s.ports := rfl
@[simp] theorem State.setTransfer_svt (s : State) (f : Frame) (x : Option Transfer) : (s.setTransfer f x).svt = s.svt := rfl
@[simp] theorem State.setTransfer_ftk (s : State) (f : Frame) (x : Option Transfer) : (s.setTransfer f x).ftk = s.ftk := rfl
@[simp] theorem State.setTransfer_gru (s : State) (f : Frame) (x : Option Transfer) : (s.setTransfer f x).gru = s.gru := rfl
@[simp] theorem State.setTransfer_arb (s : State) (f : Frame) (x : Option Transfer) : (s.setTransfer f x).arb = s.arb := rfl
@[simp] theorem State.setTransfer_inv (s : State) (f : Frame) (x : Option Transfer) : (s.setTransfer f x).inv = s.inv := rfl
@[simp] theorem State.setTransfer_tku (s : State) (f : Frame) (x : Option Transfer) : (s.setTransfer f x).tku = s.tku := rfl
@[simp] theorem State.setTransfer_xfc (s : State) (f : Frame) (x : Option Transfer) : (s.setTransfer f x).xfc = { s.xfc with contexts := s.xfc.contexts.set f x } := rfl
@[simp] theorem State.setTransfer_mdc (s : State) (f : Frame) (x : Option Transfer) : (s.setTransfer f x).mdc = s.mdc := rfl
@[simp] theorem State.setTransfer_sti (s : State) (f : Frame) (x : Option Transfer) : (s.setTransfer f x).sti = s.sti := rfl
@[simp] theorem State.setTransfer_pending (s : State) (f : Frame) (x : Option Transfer) : (s.setTransfer f x).pending = s.pending := rfl

@[simp] theorem State.setMdc_time (s : State) (x : Mdc) : (s.setMdc x).time = s.time := rfl
@[simp] theorem State.setMdc_startUp (s : State) (x : Mdc) : (s.setMdc x).startUp = s.startUp := rfl
@[simp] theorem State.setMdc_ports (s : State) (x : Mdc) : (s.setMdc x).ports = s.ports := rfl
@[simp] theorem State.setMdc_svt (s : State) (x : Mdc) : (s.setMdc x).svt = s.svt := rfl
@[simp] theorem State.setMdc_ftk (s : State) (x : Mdc) : (s.setMdc x).ftk = s.ftk := rfl
@[simp] theorem State.setMdc_gru (s : State) (x : Mdc) : (s.setMdc x).gru = s.gru := rfl
@[simp] theorem State.setMdc_arb (s : State) (x : Mdc) : (s.setMdc x).arb = s.arb := rfl
@[simp] theorem State.setMdc_inv (s : State) (x : Mdc) : (s.setMdc x).inv = s.inv := rfl
@[simp] theorem State.setMdc_tku (s : State) (x : Mdc) : (s.setMdc x).tku = s.tku := rfl
@[simp] theorem State.setMdc_xfc (s : State) (x : Mdc) : (s.setMdc x).xfc = s.xfc := rfl
@[simp] theorem State.setMdc_mdc (s : State) (x : Mdc) : (s.setMdc x).mdc = x := rfl
@[simp] theorem State.setMdc_sti (s : State) (x : Mdc) : (s.setMdc x).sti = s.sti := rfl
@[simp] theorem State.setMdc_pending (s : State) (x : Mdc) : (s.setMdc x).pending = s.pending := rfl

@[simp] theorem State.setSti_time (s : State) (x : Sti) : (s.setSti x).time = s.time := rfl
@[simp] theorem State.setSti_startUp (s : State) (x : Sti) : (s.setSti x).startUp = s.startUp := rfl
@[simp] theorem State.setSti_ports (s : State) (x : Sti) : (s.setSti x).ports = s.ports := rfl
@[simp] theorem State.setSti_svt (s : State) (x : Sti) : (s.setSti x).svt = s.svt := rfl
@[simp] theorem State.setSti_ftk (s : State) (x : Sti) : (s.setSti x).ftk = s.ftk := rfl
@[simp] theorem State.setSti_gru (s : State) (x : Sti) : (s.setSti x).gru = s.gru := rfl
@[simp] theorem State.setSti_arb (s : State) (x : Sti) : (s.setSti x).arb = s.arb := rfl
@[simp] theorem State.setSti_inv (s : State) (x : Sti) : (s.setSti x).inv = s.inv := rfl
@[simp] theorem State.setSti_tku (s : State) (x : Sti) : (s.setSti x).tku = s.tku := rfl
@[simp] theorem State.setSti_xfc (s : State) (x : Sti) : (s.setSti x).xfc = s.xfc := rfl
@[simp] theorem State.setSti_mdc (s : State) (x : Sti) : (s.setSti x).mdc = s.mdc := rfl
@[simp] theorem State.setSti_sti (s : State) (x : Sti) : (s.setSti x).sti = x := rfl
@[simp] theorem State.setSti_pending (s : State) (x : Sti) : (s.setSti x).pending = s.pending := rfl

@[simp] theorem State.withPending_time (s : State) (q : List Instr) : (s.withPending q).time = s.time := rfl
@[simp] theorem State.withPending_startUp (s : State) (q : List Instr) : (s.withPending q).startUp = s.startUp := rfl
@[simp] theorem State.withPending_ports (s : State) (q : List Instr) : (s.withPending q).ports = s.ports := rfl
@[simp] theorem State.withPending_svt (s : State) (q : List Instr) : (s.withPending q).svt = s.svt := rfl
@[simp] theorem State.withPending_ftk (s : State) (q : List Instr) : (s.withPending q).ftk = s.ftk := rfl
@[simp] theorem State.withPending_gru (s : State) (q : List Instr) : (s.withPending q).gru = s.gru := rfl
@[simp] theorem State.withPending_arb (s : State) (q : List Instr) : (s.withPending q).arb = s.arb := rfl
@[simp] theorem State.withPending_inv (s : State) (q : List Instr) : (s.withPending q).inv = s.inv := rfl
@[simp] theorem State.withPending_tku (s : State) (q : List Instr) : (s.withPending q).tku = s.tku := rfl
@[simp] theorem State.withPending_xfc (s : State) (q : List Instr) : (s.withPending q).xfc = s.xfc := rfl
@[simp] theorem State.withPending_mdc (s : State) (q : List Instr) : (s.withPending q).mdc = s.mdc := rfl
@[simp] theorem State.withPending_sti (s : State) (q : List Instr) : (s.withPending q).sti = s.sti := rfl
@[simp] theorem State.withPending_pending (s : State) (q : List Instr) : (s.withPending q).pending = q := rfl

@[simp] theorem State.raiseOn_time (s : State) (who : Role → Bool) (e : Event) : (s.raiseOn who e).time = s.time := rfl
@[simp] theorem State.raiseOn_startUp (s : State) (who : Role → Bool) (e : Event) : (s.raiseOn who e).startUp = s.startUp := rfl
@[simp] theorem State.raiseOn_svt (s : State) (who : Role → Bool) (e : Event) : (s.raiseOn who e).svt = s.svt := rfl
@[simp] theorem State.raiseOn_ftk (s : State) (who : Role → Bool) (e : Event) : (s.raiseOn who e).ftk = s.ftk := rfl
@[simp] theorem State.raiseOn_gru (s : State) (who : Role → Bool) (e : Event) : (s.raiseOn who e).gru = s.gru := rfl
@[simp] theorem State.raiseOn_arb (s : State) (who : Role → Bool) (e : Event) : (s.raiseOn who e).arb = s.arb := rfl
@[simp] theorem State.raiseOn_inv (s : State) (who : Role → Bool) (e : Event) : (s.raiseOn who e).inv = s.inv := rfl
@[simp] theorem State.raiseOn_tku (s : State) (who : Role → Bool) (e : Event) : (s.raiseOn who e).tku = s.tku := rfl
@[simp] theorem State.raiseOn_xfc (s : State) (who : Role → Bool) (e : Event) : (s.raiseOn who e).xfc = s.xfc := rfl
@[simp] theorem State.raiseOn_mdc (s : State) (who : Role → Bool) (e : Event) : (s.raiseOn who e).mdc = s.mdc := rfl
@[simp] theorem State.raiseOn_sti (s : State) (who : Role → Bool) (e : Event) : (s.raiseOn who e).sti = s.sti := rfl
@[simp] theorem State.raiseOn_pending (s : State) (who : Role → Bool) (e : Event) : (s.raiseOn who e).pending = s.pending := rfl

@[simp] theorem State.raiseWinder_time (s : State) (f : Frame) (e : Event) : (s.raiseWinder f e).time = s.time := rfl
@[simp] theorem State.raiseWinder_startUp (s : State) (f : Frame) (e : Event) : (s.raiseWinder f e).startUp = s.startUp := rfl
@[simp] theorem State.raiseWinder_svt (s : State) (f : Frame) (e : Event) : (s.raiseWinder f e).svt = s.svt := rfl
@[simp] theorem State.raiseWinder_ftk (s : State) (f : Frame) (e : Event) : (s.raiseWinder f e).ftk = s.ftk := rfl
@[simp] theorem State.raiseWinder_gru (s : State) (f : Frame) (e : Event) : (s.raiseWinder f e).gru = s.gru := rfl
@[simp] theorem State.raiseWinder_arb (s : State) (f : Frame) (e : Event) : (s.raiseWinder f e).arb = s.arb := rfl
@[simp] theorem State.raiseWinder_inv (s : State) (f : Frame) (e : Event) : (s.raiseWinder f e).inv = s.inv := rfl
@[simp] theorem State.raiseWinder_tku (s : State) (f : Frame) (e : Event) : (s.raiseWinder f e).tku = s.tku := rfl
@[simp] theorem State.raiseWinder_xfc (s : State) (f : Frame) (e : Event) : (s.raiseWinder f e).xfc = s.xfc := rfl
@[simp] theorem State.raiseWinder_mdc (s : State) (f : Frame) (e : Event) : (s.raiseWinder f e).mdc = s.mdc := rfl
@[simp] theorem State.raiseWinder_sti (s : State) (f : Frame) (e : Event) : (s.raiseWinder f e).sti = s.sti := rfl
@[simp] theorem State.raiseWinder_pending (s : State) (f : Frame) (e : Event) : (s.raiseWinder f e).pending = s.pending := rfl

@[simp] theorem State.raiseWatchers_time (s : State) (e : Event) : (s.raiseWatchers e).time = s.time := rfl
@[simp] theorem State.raiseWatchers_startUp (s : State) (e : Event) : (s.raiseWatchers e).startUp = s.startUp := rfl
@[simp] theorem State.raiseWatchers_svt (s : State) (e : Event) : (s.raiseWatchers e).svt = s.svt := rfl
@[simp] theorem State.raiseWatchers_ftk (s : State) (e : Event) : (s.raiseWatchers e).ftk = s.ftk := rfl
@[simp] theorem State.raiseWatchers_gru (s : State) (e : Event) : (s.raiseWatchers e).gru = s.gru := rfl
@[simp] theorem State.raiseWatchers_arb (s : State) (e : Event) : (s.raiseWatchers e).arb = s.arb := rfl
@[simp] theorem State.raiseWatchers_inv (s : State) (e : Event) : (s.raiseWatchers e).inv = s.inv := rfl
@[simp] theorem State.raiseWatchers_tku (s : State) (e : Event) : (s.raiseWatchers e).tku = s.tku := rfl
@[simp] theorem State.raiseWatchers_xfc (s : State) (e : Event) : (s.raiseWatchers e).xfc = s.xfc := rfl
@[simp] theorem State.raiseWatchers_mdc (s : State) (e : Event) : (s.raiseWatchers e).mdc = s.mdc := rfl
@[simp] theorem State.raiseWatchers_sti (s : State) (e : Event) : (s.raiseWatchers e).sti = s.sti := rfl
@[simp] theorem State.raiseWatchers_pending (s : State) (e : Event) : (s.raiseWatchers e).pending = s.pending := rfl

@[simp] theorem State.raiseAll_time (s : State) (e : Event) : (s.raiseAll e).time = s.time := rfl
@[simp] theorem State.raiseAll_startUp (s : State) (e : Event) : (s.raiseAll e).startUp = s.startUp := rfl
@[simp] theorem State.raiseAll_svt (s : State) (e : Event) : (s.raiseAll e).svt = s.svt := rfl
@[simp] theorem State.raiseAll_ftk (s : State) (e : Event) : (s.raiseAll e).ftk = s.ftk := rfl
@[simp] theorem State.raiseAll_gru (s : State) (e : Event) : (s.raiseAll e).gru = s.gru := rfl
@[simp] theorem State.raiseAll_arb (s : State) (e : Event) : (s.raiseAll e).arb = s.arb := rfl
@[simp] theorem State.raiseAll_inv (s : State) (e : Event) : (s.raiseAll e).inv = s.inv := rfl
@[simp] theorem State.raiseAll_tku (s : State) (e : Event) : (s.raiseAll e).tku = s.tku := rfl
@[simp] theorem State.raiseAll_xfc (s : State) (e : Event) : (s.raiseAll e).xfc = s.xfc := rfl
@[simp] theorem State.raiseAll_mdc (s : State) (e : Event) : (s.raiseAll e).mdc = s.mdc := rfl
@[simp] theorem State.raiseAll_sti (s : State) (e : Event) : (s.raiseAll e).sti = s.sti := rfl
@[simp] theorem State.raiseAll_pending (s : State) (e : Event) : (s.raiseAll e).pending = s.pending := rfl

@[simp] theorem State.raiseFrame_time (s : State) (f : Frame) (e : Event) : (s.raiseFrame f e).time = s.time := rfl
@[simp] theorem State.raiseFrame_startUp (s : State) (f : Frame) (e : Event) : (s.raiseFrame f e).startUp = s.startUp := rfl
@[simp] theorem State.raiseFrame_svt (s : State) (f : Frame) (e : Event) : (s.raiseFrame f e).svt = s.svt := rfl
@[simp] theorem State.raiseFrame_ftk (s : State) (f : Frame) (e : Event) : (s.raiseFrame f e).ftk = s.ftk := rfl
@[simp] theorem State.raiseFrame_gru (s : State) (f : Frame) (e : Event) : (s.raiseFrame f e).gru = s.gru := rfl
@[simp] theorem State.raiseFrame_arb (s : State) (f : Frame) (e : Event) : (s.raiseFrame f e).arb = s.arb := rfl
@[simp] theorem State.raiseFrame_inv (s : State) (f : Frame) (e : Event) : (s.raiseFrame f e).inv = s.inv := rfl
@[simp] theorem State.raiseFrame_tku (s : State) (f : Frame) (e : Event) : (s.raiseFrame f e).tku = s.tku := rfl
@[simp] theorem State.raiseFrame_xfc (s : State) (f : Frame) (e : Event) : (s.raiseFrame f e).xfc = s.xfc := rfl
@[simp] theorem State.raiseFrame_mdc (s : State) (f : Frame) (e : Event) : (s.raiseFrame f e).mdc = s.mdc := rfl
@[simp] theorem State.raiseFrame_sti (s : State) (f : Frame) (e : Event) : (s.raiseFrame f e).sti = s.sti := rfl
@[simp] theorem State.raiseFrame_pending (s : State) (f : Frame) (e : Event) : (s.raiseFrame f e).pending = s.pending := rfl

@[simp] theorem State.drive_time (s : State) : s.drive.time = s.time := rfl
@[simp] theorem State.drive_startUp (s : State) : s.drive.startUp = s.startUp := rfl
@[simp] theorem State.drive_svt (s : State) : s.drive.svt = s.svt := rfl
@[simp] theorem State.drive_ftk (s : State) : s.drive.ftk = s.ftk := rfl
@[simp] theorem State.drive_arb (s : State) : s.drive.arb = s.arb := rfl
@[simp] theorem State.drive_inv (s : State) : s.drive.inv = s.inv := rfl
@[simp] theorem State.drive_tku (s : State) : s.drive.tku = s.tku := rfl
@[simp] theorem State.drive_sti (s : State) : s.drive.sti = s.sti := rfl
@[simp] theorem State.drive_pending (s : State) : s.drive.pending = s.pending := rfl
@[simp] theorem State.drive_gru (s : State) : s.drive.gru = { s.gru with permit := ⟨permitLine s .U, permitLine s .L⟩ } := rfl
@[simp] theorem State.drive_mdc (s : State) : s.drive.mdc = { s.mdc with fault := faultLine s } := rfl
@[simp] theorem State.drive_ports (s : State) : s.drive.ports = s.ports.map (fun x => { x with attn := attnLine x }) := rfl
@[simp] theorem State.drive_xfc (s : State) : s.drive.xfc = { s.xfc with ldcmd := Bank.ofFn 12 (gearLine s .load), ulcmd := Bank.ofFn 12 (gearLine s .unload) } := rfl

@[simp] theorem setStartUp_time (x : StartUp) (s : State) : (setStartUp x s).time = s.time := rfl
@[simp] theorem setStartUp_startUp (x : StartUp) (s : State) : (setStartUp x s).startUp = x := rfl
@[simp] theorem setStartUp_ports (x : StartUp) (s : State) : (setStartUp x s).ports = s.ports := rfl
@[simp] theorem setStartUp_svt (x : StartUp) (s : State) : (setStartUp x s).svt = s.svt := rfl
@[simp] theorem setStartUp_ftk (x : StartUp) (s : State) : (setStartUp x s).ftk = s.ftk := rfl
@[simp] theorem setStartUp_gru (x : StartUp) (s : State) : (setStartUp x s).gru = s.gru := rfl
@[simp] theorem setStartUp_arb (x : StartUp) (s : State) : (setStartUp x s).arb = s.arb := rfl
@[simp] theorem setStartUp_inv (x : StartUp) (s : State) : (setStartUp x s).inv = s.inv := rfl
@[simp] theorem setStartUp_tku (x : StartUp) (s : State) : (setStartUp x s).tku = s.tku := rfl
@[simp] theorem setStartUp_xfc (x : StartUp) (s : State) : (setStartUp x s).xfc = s.xfc := rfl
@[simp] theorem setStartUp_mdc (x : StartUp) (s : State) : (setStartUp x s).mdc = s.mdc := rfl
@[simp] theorem setStartUp_sti (x : StartUp) (s : State) : (setStartUp x s).sti = s.sti := rfl
@[simp] theorem setStartUp_pending (x : StartUp) (s : State) : (setStartUp x s).pending = s.pending := rfl

@[simp] theorem advanceTime_time (s : State) : (advanceTime s).time = s.time + 1 := rfl
@[simp] theorem advanceTime_startUp (s : State) : (advanceTime s).startUp = s.startUp := rfl
@[simp] theorem advanceTime_ports (s : State) : (advanceTime s).ports = s.ports := rfl
@[simp] theorem advanceTime_svt (s : State) : (advanceTime s).svt = s.svt := rfl
@[simp] theorem advanceTime_ftk (s : State) : (advanceTime s).ftk = s.ftk := rfl
@[simp] theorem advanceTime_gru (s : State) : (advanceTime s).gru = s.gru := rfl
@[simp] theorem advanceTime_arb (s : State) : (advanceTime s).arb = s.arb := rfl
@[simp] theorem advanceTime_inv (s : State) : (advanceTime s).inv = s.inv := rfl
@[simp] theorem advanceTime_tku (s : State) : (advanceTime s).tku = s.tku := rfl
@[simp] theorem advanceTime_xfc (s : State) : (advanceTime s).xfc = s.xfc := rfl
@[simp] theorem advanceTime_mdc (s : State) : (advanceTime s).mdc = s.mdc := rfl
@[simp] theorem advanceTime_sti (s : State) : (advanceTime s).sti = s.sti := rfl
@[simp] theorem advanceTime_pending (s : State) : (advanceTime s).pending = s.pending := rfl

/-! ### The named reads after an update -/

@[simp] theorem State.port_setPort (s : State) (p : PortId) (x : PortState) : (s.setPort p x).port p = x := by
  simp [State.port, State.setPort, Bank.getD_set, p.isLt]

theorem State.port_setPort_ne (s : State) (p q : PortId) (x : PortState) (h : q ≠ p) :
    (s.setPort p x).port q = s.port q := by
  simp [State.port, State.setPort, Bank.getD_set, Fin.val_ne_of_ne h]

@[simp] theorem State.setPort_port (s : State) (p : PortId) : s.setPort p (s.port p) = s := by
  simp [State.port, State.setPort, Bank.set_getD_self]

@[simp] theorem State.setPort_setPort (s : State) (p : PortId) (x y : PortState) :
    (s.setPort p x).setPort p y = s.setPort p y := by
  simp [State.setPort]

theorem State.port_raiseOn (s : State) (who : Role → Bool) (e : Event) (q : PortId) :
    (s.raiseOn who e).port q = if who (s.port q).role then (s.port q).raise e else s.port q := by
  simp only [State.port, State.raiseOn]
  rw [Bank.getD_map (d := PortState.initial .monitor) (h := q.isLt)]
  rfl

theorem State.port_drive (s : State) (q : PortId) :
    s.drive.port q = { s.port q with attn := attnLine (s.port q) } := by
  simp only [State.port, State.drive]
  rw [Bank.getD_map (d := PortState.initial .monitor) (h := q.isLt)]

end Sys2Proof.Machine
end

