-- ==== Sys2Proof/Laws/Ports.lean ====
section
/-! SUPPORT. What raising, driving, replying and taking a request do to the ports: the lemmas a proof about a command
cites instead of unfolding LKU. -/

namespace Sys2Proof.Machine

/-! ### Ports -/

theorem setRx_port (p : PortId) (x : Rx) (s : State) (q : PortId) :
    (setRx p x s).port q = if q = p then { s.port p with rx := x } else s.port q := by
  unfold setRx
  by_cases h : q = p
  · subst h; simp
  · simp [h, State.port_setPort_ne]

theorem addReply_port (p : PortId) (r : Reply) (s : State) (q : PortId) :
    (addReply p r s).port q =
      if q = p then { s.port p with rx := .hunt, replies := (s.port p).replies ++ [r] } else s.port q := by
  unfold addReply
  by_cases h : q = p
  · subst h; simp
  · simp [h, State.port_setPort_ne]

theorem State.port_raiseAll (s : State) (e : Event) (q : PortId) : (s.raiseAll e).port q = (s.port q).raise e := by
  simp [State.raiseAll, State.port_raiseOn]

theorem State.port_raiseWinder (s : State) (f : Frame) (e : Event) (q : PortId) :
    (s.raiseWinder f e).port q = if (s.port q).role = winderRole f then (s.port q).raise e else s.port q := by
  simp [State.raiseWinder, State.port_raiseOn]

theorem State.port_raiseWatchers (s : State) (e : Event) (q : PortId) :
    (s.raiseWatchers e).port q = if isWatcher (s.port q).role then (s.port q).raise e else s.port q := by
  simp [State.raiseWatchers, State.port_raiseOn]

/-! ### Taking a request -/

theorem gate_admitted {s : State} {p : PortId} {r : Req} (h : Admitted s p r) : gate s p (some r) true = none := by
  have h1 := h.straps; have h2 := h.started; have h3 := h.role; have h4 := h.survey
  by_cases hu : s.svt.state = .unconfigured
  · simp [gate, partGate, requestGate, refusedIf, h1, h2, h3, h4 hu]
  · simp [gate, partGate, requestGate, refusedIf, h1, h2, h3, hu]

/-- A request that is admitted is answered by its block, and the reply joins the list (R166, R168). -/
theorem takeRequest_admitted {s : State} {p : PortId} {r : Req} (h : Admitted s p r) (body : State → Answer) :
    takeRequest p r body s = replied p r (body s).2 (body s).1 := by
  have hl : repliesFull s p = false := by
    have := h.room
    simp [repliesFull]; omega
  simp [takeRequest, takeFrame, h.line, hl, gate_admitted h, answerGated, replyFrom, addReply, replied, repliedTo, replyTo]

/-- The same, from what the block answers. -/
theorem takeRequest_eq {s u : State} {p : PortId} {r : Req} {body : State → Answer} {payload : List Byte}
    (h : Admitted s p r) (hb : body s = (u, payload)) : takeRequest p r body s = replied p r payload u := by
  rw [takeRequest_admitted h, hb]

/-- A winder port's request goes to the frame the port serves (R165). -/
theorem forWinder_eq {s : State} {p : PortId} {f : Frame} (h : (s.port p).role = winderRole f)
    (body : Frame → State → Answer) : forWinder p body s = body f s := by
  unfold forWinder
  rw [h]
  cases f <;> rfl

end Sys2Proof.Machine
end

