-- ==== Sys2Proof/Laws/Frames.lean ====
section
/-! SUPPORT. What each shared operation can change: one equation per operation, which says that the state after it is
the state before with the named blocks replaced. `congrArg State.inv (trip_frame f r s)` gives the inventory after a
trip, and so on for every other field; the content lemmas then say what the named blocks hold. -/

namespace Sys2Proof.Machine

/-! ### Modes and trips (R32, R149) -/

theorem changeMode_frame (m : Mode) (s : State) :
    changeMode m s = { s with ports := (changeMode m s).ports, mdc := { s.mdc with mode := m } } := rfl

theorem enterHold_frame (s : State) :
    enterHold s = { s with
      ports := (enterHold s).ports
      mdc := { s.mdc with mode := if s.mdc.mode = .run then .hold else s.mdc.mode } } := by
  unfold enterHold
  split
  · rfl
  · rfl

/-- In HOLD and in LOCKOUT a request for HOLD changes nothing (R149). -/
theorem enterHold_of_ne {s : State} (h : s.mdc.mode ≠ .run) : enterHold s = s := by
  simp [enterHold, h]

/-- A request for HOLD leaves the shaft out of RUN (R149). -/
theorem enterHold_not_run (s : State) : (enterHold s).mdc.mode ≠ .run := by
  unfold enterHold
  split
  · simp [changeMode, setMode]
  · assumption

theorem moveTracker_frame (f : Frame) (n : Tracker) (s : State) :
    moveTracker f n s = { s with ports := (moveTracker f n s).ports, ftk := s.ftk.set f n } := by
  unfold moveTracker
  split <;> rfl

/-- The tracker that moves takes its new value, the other keeps its own. -/
theorem moveTracker_tracker (f g : Frame) (n : Tracker) (s : State) :
    (moveTracker f n s).tracker g = if g = f then n else s.tracker g := by
  have h := congrArg State.ftk (moveTracker_frame f n s)
  simp only [State.tracker, h, Pair.get_set]

/-- A trip changes its frame's tracker, the mode and the ports, and nothing else (R32). -/
theorem trip_frame (f : Frame) (r : BitVec 16) (s : State) :
    trip f r s = { s with
      ports := (trip f r s).ports
      ftk := s.ftk.set f ((s.tracker f).trip r)
      mdc := { s.mdc with mode := if s.mdc.mode = .run then .hold else s.mdc.mode } } := by
  have h1 := enterHold_frame (moveTracker f ((s.tracker f).trip r) s)
  have h2 := moveTracker_frame f ((s.tracker f).trip r) s
  have hm : (moveTracker f ((s.tracker f).trip r) s).mdc = s.mdc := by rw [h2]
  unfold trip
  rw [hm] at h1
  rw [h1, h2]

/-- The tripped frame is TRIPPED with the reasons added, and the shaft is out of RUN (R32). -/
theorem trip_tracker (f : Frame) (r : BitVec 16) (s : State) :
    (trip f r s).tracker f = { s.tracker f with state := .tripped, reasons := (s.tracker f).reasons ||| r } ∧
      (trip f r s).tracker f.other = s.tracker f.other ∧ (trip f r s).mdc.mode ≠ .run := by
  have h := congrArg State.ftk (trip_frame f r s)
  refine ⟨?_, ?_, enterHold_not_run _⟩
  · simp only [State.tracker, h, Pair.get_set_self]
    rfl
  · simp only [State.tracker, h, Pair.get_set_other]

/-! ### Grants (R50, R58, R62 to R66) -/

theorem trimTo_frame (f : Frame) (n : Run) (d : Option Dir) (s : State) :
    trimTo f n d s = { s with
      ports := (trimTo f n d s).ports
      gru := { s.gru with grants := (trimTo f n d s).gru.grants } } := by
  unfold trimTo
  split
  · simp only []
    split <;> rfl
  · rfl

theorem trim_frame (f : Frame) (s : State) :
    trim f s = { s with ports := (trim f s).ports, gru := { s.gru with grants := (trim f s).gru.grants } } := by
  unfold trim
  split
  · split
    · exact trimTo_frame _ _ _ _
    · rfl
  · rfl

theorem takePendingTuning_frame (f : Frame) (s : State) :
    takePendingTuning f s = { s with
      svt := { s.svt with tuning := s.svt.tuning.set f (s.svt.tuning.get f).takeOver }
      arb := (takePendingTuning f s).arb } := by
  unfold takePendingTuning
  simp only []
  split <;> rfl

theorem clearRequest_frame (f : Frame) (why : EndReason) (s : State) :
    clearRequest f why s = { s with
      ports := (clearRequest f why s).ports
      gru := { s.gru with
        grants := (clearRequest f why s).gru.grants
        requests := s.gru.requests.set f none
        lastEnd := s.gru.lastEnd.set f why }
      arb := (clearRequest f why s).arb
      svt := { s.svt with tuning := s.svt.tuning.set f (s.svt.tuning.get f).takeOver } } := by
  unfold clearRequest
  simp only []
  split
  · conv_lhs => rw [takePendingTuning_frame]
    conv_rhs => rw [takePendingTuning_frame]
    rfl
  · conv_lhs => rw [trim_frame, takePendingTuning_frame]
    conv_rhs => rw [trim_frame, takePendingTuning_frame]
    rfl

/-- The request that is cleared is gone with its end reason, and the other frame's stays (R50). -/
theorem clearRequest_request (f : Frame) (why : EndReason) (s : State) :
    (clearRequest f why s).request f = none ∧ (clearRequest f why s).gru.lastEnd.get f = why ∧
      (clearRequest f why s).request f.other = s.request f.other := by
  have h := congrArg State.gru (clearRequest_frame f why s)
  refine ⟨?_, ?_, ?_⟩
  · exact (congrArg (fun g => g.requests.get f) h).trans (Pair.get_set_self _ _ _)
  · exact (congrArg (fun g => g.lastEnd.get f) h).trans (Pair.get_set_self _ _ _)
  · exact (congrArg (fun g => g.requests.get f.other) h).trans (Pair.get_set_other _ _ _)

theorem reserveZones_frame {f : Frame} {r : Run} {s t : State} (h : reserveZones f r s = some t) :
    t = { s with ports := t.ports, gru := { s.gru with grants := t.gru.grants } } := by
  unfold reserveZones at h
  split at h
  · simp only [] at h
    split at h
    · cases h
      split <;> rfl
    · cases h
  · cases h

theorem reformGrant_frame (f : Frame) (e : Run) (s : State) :
    reformGrant f e s = { s with
      ports := (reformGrant f e s).ports
      gru := { s.gru with grants := s.gru.grants.set f (some e) } } := by
  unfold reformGrant
  split
  · next h =>
    have : s.gru.grants.set f (some e) = s.gru.grants := by
      rw [← h]; exact Pair.set_get_self _ _
    rw [this]
  · rfl

/-! ### Rounds (R75 to R81) -/

theorem applyServed_frame (f : Frame) (x : Option Run) (s : State) :
    applyServed f x s = { s with
      ports := (applyServed f x s).ports
      gru := { s.gru with grants := (applyServed f x s).gru.grants } } := by
  unfold applyServed
  split <;> rfl

/-- What a round may change: ports, grants, requests and end reasons, ARB and the tuning (R75 to R81). -/
def RoundFrame (s t : State) : Prop :=
  t = { s with
    ports := t.ports, gru := { t.gru with permit := s.gru.permit }, arb := t.arb
    svt := { s.svt with tuning := t.svt.tuning } }

theorem RoundFrame.refl (s : State) : RoundFrame s s := rfl

theorem RoundFrame.trans {s t u : State} (h1 : RoundFrame s t) (h2 : RoundFrame t u) : RoundFrame s u := by
  unfold RoundFrame at h1 h2 ⊢
  rw [h1] at h2
  exact h2

theorem clearRequest_round (f : Frame) (why : EndReason) (s : State) : RoundFrame s (clearRequest f why s) := by
  unfold RoundFrame
  conv_lhs => rw [clearRequest_frame]
  conv_rhs => rw [clearRequest_frame]

/-- GRU's part of LOCKOUT entry changes no more than a round may (R66). -/
theorem releaseGrant_round (f : Frame) (s : State) : RoundFrame s (releaseGrant f s) := by
  have h : RoundFrame s (if (s.request f).isSome then clearRequest f .cleared s else s) := by
    by_cases h1 : (s.request f).isSome = true
    · rw [if_pos h1]; exact clearRequest_round _ _ _
    · rw [if_neg h1]; exact RoundFrame.refl s
  unfold releaseGrant
  simp only []
  generalize (if (s.request f).isSome then clearRequest f .cleared s else s) = t at h ⊢
  split
  · exact h.trans rfl
  · exact h

theorem applyServed_round (f : Frame) (x : Option Run) (s : State) : RoundFrame s (applyServed f x s) := by
  unfold RoundFrame
  conv_lhs => rw [applyServed_frame]
  conv_rhs => rw [applyServed_frame]

theorem deadlockStep_round (s : State) : RoundFrame s (deadlockStep s) := by
  unfold deadlockStep
  split
  · exact (clearRequest_round _ _ _).trans rfl
  · rfl

theorem serviceStep_round (s : State) : RoundFrame s (serviceStep s).1 := by
  unfold serviceStep
  split
  · exact ((applyServed_round _ _ _).trans (applyServed_round _ _ _)).trans rfl
  · exact (applyServed_round _ _ _).trans (applyServed_round _ _ _)

theorem reportBlocked_round (f : Frame) (x : Bool) (s : State) : RoundFrame s (reportBlocked f x s) := by
  unfold reportBlocked
  split <;> rfl

/-- A round changes no tracker, mass, task, transfer, mode or store state (R75 to R81). -/
theorem holdRound_frame (s : State) : RoundFrame s (holdRound s) := by
  unfold holdRound
  exact (((deadlockStep_round s).trans (serviceStep_round _)).trans (reportBlocked_round _ _ _)).trans
    (reportBlocked_round _ _ _)

theorem askRound_frame (s : State) : RoundFrame s (askRound s) := by
  unfold askRound
  split
  · exact holdRound_frame s
  · rfl

/-- In HOLD and LOCKOUT a round that is asked for leaves no trace (R71). -/
theorem askRound_of_ne {s : State} (h : s.mdc.mode ≠ .run) : askRound s = s := by
  simp [askRound, h]

/-! ### Inventory and store (R86 to R92, R175) -/

theorem handOver_frame (r : Region) (items : List Byte) (s : State) :
    handOver r items s = { s with sti := s.sti.handOver r items } := rfl

theorem saveRequest_frame (w : List Waiter) (s : State) :
    saveRequest w s = { s with
      inv := { s.inv with
        save := (saveRequest w s).inv.save
        carriedWaiters := (saveRequest w s).inv.carriedWaiters
        nextWaiters := (saveRequest w s).inv.nextWaiters }
      sti := (saveRequest w s).sti } := by
  unfold saveRequest
  split <;> rfl

/-- The save state after a save request (R92). -/
theorem saveRequest_save (w : List Waiter) (s : State) :
    (saveRequest w s).inv.save = match s.inv.save with
      | .clean => .writing
      | .writing => .writingDirty
      | .writingDirty => .writingDirty
      | .notSaved => .notSaved := by
  unfold saveRequest
  split <;> simp_all [startInventoryWrite]

theorem setVerified_frame (v : Bool) (s : State) :
    setVerified v s = { s with ports := (setVerified v s).ports, inv := { s.inv with verified := v } } := by
  unfold setVerified
  split
  · next h => subst h; rfl
  · rfl

theorem putMass_frame (id : Nat) (r : Mass) (s : State) :
    putMass id r s = { s with inv := { s.inv with
      masses := (putMass id r s).inv.masses
      bays := (putMass id r s).inv.bays
      sRaw := (putMass id r s).inv.sRaw
      storedKJ := (putMass id r s).inv.storedKJ } } := by
  unfold putMass
  split <;> rfl

/-- The record that is put is read back, and every other record stays (R86). -/
theorem putMass_mass (id j : Nat) (r : Mass) (s : State) (h1 : 1 ≤ id) (h2 : id ≤ 40) (hj : 1 ≤ j) :
    (putMass id r s).mass j = if j = id then r else s.mass j := by
  have h0 : id ≠ 0 := by omega
  simp only [putMass, h0, if_false, State.mass, State.setInv, Inv.rebuildBays, Inv.recompute, Bank.getD_set]
  by_cases h : j = id
  · subst h
    have : j - 1 < 40 := by omega
    simp [this]
    intro h; omega
  · have : ¬ j - 1 = id - 1 := by omega
    simp [h, this]

/-- After a record is put, bay contents and the account follow the records (R86, R96). -/
theorem putMass_places (id : Nat) (r : Mass) (s : State) (h : id ≠ 0) :
    (∀ b < 40, ((putMass id r s).bay b).content = bayContent (putMass id r s).inv.masses b) ∧
      (putMass id r s).inv.sRaw = rawSum s.svt.working (putMass id r s).inv.masses ∧
      (putMass id r s).inv.storedKJ = storedOf (putMass id r s).inv.sRaw := by
  refine ⟨fun b hb => ?_, ?_, ?_⟩
  · simp only [putMass, h, if_false, State.bay, State.setInv, Inv.rebuildBays, Inv.recompute, Bank.getD_ofFn, hb,
      if_true]
  · simp only [putMass, h, if_false, State.setInv, Inv.rebuildBays, Inv.recompute]
  · simp only [putMass, h, if_false, State.setInv, Inv.rebuildBays, Inv.recompute]

/-- What an inventory operation may change: ports, INV and STI. -/
def InventoryFrame (s t : State) : Prop :=
  t = { s with ports := t.ports, inv := t.inv, sti := t.sti }

theorem InventoryFrame.trans {s t u : State} (h1 : InventoryFrame s t) (h2 : InventoryFrame t u) :
    InventoryFrame s u := by
  unfold InventoryFrame at h1 h2 ⊢
  rw [h1] at h2
  exact h2

theorem putMass_inventory (id : Nat) (r : Mass) (s : State) : InventoryFrame s (putMass id r s) := by
  unfold putMass InventoryFrame
  split <;> rfl

theorem setVerified_inventory (v : Bool) (s : State) : InventoryFrame s (setVerified v s) := by
  unfold setVerified InventoryFrame
  split <;> rfl

theorem saveRequest_inventory (w : List Waiter) (s : State) : InventoryFrame s (saveRequest w s) := by
  unfold saveRequest InventoryFrame
  split <;> rfl

theorem saveRequestIf_inventory (b : Bool) (s : State) : InventoryFrame s (saveRequestIf b s) := by
  unfold saveRequestIf
  split
  · exact saveRequest_inventory _ _
  · rfl

theorem loseMass_inventory (id : Nat) (s : State) : InventoryFrame s (loseMass id s) :=
  ((putMass_inventory _ _ _).trans (setVerified_inventory _ _)).trans (saveRequest_inventory _ _)

theorem restoreMass_inventory (id : Nat) (p : ReturnPlace) (s : State) : InventoryFrame s (restoreMass id p s) := by
  cases p <;> exact putMass_inventory _ _ _

theorem setLandingInService_inventory (k : Nat) (v : Bool) (s : State) :
    InventoryFrame s (setLandingInService k v s) :=
  InventoryFrame.trans (t := s.setLanding k _) rfl (saveRequestIf_inventory _ _)

theorem setBayInService_inventory (b : Nat) (v : Bool) (s : State) : InventoryFrame s (setBayInService b v s) :=
  InventoryFrame.trans (t := s.setBay b _) rfl (saveRequestIf_inventory _ _)

/-! ### Tasks (R115, R121) -/

/-- What releasing or reserving may change: the reservations of INV (R89). -/
def ReservationFrame (s t : State) : Prop :=
  t = { s with inv := { s.inv with masses := t.inv.masses, bays := t.inv.bays } }

theorem ReservationFrame.trans {s t u : State} (h1 : ReservationFrame s t) (h2 : ReservationFrame t u) :
    ReservationFrame s u := by
  unfold ReservationFrame at h1 h2 ⊢
  rw [h1] at h2
  exact h2

theorem reserveMass_frame (id n : Nat) (s : State) : ReservationFrame s (reserveMass id n s) := by
  unfold reserveMass ReservationFrame
  split <;> rfl

theorem reserveBay_frame (b n : Nat) (s : State) : ReservationFrame s (reserveBay b n s) := by
  unfold reserveBay ReservationFrame
  split <;> rfl

theorem releaseMass_frame (id n : Nat) (s : State) : ReservationFrame s (releaseMass id n s) := by
  unfold releaseMass ReservationFrame
  split <;> rfl

theorem releaseBay_frame (b n : Nat) (s : State) : ReservationFrame s (releaseBay b n s) := by
  unfold releaseBay ReservationFrame
  split <;> rfl

theorem releaseBayOf_frame (b : Option Nat) (n : Nat) (s : State) : ReservationFrame s (releaseBayOf b n s) := by
  cases b
  · rfl
  · exact releaseBay_frame _ _ _

theorem reserveBayOf_frame (b : Option Nat) (n : Nat) (s : State) : ReservationFrame s (reserveBayOf b n s) := by
  cases b
  · rfl
  · exact reserveBay_frame _ _ _

/-- A task's reservations are released, and nothing else changes (R121, step 1). -/
theorem releaseTask_frame (id : Nat) (s : State) : ReservationFrame s (releaseTask id s) :=
  ((releaseMass_frame _ _ _).trans (releaseBayOf_frame _ _ _)).trans (releaseBay_frame _ _ _)

/-- What ending a task may change: ports, the reservations of INV, and TKU (R121). -/
def EndFrame (s t : State) : Prop :=
  t = { s with ports := t.ports, inv := { s.inv with masses := t.inv.masses, bays := t.inv.bays }, tku := t.tku }

theorem EndFrame.trans {s t u : State} (h1 : EndFrame s t) (h2 : EndFrame t u) : EndFrame s u := by
  unfold EndFrame at h1 h2 ⊢
  rw [h1] at h2
  exact h2

theorem ReservationFrame.toEnd {s t : State} (h : ReservationFrame s t) : EndFrame s t := by
  unfold ReservationFrame at h
  unfold EndFrame
  rw [h]

theorem activateHead_frame (f : Frame) (s : State) : EndFrame s (activateHead f s) := by
  unfold activateHead
  split <;> rfl

theorem EndFrame.setTask {s t : State} (h : EndFrame s t) (id : Nat) (x : Task) : EndFrame s (t.setTask id x) :=
  h.trans rfl

theorem EndFrame.setTku {s t : State} (h : EndFrame s t) (x : Tku) : EndFrame s (t.setTku x) :=
  h.trans rfl

theorem EndFrame.raiseOn {s t : State} (h : EndFrame s t) (who : Role → Bool) (e : Event) :
    EndFrame s (t.raiseOn who e) :=
  h.trans rfl

/-- An ending changes ports, reservations and TKU, and nothing else (R121). -/
theorem endTask_frame (id : Nat) (p : Phase) (next : Bool) (s : State) : EndFrame s (endTask id p next s) := by
  unfold endTask
  split
  · rfl
  · have h := (((releaseTask_frame id s).toEnd.setTask id
      (endedRecord (releaseTask id s) ((releaseTask id s).task id) p)))
    simp only []
    generalize (releaseTask id s).setTask id (endedRecord (releaseTask id s) ((releaseTask id s).task id) p) = t at h ⊢
    split
    · refine EndFrame.raiseOn ?_ _ _
      split
      · exact ((h.setTku _).raiseOn _ _).trans (activateHead_frame _ _)
      · exact (h.setTku _).raiseOn _ _
    · exact (h.setTku _).raiseOn _ _

/-- Where the task is live, its id joins the tail of the completion list and leaves its queue; the free list stays
(R121). -/
theorem endTask_collections (id : Nat) (p : Phase) (next : Bool) (s : State) {f : Frame} (h : liveIn s id = some f) :
    (endTask id p next s).tku.completion = s.tku.completion ++ [id] ∧
      (endTask id p next s).tku.queues = s.tku.queues.set f ((s.tku.queues.get f).erase id) ∧
      (endTask id p next s).tku.free = s.tku.free := by
  have hr : (releaseTask id s).tku = s.tku := by
    have := releaseTask_frame id s
    unfold ReservationFrame at this
    rw [this]
  have ha (g : Frame) (u : State) : (activateHead g u).tku.completion = u.tku.completion ∧
      (activateHead g u).tku.queues = u.tku.queues ∧ (activateHead g u).tku.free = u.tku.free := by
    unfold activateHead
    split <;> exact ⟨rfl, rfl, rfl⟩
  unfold endTask
  rw [h]
  simp only []
  split
  · split
    · simp [ha, State.setTask, hr]
    · simp [State.setTask, hr]
  · simp [State.setTask, hr]

end Sys2Proof.Machine
end

