-- ==== Sys2Proof/Laws/Images.lean ====
section
/-! SUPPORT. Little-endian fields and images: what is written reads back. -/

namespace Sys2Proof.Machine

theorem leBytes_length : ∀ w n, (leBytes w n).length = w
  | 0, _ => rfl
  | w + 1, n => by simp [leBytes, leBytes_length w]

/-- A field reads back the number it was written from, where the number fits. -/
theorem leNat_leBytes : ∀ w n, n < 256 ^ w → leNat (leBytes w n) = n
  | 0, n, h => by
    have : n = 0 := by simpa using h
    simp [leBytes, leNat, this]
  | w + 1, n, h => by
    have hd : n / 256 < 256 ^ w := Nat.div_lt_of_lt_mul (by rw [pow_succ] at h; omega)
    have hb : (BitVec.ofNat 8 n).toNat = n % 256 := by simp
    simp only [leBytes, leNat, hb, leNat_leBytes w (n / 256) hd]
    omega

theorem imageBytes_length (r : Region) (g : BitVec 32) (items : List Byte) :
    (imageBytes r g items).length = items.length + 16 := by
  simp [imageBytes, u32, u16, leBytes_length]
  omega

/-- The image of a body of the region's length is a good image, with the generation and the items it was made from
(R174). -/
theorem goodImage_imageBytes (r : Region) (g : BitVec 32) (items : List Byte) (h : items.length + 4 = bodyLength r) :
    goodImage r (imageBytes r g items) = some (g, items) := by
  obtain ⟨sig, hs⟩ : ∃ b, b = u32 (signature r) := ⟨_, rfl⟩
  obtain ⟨ver, hv⟩ : ∃ b, b = u16 Config.formatVersion := ⟨_, rfl⟩
  obtain ⟨len, hl⟩ : ∃ b, b = u16 (bodyLength r) := ⟨_, rfl⟩
  obtain ⟨body, hb⟩ : ∃ b, b = u32 g.toNat ++ items := ⟨_, rfl⟩
  obtain ⟨crc, hc⟩ : ∃ b, b = u32 (crc32 body).toNat := ⟨_, rfl⟩
  have l1 : sig.length = 4 := by rw [hs]; exact leBytes_length 4 _
  have l2 : ver.length = 2 := by rw [hv]; exact leBytes_length 2 _
  have l3 : len.length = 2 := by rw [hl]; exact leBytes_length 2 _
  have l4 : crc.length = 4 := by rw [hc]; exact leBytes_length 4 _
  have lg : (u32 g.toNat).length = 4 := leBytes_length 4 _
  have lb : body.length = bodyLength r := by rw [hb, List.length_append, lg]; omega
  have hi : imageBytes r g items = sig ++ (ver ++ (len ++ (crc ++ body))) := by
    simp only [imageBytes, hs, hv, hl, hc, hb, List.append_assoc]
  have n1 : leNat sig = signature r := by rw [hs]; exact leNat_leBytes 4 _ (by cases r <;> decide)
  have n2 : leNat ver = Config.formatVersion := by rw [hv]; exact leNat_leBytes 2 _ (by decide)
  have n3 : leNat len = bodyLength r := by rw [hl]; exact leNat_leBytes 2 _ (by cases r <;> decide)
  have n4 : leNat crc = (crc32 body).toNat := by
    rw [hc]; exact leNat_leBytes 4 _ (by have := (crc32 body).isLt; omega)
  have n5 : leNat (u32 g.toNat) = g.toNat := leNat_leBytes 4 _ (by have := g.isLt; omega)
  have t1 : (imageBytes r g items).take 4 = sig := by rw [hi]; exact List.take_left' l1
  have t2 : ((imageBytes r g items).drop 4).take 2 = ver := by
    rw [hi, List.drop_left' l1]; exact List.take_left' l2
  have t3 : ((imageBytes r g items).drop 6).take 2 = len := by
    rw [hi, show 6 = 4 + 2 from rfl, ← List.drop_drop, List.drop_left' l1, List.drop_left' l2]; exact List.take_left' l3
  have t4 : ((imageBytes r g items).drop 8).take 4 = crc := by
    rw [hi, show 8 = 4 + (2 + 2) from rfl, ← List.drop_drop, ← List.drop_drop, List.drop_left' l1, List.drop_left' l2,
      List.drop_left' l3]
    exact List.take_left' l4
  have t5 : (imageBytes r g items).drop 12 = body := by
    rw [hi, show 12 = 4 + (2 + (2 + 4)) from rfl, ← List.drop_drop, ← List.drop_drop, ← List.drop_drop,
      List.drop_left' l1, List.drop_left' l2, List.drop_left' l3, List.drop_left' l4]
  have b1 : body.take 4 = u32 g.toNat := by rw [hb]; exact List.take_left' lg
  have b2 : body.drop 4 = items := by rw [hb]; exact List.drop_left' lg
  unfold goodImage
  simp only [t1, t2, t3, t4, t5, n1, n2, n3, n4, b1, b2, n5]
  simp [lb]

/-- One attempt on a slot that finds an image of the region is enough (R177). -/
theorem slotImage_imageBytes (r : Region) (g : BitVec 32) (items : List Byte) (rest : List (List Byte))
    (h : items.length + 4 = bodyLength r) : slotImage r (imageBytes r g items :: rest) = some (g, items) := by
  simp [slotImage, goodImage_imageBytes r g items h]

end Sys2Proof.Machine
end

