-- ==== Sys2Proof/Laws/PerInstr.lean ====
section
/-! SUPPORT. Lemmas proved once per constructor of `Instr`: a request command is written as a payload of the length that
the request table gives (R182). -/

namespace Sys2Proof.Laws.PayloadLength

/-- The payload a well-formed command is written as has the length of its request (R182). -/
def Statement (i : Instr) : Prop :=
  i.WellFormed → ∀ p r payload, encodeRequest i = some (p, r, payload) → payload.length = r.payloadLength

/-- A command whose encoding is known has the statement by the length of that one payload. -/
theorem statement_of_eq {i : Instr} {q : PortId} {t : Req} {bytes : List Byte}
    (he : encodeRequest i = some (q, t, bytes)) (hl : i.WellFormed → bytes.length = t.payloadLength) : Statement i := by
  intro hw p r payload h
  rw [he] at h
  cases h
  exact hl hw

/-- A command that is no request has the statement. -/
theorem statement_of_none {i : Instr} (he : encodeRequest i = none) : Statement i := by
  intro _ p r payload h
  rw [he] at h
  cases h

theorem position (p : PortId) (e : BitVec 32) (v : BitVec 16) (m : BitVec 32) (flags : Byte) :
    Statement (.position p e v m flags) :=
  statement_of_eq rfl (fun _ => rfl)

theorem requestTravel (p : PortId) (target : BitVec 32) :
    Statement (.requestTravel p target) :=
  statement_of_eq rfl (fun _ => rfl)

theorem releaseTravel (p : PortId) : Statement (.releaseTravel p) := statement_of_eq rfl (fun _ => rfl)

theorem readGrant (p : PortId) : Statement (.readGrant p) := statement_of_eq rfl (fun _ => rfl)

theorem readTask (p : PortId) : Statement (.readTask p) := statement_of_eq rfl (fun _ => rfl)

theorem transfer (p : PortId) : Statement (.transfer p) := statement_of_eq rfl (fun _ => rfl)

theorem submitTask (p : PortId) (tag : BitVec 16) (mass bay frame : Byte) :
    Statement (.submitTask p tag mass bay frame) :=
  statement_of_eq rfl (fun _ => rfl)

theorem cancelTask (p : PortId) (id : Byte) : Statement (.cancelTask p id) := statement_of_eq rfl (fun _ => rfl)

theorem redirectTask (p : PortId) (id bay : Byte) :
    Statement (.redirectTask p id bay) :=
  statement_of_eq rfl (fun _ => rfl)

theorem takeCompletion (p : PortId) : Statement (.takeCompletion p) := statement_of_eq rfl (fun _ => rfl)

theorem hold (p : PortId) : Statement (.hold p) := statement_of_eq rfl (fun _ => rfl)

theorem resume (p : PortId) : Statement (.resume p) := statement_of_eq rfl (fun _ => rfl)

theorem lockout (p : PortId) : Statement (.lockout p) := statement_of_eq rfl (fun _ => rfl)

theorem unlock (p : PortId) : Statement (.unlock p) := statement_of_eq rfl (fun _ => rfl)

theorem ackStop (p : PortId) : Statement (.ackStop p) := statement_of_eq rfl (fun _ => rfl)

theorem clearTrip (p : PortId) (frame : Byte) : Statement (.clearTrip p frame) := statement_of_eq rfl (fun _ => rfl)

theorem setTuning (p : PortId) (present : Byte) (vlU : BitVec 16) (legU : Byte) (vlL : BitVec 16) (legL : Byte) (len : Byte) (entries : List Byte) :
    Statement (.setTuning p present vlU legU vlL legL len entries) := by
  refine statement_of_eq rfl (fun hw => ?_)
  have hl : entries.length = 8 := of_decide_eq_true hw
  simp [bytes16, Req.payloadLength, hl]

theorem setSurveyItem (p : PortId) (item index : Byte) (value : BitVec 32) :
    Statement (.setSurveyItem p item index value) :=
  statement_of_eq rfl (fun _ => rfl)

theorem saveSurvey (p : PortId) : Statement (.saveSurvey p) := statement_of_eq rfl (fun _ => rfl)

theorem declareMass (p : PortId) (id : Byte) (nominal : BitVec 16) (kind place1 place2 : Byte) :
    Statement (.declareMass p id nominal kind place1 place2) :=
  statement_of_eq rfl (fun _ => rfl)

theorem confirmInventory (p : PortId) : Statement (.confirmInventory p) := statement_of_eq rfl (fun _ => rfl)

theorem saveInventory (p : PortId) : Statement (.saveInventory p) := statement_of_eq rfl (fun _ => rfl)

theorem setBayService (p : PortId) (bay flag : Byte) :
    Statement (.setBayService p bay flag) :=
  statement_of_eq rfl (fun _ => rfl)

theorem setLandingService (p : PortId) (landing flag : Byte) :
    Statement (.setLandingService p landing flag) :=
  statement_of_eq rfl (fun _ => rfl)

theorem readStatus (p : PortId) : Statement (.readStatus p) := statement_of_eq rfl (fun _ => rfl)

theorem readFrame (p : PortId) (frame : Byte) : Statement (.readFrame p frame) := statement_of_eq rfl (fun _ => rfl)

theorem readMass (p : PortId) (id : Byte) : Statement (.readMass p id) := statement_of_eq rfl (fun _ => rfl)

theorem readBay (p : PortId) (bay : Byte) : Statement (.readBay p bay) := statement_of_eq rfl (fun _ => rfl)

theorem readEnergy (p : PortId) : Statement (.readEnergy p) := statement_of_eq rfl (fun _ => rfl)

theorem readSurveyItem (p : PortId) (item index copy : Byte) :
    Statement (.readSurveyItem p item index copy) :=
  statement_of_eq rfl (fun _ => rfl)

theorem readTaskById (p : PortId) (id : Byte) : Statement (.readTaskById p id) := statement_of_eq rfl (fun _ => rfl)

theorem readEvents (p : PortId) : Statement (.readEvents p) := statement_of_eq rfl (fun _ => rfl)

theorem clearEvents (p : PortId) (flags : BitVec 16) :
    Statement (.clearEvents p flags) :=
  statement_of_eq rfl (fun _ => rfl)

theorem setEventMask (p : PortId) (enables : BitVec 16) :
    Statement (.setEventMask p enables) :=
  statement_of_eq rfl (fun _ => rfl)

theorem unknownRequest (p : PortId) (type : Byte) (payload : List Byte) :
    Statement (.unknownRequest p type payload) :=
  statement_of_none rfl

theorem frameDiscarded (p : PortId) (cause : DiscardCause) :
    Statement (.frameDiscarded p cause) :=
  statement_of_none rfl

theorem gapExpiry (p : PortId) : Statement (.gapExpiry p) := statement_of_none rfl

theorem linkBreak (p : PortId) : Statement (.linkBreak p) := statement_of_none rfl

theorem replySent (p : PortId) : Statement (.replySent p) := statement_of_none rfl

theorem stalenessExpiry (f : Frame) : Statement (.stalenessExpiry f) := statement_of_none rfl

theorem transferTimerExpiry (f : Frame) : Statement (.transferTimerExpiry f) := statement_of_none rfl

theorem stopNAssertion : Statement .stopNAssertion := statement_of_none rfl

theorem stopNRelease : Statement .stopNRelease := statement_of_none rfl

theorem gdoneRising (k : Fin 12) : Statement (.gdoneRising k) := statement_of_none rfl

theorem gfltRising (k : Fin 12) : Statement (.gfltRising k) := statement_of_none rfl

theorem coldReset (strap0 strap1 strap2 strap3 : BitVec 2) (stopAsserted : Bool) :
    Statement (.coldReset strap0 strap1 strap2 strap3 stopAsserted) :=
  statement_of_none rfl

theorem surveyReadEnd (slotA slotB : List (List Byte)) :
    Statement (.surveyReadEnd slotA slotB) :=
  statement_of_none rfl

theorem inventoryReadEnd (slotA slotB : List (List Byte)) :
    Statement (.inventoryReadEnd slotA slotB) :=
  statement_of_none rfl

theorem storeAttemptEnd (readBack : Option (List Byte)) :
    Statement (.storeAttemptEnd readBack) :=
  statement_of_none rfl

theorem linkByteReceived (p : PortId) (b : Byte) : Statement (.linkByteReceived p b) := statement_of_none rfl

theorem linkBreakEnd (p : PortId) : Statement (.linkBreakEnd p) := statement_of_none rfl

end Sys2Proof.Laws.PayloadLength
end

