-- ==== Sys2Proof/Laws/TransferFrames.lean ====
section
/-! SUPPORT. What XFC's operations can change: shaft time, start-up, survey and tuning, the grants and ARB stay, whatever
a report, a save answer, a gear edge, an expiry or the stop notice does to a transfer. -/

namespace Sys2Proof.Machine

/-- What an operation of XFC may change: ports, trackers, INV, TKU, XFC, the mode and STI. -/
def TransferFrame (s t : State) : Prop :=
  t = { s with
    ports := t.ports, ftk := t.ftk, inv := t.inv, tku := t.tku, xfc := t.xfc, sti := t.sti
    mdc := { s.mdc with mode := t.mdc.mode } }

theorem TransferFrame.refl (s : State) : TransferFrame s s := rfl

theorem TransferFrame.trans {s t u : State} (h1 : TransferFrame s t) (h2 : TransferFrame t u) : TransferFrame s u := by
  unfold TransferFrame at h1 h2 ⊢
  rw [h1] at h2
  exact h2

theorem InventoryFrame.toTransfer {s t : State} (h : InventoryFrame s t) : TransferFrame s t := by
  unfold InventoryFrame at h
  unfold TransferFrame
  rw [h]

theorem EndFrame.toTransfer {s t : State} (h : EndFrame s t) : TransferFrame s t := by
  unfold EndFrame at h
  unfold TransferFrame
  rw [h]

theorem TransferFrame.raiseOn {s t : State} (h : TransferFrame s t) (who : Role → Bool) (e : Event) :
    TransferFrame s (t.raiseOn who e) :=
  h.trans rfl

theorem TransferFrame.setTransfer {s t : State} (h : TransferFrame s t) (f : Frame) (x : Option Transfer) :
    TransferFrame s (t.setTransfer f x) :=
  h.trans rfl

theorem trip_transfer (f : Frame) (r : BitVec 16) (s : State) : TransferFrame s (trip f r s) := by
  unfold TransferFrame
  conv_lhs => rw [trip_frame]
  conv_rhs => rw [trip_frame]

/-! ### Tasks of a transfer (R118 to R120, R123) -/

theorem commitTask_frame (id : Nat) (f : Frame) (k : Kind) (s : State) : EndFrame s (commitTask id f k s) := rfl

theorem addTaskReasons_frame (id : Nat) (r : BitVec 16) (s : State) : EndFrame s (addTaskReasons id r s) := rfl

theorem failTask_frame (id : Nat) (c : BitVec 16) (s : State) : EndFrame s (failTask id c s) :=
  EndFrame.trans (addTaskReasons_frame id _ s) (endTask_frame _ _ _ _)

theorem restoreTask_frame (id : Nat) (f : Frame) (s : State) : EndFrame s (restoreTask id f s) := by
  unfold restoreTask
  split
  · simp only []
    have h : EndFrame s ((setPhase id .toPickup s).raiseWinder f .taskChanged) := rfl
    split
    · exact (h.trans (addTaskReasons_frame _ _ _)).trans (endTask_frame _ _ _ _)
    · exact h
  · rfl
  · rfl

theorem returnTask_frame (id : Nat) (f : Frame) (s : State) : EndFrame s (returnTask id f s) := by
  unfold returnTask
  simp only []
  split
  · rfl
  · exact ((releaseBay_frame _ _ _).toEnd.setTask _ _).raiseOn _ _

theorem advanceTask_frame (id : Nat) (f : Frame) (s : State) : EndFrame s (advanceTask id f s) := by
  unfold advanceTask
  split
  · split
    · exact returnTask_frame _ _ _
    · rfl
  · exact endTask_frame _ _ _ _
  · rfl

/-- A location change with its step difference keeps what the change keeps, but for TKU (R97, R118). -/
theorem forTask_transfer {s : State} (id : Nat) (change : State → State) (h : TransferFrame s (change s)) :
    TransferFrame s (forTask id change s) :=
  h.trans rfl

/-! ### Transfers (R137 to R147) -/

theorem clearContext_transfer (f : Frame) (r : TransferResult) (s : State) : TransferFrame s (clearContext f r s) :=
  rfl

theorem endAbandoned_transfer (f : Frame) (b : Bool) (s : State) : TransferFrame s (endAbandoned f b s) := by
  unfold endAbandoned
  split
  · exact (clearContext_transfer _ _ _).raiseOn _ _
  · exact .refl s

theorem endCompleted_transfer (f : Frame) (b : Bool) (s : State) : TransferFrame s (endCompleted f b s) := by
  unfold endCompleted
  split
  · exact ((clearContext_transfer _ _ _).trans (advanceTask_frame _ _ _).toTransfer).raiseOn _ _
  · exact .refl s

theorem tripForCause_transfer (f : Frame) (c : Cause) (s : State) : TransferFrame s (tripForCause f c s) := by
  unfold tripForCause
  split
  · exact trip_transfer _ _ _
  · exact .refl s

theorem endFailed_transfer (f : Frame) (t : Transfer) (c : Cause) (s : State) : TransferFrame s (endFailed f t c s) := by
  unfold endFailed
  exact (((clearContext_transfer f _ s).trans (tripForCause_transfer f c _)).trans
    (failTask_frame _ _ _).toTransfer).raiseOn _ _

theorem setTimedOut_transfer (k : Nat) (v : Bool) (s : State) : TransferFrame s (setTimedOut k v s) := rfl

theorem failRunning_transfer (f : Frame) (c : Cause) (s : State) : TransferFrame s (failRunning f c s) := by
  unfold failRunning
  split
  · next t _ =>
    have h := (forTask_transfer t.task (loseMass t.mass) (loseMass_inventory _ s).toTransfer).trans
      (setLandingInService_inventory t.landing false _).toTransfer
    simp only []
    split
    · exact (h.trans (setTimedOut_transfer _ _ _)).trans (endFailed_transfer _ _ _ _)
    · exact h.trans (endFailed_transfer _ _ _ _)
  · exact .refl s

theorem failVerifying_transfer (f : Frame) (c : Cause) (s : State) : TransferFrame s (failVerifying f c s) := by
  unfold failVerifying
  split
  · exact (forTask_transfer _ _ (loseMass_inventory _ s).toTransfer).trans (endFailed_transfer _ _ _ _)
  · exact .refl s

theorem saveFor_transfer (f : Frame) (c : Change) (told : State → State) (s : State)
    (h : TransferFrame s (told s)) : TransferFrame s (saveFor f c told s) := by
  unfold saveFor
  split
  · exact h
  · exact (saveRequest_inventory _ _).toTransfer

theorem enterAbandoning_transfer (f : Frame) (c : Cause) (s : State) : TransferFrame s (enterAbandoning f c s) := by
  unfold enterAbandoning
  split
  · next t _ =>
    have h : TransferFrame s (s.setTransfer f (some { t with phase := .abandoning, cause := c })) := rfl
    exact ((h.trans (forTask_transfer _ _ (restoreMass_inventory _ _ _).toTransfer)).trans
      (restoreTask_frame _ _ _).toTransfer).trans (saveFor_transfer _ _ _ _ (endAbandoned_transfer _ _ _))
  · exact .refl s

theorem verifiedMass_inventory (f : Frame) (t : Transfer) (s : State) : InventoryFrame s (verifiedMass f t s) := by
  unfold verifiedMass
  split <;> exact putMass_inventory _ _ _

theorem verify_transfer (f : Frame) (r : Report) (s : State) : TransferFrame s (verify f r s) := by
  unfold verify
  split
  · split
    · exact ((forTask_transfer _ _ (verifiedMass_inventory f _ s).toTransfer).setTransfer _ _).trans
        (saveFor_transfer _ _ _ _ (endCompleted_transfer _ _ _))
    · exact failVerifying_transfer _ _ _
  · exact .refl s

theorem brakeReleased_transfer (f : Frame) (x : XPhase) (s : State) : TransferFrame s (brakeReleased f x s) := by
  cases x
  · exact enterAbandoning_transfer _ _ _
  · exact failRunning_transfer _ _ _
  · exact .refl s
  · exact failVerifying_transfer _ _ _
  · exact .refl s

/-- A report that reaches XFC changes no grant and no tuning (R135, R142, R144). -/
theorem reportToTransfer_transfer (f : Frame) (r : Report) (b : Bool) (s : State) :
    TransferFrame s (reportToTransfer f r b s) := by
  unfold reportToTransfer
  split
  · split
    · refine TransferFrame.trans ?_ (brakeReleased_transfer _ _ _)
      unfold askBrakeTrip
      split
      · exact .refl s
      · exact trip_transfer _ _ _
    · split
      · exact verify_transfer _ _ _
      · exact .refl s
  · exact .refl s

theorem saveAnswered_transfer (w : Waiter) (b : Bool) (s : State) : TransferFrame s (saveAnswered w b s) := by
  unfold saveAnswered
  split
  · split
    · unfold commitAnswered
      split
      · rfl
      · exact enterAbandoning_transfer _ _ _
    · exact endAbandoned_transfer _ _ _
    · exact endCompleted_transfer _ _ _
    · exact .refl s
  · exact .refl s

/-- The stop notice changes no grant and no tuning (R146). -/
theorem stopNotice_transfer (f : Frame) (s : State) : TransferFrame s (stopNotice f s) := by
  unfold stopNotice
  split
  · split
    · exact enterAbandoning_transfer _ _ _
    · exact failRunning_transfer _ _ _
    · exact .refl s
  · exact .refl s

theorem unexpectedEdge_transfer (k : Nat) (b : Bool) (s : State) : TransferFrame s (unexpectedEdge k b s) := by
  unfold unexpectedEdge
  simp only []
  refine TransferFrame.raiseOn ?_ _ _
  split
  · split <;> rfl
  · rfl

/-- A rising edge of GDONE_k changes no grant and no tuning (R139, R143). -/
theorem gdoneEdge_transfer (k : Nat) (s : State) : TransferFrame s (gdoneEdge k s) := by
  unfold gdoneEdge
  split
  · unfold gearDone
    split <;> rfl
  · exact unexpectedEdge_transfer _ _ _

/-- A rising edge of GFLT_k changes no grant and no tuning (R140, R143). -/
theorem gfltEdge_transfer (k : Nat) (s : State) : TransferFrame s (gfltEdge k s) := by
  unfold gfltEdge
  split
  · exact failRunning_transfer _ _ _
  · exact unexpectedEdge_transfer _ _ _

end Sys2Proof.Machine
end

