-- ==== Sys2Proof/Tests/Slice0.lean ====
section
/-! SUPPORT. Tests: worked examples of the manual, ill-formed commands refused, payloads read by the layouts, and for
every statement with hypotheses concrete states and operands that meet them. -/

set_option Elab.async false

namespace Sys2Proof.Tests

open Sys2Proof Sys2Proof.Machine

/-! ### Worked examples of the manual -/

/-- The survey of the worked cases of 03_the_stopping_envelope.md, with two landings of two bays each. -/
def demoSurvey : Survey :=
  { Survey.factory with
    sl := 1150000, he := 1150000
    le := Bank.ofFn 12 (fun k => if k = 0 then 10000 else 900000)
    bays := Bank.ofFn 12 (fun _ => 2)
    winder := ⟨{ ab := 1500, tr := 250, vlMax := 16000, k := 18, ovr := 2000, pl := 60000, rto := 200, ptol := 500,
                 defaultVl := 16000, defaultLeg := 8 },
               { ab := 1200, tr := 300, vlMax := 12000, k := 20, ovr := 3000, pl := 60000, rto := 200, ptol := 300,
                 defaultVl := 10000, defaultLeg := 8 }⟩ }

/-- 03, "Frame L descending with a load": zones 69 to 84. -/
theorem test_envelope_descending : envelope demoSurvey .L 412350 (-12000) 30000 = ⟨69, 84⟩ := by decide +kernel

/-- 03, "Frame L near the bottom, clamped": zones 0 to 3. -/
theorem test_envelope_clamped_below : envelope demoSurvey .L 8000 (-6000) 25000 = ⟨0, 3⟩ := by decide +kernel

/-- 03, "Frame U near the top, clamped and capped": zones 223 to 229. -/
theorem test_envelope_capped_above : envelope demoSurvey .U 1120000 10000 0 = ⟨223, 229⟩ := by decide +kernel

/-- 03, "Boundary and creeping cases": zones 7 to 10 at rest and creeping. -/
theorem test_envelope_boundary :
    [0, 15, -15].map (fun v => envelope demoSurvey .L 39000 v 0) = [⟨7, 10⟩, ⟨7, 10⟩, ⟨7, 10⟩] := by decide +kernel

/-- 02, "a lost report and recovery from STALE", reports D and E: zones 98 to 101. -/
theorem test_envelope_of_reports_D_and_E :
    envelope demoSurvey .L 496900 (-2500) 30000 = ⟨98, 101⟩ ∧ envelope demoSurvey .L 496600 0 30000 = ⟨98, 101⟩ := by
  decide +kernel

/-- 03, "A target window": zones 42 to 46. -/
theorem test_target_window : targetWindow demoSurvey .L ⟨220000, .down⟩ 30000 = ⟨42, 46⟩ := by decide +kernel

/-- R162: over the bytes 0x31 to 0x39 the register ends at 0x29B1. -/
theorem test_crc16 : crc16 [0x31, 0x32, 0x33, 0x34, 0x35, 0x36, 0x37, 0x38, 0x39] = 0x29B1 := by decide +kernel

/-- R174: over the bytes 0x31 to 0x39 the CRC-32 is 0xCBF43926. -/
theorem test_crc32 : crc32 [0x31, 0x32, 0x33, 0x34, 0x35, 0x36, 0x37, 0x38, 0x39] = 0xCBF43926 := by decide +kernel

/-! ### Ill-formed commands are refused -/

/-- SET_TUNING carries eight table entries (R182). -/
theorem test_setTuning_needs_eight_entries :
    (Instr.setTuning 0 0 0 0 0 0 0 [0, 1]).wellFormed = false ∧
      (Instr.setTuning 0 0 0 0 0 0 0 [0, 1, 0, 0, 0, 0, 0, 0]).wellFormed = true := by decide

/-- An unknown request's type is not one of R165, and its payload has at most 60 bytes (R161, R166). -/
theorem test_unknownRequest_is_not_listed :
    (Instr.unknownRequest 0 0x28 []).wellFormed = false ∧ (Instr.unknownRequest 0 0x7F []).wellFormed = true ∧
      (Instr.unknownRequest 0 0x7F (List.replicate 61 0)).wellFormed = false := by decide +kernel

/-- A slot is read in one to three attempts (R177). -/
theorem test_slot_reads_are_one_to_three :
    (Instr.surveyReadEnd [] [[]]).wellFormed = false ∧ (Instr.surveyReadEnd [[]] [[]]).wellFormed = true ∧
      (Instr.inventoryReadEnd [[]] [[], [], [], []]).wellFormed = false := by decide

/-! ### States to test on -/

/-- The check of `Admitted` as a Bool. -/
def admitted (s : State) (p : PortId) (r : Req) : Bool :=
  decide ((s.port p).lineLow = false ∧ (s.port p).replies.length < 4 ∧ s.mdc.strapFault = false ∧ s.startUp = .ended ∧
    mayBeSent r (s.port p).role = true ∧ (s.svt.state = .unconfigured → r.admittedUnconfigured = true))

theorem admitted_of {s : State} {p : PortId} {r : Req} (h : admitted s p r = true) : Admitted s p r :=
  let ⟨line, room, straps, started, role, survey⟩ := of_decide_eq_true h
  ⟨line, room, straps, started, role, survey⟩

/-- The check of `PlausibleReport` as a Bool. -/
def plausibleCheck (s : State) (f : Frame) (r : Report) : Bool :=
  decide (r.e + s.svt.working.fh ≤ s.svt.working.sl) &&
    (match s.lastReport f with
      | some last => decide ((r.e - last.e) + (last.e - r.e) ≤
          ((s.svt.tuning.get f).vl * (r.arrival - last.arrival).toNat + 999) / 1000 + (s.svt.working.winder.get f).ptol)
      | none => true)

theorem plausible_iff (s : State) (f : Frame) (r : Report) : plausibleCheck s f r = true ↔ PlausibleReport s f r := by
  unfold plausibleCheck
  constructor
  · intro h
    rw [Bool.and_eq_true] at h
    refine ⟨of_decide_eq_true h.1, fun last hl => ?_⟩
    have h2 := h.2
    rw [hl] at h2
    exact of_decide_eq_true h2
  · intro h
    rw [Bool.and_eq_true]
    refine ⟨decide_eq_true h.range, ?_⟩
    cases hl : s.lastReport f with
    | none => rfl
    | some last => exact decide_eq_true (h.movement last hl)

/-- Start-up has ended in HOLD with the demo survey: LINK0 is dispatch, LINK1 and LINK2 the winders, LINK3 monitor;
mass 1 of 25,000 kg stands in bay 0, every other mass is ABSENT; the frames are UNKNOWN. -/
def base : State :=
  { State.reset with
    startUp := .ended
    ports := ⟨[.dispatch, .winderU, .winderL, .monitor].map PortState.initial, rfl⟩
    svt := { working := demoSurvey, edit := demoSurvey, state := .valid, saveOutstanding := false,
             tuning := demoSurvey.tuning }
    inv := ({ Inv.unreadable with
      masses := Bank.ofFn 40 (fun i =>
        if i = 0 then { Mass.unreadable with state := .stored, nominal := 25000, bay := some 0 }
        else { Mass.unreadable with state := .absent, nominal := 5000 })
      verified := true } : Inv).rebuildBays.recompute demoSurvey
    mdc := { State.reset.mdc with mode := .hold } }

/-- A tracker whose frame stands braked at an elevation. -/
def standingAt (e : Nat) : Tracker :=
  { state := .tracked, last := some ⟨e, 0, 0, true, 0⟩, count := 0, timer := some 200, reasons := 0 }

/-- `base` with U standing at landing 1 and L at landing 0, each granted its envelope. -/
def standing : State :=
  { base with
    ftk := ⟨standingAt 900000, standingAt 10000⟩
    gru := { base.gru with
      grants := ⟨some (envelope demoSurvey .U 900000 0 0), some (envelope demoSurvey .L 10000 0 0)⟩ } }

/-- `standing` in RUN, with its output lines. -/
def running : State :=
  (standing.setMdc { standing.mdc with mode := .run }).drive

/-- A state with frame f's tracker in another tracking state. -/
def tracking (f : Frame) (x : Tracking) (s : State) : State :=
  s.setTracker f { s.tracker f with state := x, reasons := if x = .tripped then 0x0004 else 0 }

/-- A state with one task, number 0, in L's queue: mass 1 from bay 0 to bay 2. -/
def tasked (x : Phase) (s : State) : State :=
  { s with tku := { s.tku with
    tasks := s.tku.tasks.set 0 { Task.blank with mass := 1, source := some 0, dest := 2, frame := .L, phase := x }
    free := (List.range 32).drop 1, queues := ⟨[], [0]⟩ } }

/-- A state in which L's transfer of mass 1 at landing 0 is in a phase. -/
def transferring (x : XPhase) (s : State) : State :=
  s.setTransfer .L (some { phase := x, kind := .load, task := 0, mass := 1, landing := 0, bay := 0, ret := .bay 0
                           expected := 25000, spanLo := 9000, spanHi := 11000, timer := some 60000, cause := .none })

/-- A state with every field of a port changed by a function. -/
def withPort (p : PortId) (g : PortState → PortState) (s : State) : State :=
  s.setPort p (g (s.port p))

/-- A reply to fill a list with. -/
def anyReply : Reply :=
  ⟨0xC2, [0x00], 0⟩

/-- Requests that are admitted, each in its state on its port. -/
def AllAdmitted (l : List (State × PortId × Req)) : Prop :=
  ∀ x ∈ l, Admitted x.1 x.2.1 x.2.2

theorem allAdmitted_of {l : List (State × PortId × Req)}
    (h : l.all (fun x => admitted x.1 x.2.1 x.2.2) = true) : AllAdmitted l :=
  fun x hx => admitted_of (List.all_eq_true.1 h x hx)

theorem pool_of {s : State}
    (h : decide ((s.tku.free ++ s.tku.queues.u ++ s.tku.queues.l ++ s.tku.completion).Perm (List.range 32)) = true) :
    PoolPartitioned s := by
  unfold PoolPartitioned
  exact of_decide_eq_true h

/-- A state in another mode. -/
def inMode (x : Mode) (s : State) : State :=
  s.setMdc { s.mdc with mode := x }

/-- A state with mass n's record changed by a function. -/
def withMass (n : Nat) (g : Mass → Mass) (s : State) : State :=
  putMass n (g (s.mass n)) s

/-- A state in which mass n rides on frame f. -/
def carrying (n : Nat) (f : Frame) (s : State) : State :=
  withMass n (fun x => { x with state := .carried, bay := none, frame := some f, landing := some 0 }) s

/-- A state in another save state of the inventory. -/
def saved (x : SaveState) (s : State) : State :=
  s.setInv { s.inv with save := x }

/-- A state with frame f's last accepted report changed by a function. -/
def reported (f : Frame) (g : Report → Report) (s : State) : State :=
  s.setTracker f { s.tracker f with last := (s.tracker f).last.map g }

/-- L's transfer of mass 1 at landing 0 in a phase, with the mass IN_TRANSFER and task 0 LOADING. -/
def charged (x : XPhase) (s : State) : State :=
  withMass 1 (fun r => { r with state := .inTransfer, frame := some .L }) (transferring x (tasked .loading s))

/-! ### The hypotheses of the statements are met -/

theorem test_witness_IdleStepTakesAnExpiryOrAMillisecond :
    base.pending = [] ∧ dueCommands base = [] ∧
      dueCommands { standing with time := 200 } = [.stalenessExpiry .U, .stalenessExpiry .L] := by decide +kernel

theorem test_witness_RequestsReadBackFromTheirPayloads :
    (Instr.setTuning 0 0x1F 500 2 600 3 2 [0, 1, 0, 0, 0, 0, 0, 0]).WellFormed ∧
      encodeRequest (.setTuning 0 0x1F 500 2 600 3 2 [0, 1, 0, 0, 0, 0, 0, 0]) =
        some (0, .setTuning, [0x1F, 0xF4, 0x01, 2, 0x58, 0x02, 3, 2, 0, 1, 0, 0, 0, 0, 0, 0]) := by decide +kernel

theorem test_witness_BytesOfAFrameActAsTheRequest :
    (Instr.hold 0).WellFormed ∧ encodeRequest (.hold 0) = some (0, .hold, []) ∧ (running.port 0).rx = .hunt := by
  decide +kernel

theorem test_witness_OutputLinesFollowTheirConditions : LinesFollow running ∧ ∃ t, step running = .next t := by
  have hn : ∀ f, running.transfer f = none := by intro f; cases f <;> decide +kernel
  have hl : ∀ k < 12, running.xfc.ldcmd.getD k false = false ∧ running.xfc.ulcmd.getD k false = false := by
    decide +kernel
  refine ⟨⟨fun f => ?_, ?_, fun k hk => ⟨fun h => ?_, fun ⟨f, t, h, _⟩ => ?_⟩,
    fun k hk => ⟨fun h => ?_, fun ⟨f, t, h, _⟩ => ?_⟩, by decide +kernel⟩, _, rfl⟩
  · cases f <;> decide +kernel
  · constructor
    · intro h; exact absurd h (by decide +kernel)
    · rintro (h | h | ⟨f, h⟩)
      · exact absurd h (by decide +kernel)
      · exact absurd h (by decide +kernel)
      · cases f <;> exact absurd h (by decide +kernel)
  · rw [(hl k hk).1] at h; cases h
  · rw [hn f] at h; cases h
  · rw [(hl k hk).2] at h; cases h
  · rw [hn f] at h; cases h

theorem test_witness_TaskPoolStaysPartitioned :
    PoolPartitioned (tasked .toPickup running) ∧ ∃ t, step (tasked .toPickup running) = .next t :=
  ⟨by unfold PoolPartitioned; decide +kernel, _, rfl⟩

theorem test_witness_GrantsStayApart : GrantsApart running ∧ ∃ t, step running = .next t := by
  have hu : running.grant .U = some ⟨179, 182⟩ := by decide +kernel
  have hl : running.grant .L = some ⟨1, 4⟩ := by decide +kernel
  refine ⟨⟨fun f g h => ?_, fun u l h1 h2 => ?_, fun f h => ?_⟩, _, rfl⟩
  · cases f
    · rw [hu] at h; cases h; decide
    · rw [hl] at h; cases h; decide
  · rw [hu] at h1; rw [hl] at h2; cases h1; cases h2; decide
  · cases f <;> exact absurd h (by decide +kernel)

theorem test_witness_ServicePointerStaysInItsTable : PointerInTable running ∧ ∃ t, step running = .next t := by
  have hp : running.arb.pendingTable = none := by decide +kernel
  refine ⟨⟨by unfold tableSized; decide +kernel, by decide +kernel, fun t h => ?_, by unfold tableSized; decide +kernel,
    by unfold tableSized; decide +kernel⟩, _, rfl⟩
  rw [hp] at h; cases h

/-- `running` while L's transfer commits: its mass is in its charge, and the other records keep their places. -/
theorem placesHeldOnce_of_committing : PlacesHeldOnce (charged .committing running) := by
  have hp : ∀ i ∈ massIds, ∀ j ∈ massIds,
      ((charged .committing running).mass i).namedBay = ((charged .committing running).mass j).namedBay →
        ((charged .committing running).mass i).namedBay = none ∨ i = j := by decide +kernel
  have hf : ∀ i ∈ massIds, ∀ j ∈ massIds,
      ((charged .committing running).mass i).namedFrame = ((charged .committing running).mass j).namedFrame →
        ((charged .committing running).mass i).namedFrame = none ∨ i = j := by decide +kernel
  have hl : (charged .committing running).transfer .L = some
      { phase := .committing, kind := .load, task := 0, mass := 1, landing := 0, bay := 0, ret := .bay 0
        expected := 25000, spanLo := 9000, spanHi := 11000, timer := some 60000, cause := .none } := by decide +kernel
  refine ⟨fun i hi j hj b h1 h2 => ?_, fun i hi j hj f h1 h2 => ?_, fun f t h _ _ => ?_, fun f => ?_, by decide +kernel,
    fun h => absurd h (by decide +kernel), by decide +kernel⟩
  · rcases hp i hi j hj (h1.trans h2.symm) with h | h
    · rw [h] at h1; cases h1
    · exact h
  · rcases hf i hi j hj (h1.trans h2.symm) with h | h
    · rw [h] at h1; cases h1
    · exact h
  · cases f with
    | U => exact absurd (show (charged .committing running).transfer .U = none by decide +kernel) (by rw [h]; simp)
    | L => rw [hl] at h; cases h; exact ⟨by decide, by decide +kernel, rfl⟩
  · cases f <;> decide +kernel

theorem test_witness_BaysAndStoredEnergyFollowTheMassRecords :
    (PlacesFollow running ∧ AccountFollows running) ∧ (∃ t, step running = .next t) ∧
      (PlacesHeldOnce (charged .committing running) ∧ PlacesFollow (charged .committing running) ∧
        PoolPartitioned (charged .committing running) ∧ LockoutIsQuiet (charged .committing running)) ∧
      ∃ t, step (charged .committing running) = .next t :=
  ⟨⟨by unfold PlacesFollow; decide +kernel, by unfold AccountFollows; decide +kernel⟩, ⟨_, rfl⟩,
    ⟨placesHeldOnce_of_committing, by unfold PlacesFollow; decide +kernel, pool_of (by decide +kernel),
      fun h => absurd (show (charged .committing running).startUp = .ended by decide +kernel) h,
      fun h => absurd h (by decide +kernel)⟩, _, rfl⟩

theorem test_witness_PortsStayWithinTheirBounds : PortsBounded running ∧ ∃ t, step running = .next t :=
  ⟨by unfold PortsBounded; decide +kernel, _, rfl⟩

theorem test_witness_RunStaysClearAndTripsHaveReasons :
    TripsHaveReasons running ∧ RunIsClear running ∧ running.mdc.mode = .run ∧ ∃ t, step running = .next t := by
  refine ⟨fun f => by cases f <;> decide +kernel, fun _ => ⟨by decide +kernel, by decide +kernel, by decide +kernel,
    by decide +kernel, fun f => by cases f <;> decide +kernel⟩, by decide +kernel, _, rfl⟩

theorem test_witness_LockoutStaysQuiet :
    LockoutIsQuiet (base.setMdc { base.mdc with mode := .lockout }) ∧
      ∃ t, step (base.setMdc { base.mdc with mode := .lockout }) = .next t :=
  ⟨⟨fun _ => rfl, fun _ f => by cases f <;> exact ⟨rfl, rfl, rfl, rfl, rfl⟩⟩, _, rfl⟩

/-- The next state of a command, for the tests. -/
def nextOf (c : Instr) (s : State) : State :=
  match exec c s with
  | .next t => t
  | .fault _ => s
  | .refused _ => s

theorem test_witness_OnlyTheirCommandsChangeClockModeAndSurvey :
    ([.coldReset 1 2 3 0 true, .coldReset 0 0 0 0 true, .resume 0, .ackStop 0, .setEventMask 0 1] : List Instr).all
        Instr.wellFormed = true ∧
      (∃ t, exec (.coldReset 1 2 3 0 true) { running with time := 7 } = .next t) ∧
      (nextOf (.coldReset 1 2 3 0 true) { running with time := 7 }).time ≠ 7 ∧
      (nextOf (.coldReset 0 0 0 0 true) running).mdc.strapFault ≠ running.mdc.strapFault ∧
      ((nextOf (.coldReset 0 0 0 0 true) running).port 1).role ≠ (running.port 1).role ∧
      (nextOf (.coldReset 1 2 3 0 true) running).startUp ≠ running.startUp ∧
      (nextOf (.coldReset 1 2 3 0 true) running).svt.working ≠ running.svt.working ∧
      (nextOf (.coldReset 1 2 3 0 true) running).svt.edit ≠ running.svt.edit ∧
      standing.mdc.mode ≠ .run ∧ (nextOf (.resume 0) standing).mdc.mode = .run ∧
      (nextOf (.ackStop 0) (base.setMdc { base.mdc with latch := true })).mdc.latch = false ∧
      ((nextOf (.setEventMask 0 1) running).port 0).mask ≠ (running.port 0).mask := by
  refine ⟨by decide, ⟨_, rfl⟩, ?_⟩
  decide +kernel

/-- A port that waits for the last CRC byte of HOLD with a payload of one byte, where the table gives it none. -/
def wrongLength (p : PortId) : State :=
  withPort p (fun x => { x with rx := .check 0x28 [0x01] (some ((crc16 [0x28, 0x01, 0x01]).setWidth 8)) 0 }) base

/-- The unknown type, and the wrong length on the port that may send HOLD and on one that may not. -/
theorem test_witness_ConditionsOfR166AnswerBeforeTheBlock :
    (base.port 0).lineLow = false ∧ (base.port 0).replies.length < 4 ∧
      encodeRequest (.hold 0) = some (0, .hold, []) ∧ encodeRequest (.hold 1) = some (1, .hold, []) ∧
      (base.setMdc { base.mdc with strapFault := true }).mdc.strapFault = true ∧
      base.mdc.strapFault = false ∧ base.startUp = .ended ∧ State.reset.startUp ≠ .ended ∧
      mayBeSent .hold (base.port 1).role = false ∧ mayBeSent .hold (base.port 0).role = true ∧
      Req.admittedUnconfigured .hold = false ∧
      (base.setSvt { base.svt with state := .unconfigured }).svt.state = .unconfigured ∧
      (0x7F : Byte) ∉ Req.list.map Req.typeByte ∧
      (∀ p ∈ [0, 1], let s := wrongLength p
        (s.port p).lineLow = false ∧ (s.port p).replies.length < 4 ∧
        (s.port p).rx = .check Req.hold.typeByte [0x01] (some ((crc16 [0x28, 0x01, 0x01]).setWidth 8)) 0 ∧
        s.mdc.strapFault = false ∧ s.startUp = .ended) ∧
      (crc16 [0x28, 0x01, 0x01]).extractLsb' 8 8 ++ (crc16 [0x28, 0x01, 0x01]).setWidth 8 =
        crc16 (Req.hold.typeByte :: BitVec.ofNat 8 [(0x01 : Byte)].length :: [0x01]) ∧
      [(0x01 : Byte)].length ≠ Req.hold.payloadLength := by decide +kernel

theorem test_witness_AFullReplyListDiscardsTheRequest :
    encodeRequest (.hold 0) = some (0, .hold, []) ∧
      ((withPort 0 (fun x => { x with lineLow := true }) base).port 0).lineLow = true ∧
      4 ≤ ((withPort 0 (fun x => { x with replies := List.replicate 4 anyReply }) base).port 0).replies.length := by
  decide +kernel

/-- The gap limit at its boundary: 6 ms is past it, 5 ms is not. -/
theorem test_witness_DiscardsAreCountedOnTheirPort :
    (base.port 0).lineLow = false ∧
      ((withPort 0 (fun x => { x with replies := List.replicate 4 anyReply }) base).port 0).replies.length = 4 ∧
      ((withPort 0 (fun x => { x with rx := .type 0 }) base).port 0).rx.lastByte = some 0 ∧
      5 < ((6 : BitVec 32) - 0).toNat ∧ ((6 : BitVec 32) - 0).toNat < 2147483648 ∧ ((5 : BitVec 32) - 0).toNat ≤ 5 ∧
      (base.port 0).rx = .hunt := by decide +kernel

theorem test_witness_ALinkBreakClearsItsPortAndSentRepliesLeave :
    (base.port 0).lineLow = false ∧ ((withPort 0 (fun x => { x with lineLow := true }) base).port 0).lineLow = true := by
  decide +kernel

theorem test_witness_BytesMoveTheReceiveState :
    (base.port 0).lineLow = false ∧ (base.port 0).rx = .hunt ∧
      [Rx.type 0, .length 0x28 0, .payload 0x28 [] 2 0, .payload 0x28 [] 1 0, .check 0x28 [] none 0,
          .check 0x28 [] (some 0) 0].map (fun rx => ((withPort 0 (fun x => { x with rx := rx }) base).port 0).rx) =
        [Rx.type 0, .length 0x28 0, .payload 0x28 [] 2 0, .payload 0x28 [] 1 0, .check 0x28 [] none 0,
          .check 0x28 [] (some 0) 0] ∧
      (60 : Byte).toNat ≤ 60 ∧ 60 < (61 : Byte).toNat ∧ (0 : Byte) ++ (0 : Byte) ≠ crc16 [0x28, 0] := by decide +kernel

theorem test_witness_EventRequestsActOnTheirPort :
    AllAdmitted [(base, 0, .readEvents), (base, 0, .setEventMask), (base, 0, .clearEvents)] ∧
      (0x3F0F : BitVec 16) &&& ~~~(roleFlags (base.port 0).role) = 0 ∧
      (0x4000 : BitVec 16) &&& ~~~(roleFlags (base.port 0).role) ≠ 0 :=
  ⟨allAdmitted_of (by decide +kernel), by decide +kernel⟩

/-! Reads -/

theorem test_witness_ReadFrameReportsTheTracker :
    Admitted standing 3 .readFrame ∧ (1 : Byte).toNat = frameCode .L ∧ 2 ≤ (2 : Byte).toNat :=
  ⟨admitted_of (by decide +kernel), by decide⟩

theorem test_witness_InventoryReadsReportTheRecords :
    AllAdmitted [(base, 3, .readMass), (base, 3, .readBay), (base, 3, .readEnergy)] ∧ 1 ≤ (1 : Byte).toNat ∧
      (40 : Byte).toNat ≤ 40 ∧ 40 < (41 : Byte).toNat ∧ base.svt.working.bayIdentity (3 : Byte).toNat = some (1, 1) ∧
      base.svt.working.nb ≤ (4 : Byte).toNat :=
  ⟨allAdmitted_of (by decide +kernel), by decide +kernel⟩

theorem test_witness_ReadGrantReportsGrantRequestAndDemand :
    Admitted running 2 .readGrant ∧ (running.port 2).role = winderRole .L :=
  ⟨admitted_of (by decide +kernel), by decide +kernel⟩

/-- A head that goes to its source and one that goes to its destination; a record in each collection. -/
theorem test_witness_TaskReadsReportTheRecords :
    let up := tasked .toPickup running
    let down := tasked .toDrop running
    let inU : State := { base with tku := { base.tku with queues := ⟨[0], []⟩ } }
    let ended : State := { base with tku := { base.tku with completion := [0] } }
    AllAdmitted [(running, 1, .readTask), (up, 2, .readTask), (down, 2, .readTask), (up, 3, .readTaskById),
        (inU, 3, .readTaskById), (ended, 3, .readTaskById)] ∧
      (running.port 1).role = winderRole .U ∧ running.tku.queues.get .U = [] ∧
      (∀ s ∈ [up, down], (s.port 2).role = winderRole .L ∧ s.tku.queues.get .L = 0 :: [] ∧
        (s.task 0).source = some 0 ∧ (s.task 0).dest = 2) ∧
      (up.task 0).phase = .toPickup ∧ up.svt.working.landingOf 0 = some 0 ∧
      (down.task 0).phase = .toDrop ∧ down.svt.working.landingOf 2 = some 1 ∧
      32 ≤ (32 : Byte).toNat ∧ (31 : Byte).toNat < 32 ∧ (31 : Byte).toNat ∉ up.tku.queues.u ∧
      (31 : Byte).toNat ∉ up.tku.queues.l ∧ (31 : Byte).toNat ∉ up.tku.completion ∧
      (0 : Byte).toNat ∈ inU.tku.queues.u ∧ (0 : Byte).toNat ∉ up.tku.queues.u ∧ (0 : Byte).toNat ∈ up.tku.queues.l ∧
      (0 : Byte).toNat ∉ ended.tku.queues.u ∧ (0 : Byte).toNat ∉ ended.tku.queues.l ∧
      (0 : Byte).toNat ∈ ended.tku.completion :=
  ⟨allAdmitted_of (by decide +kernel), by decide +kernel⟩

theorem test_witness_ReadStatusReportsThePart : Admitted (transferring .committing running) 0 .readStatus :=
  admitted_of (by decide +kernel)

/-- Each index at the ends of its range, with a pending table of two entries and with none. -/
theorem test_witness_ReadSurveyItemReportsTheCopyNamed :
    let pending : State := base.setArb { base.arb with pendingTable := some [.L, .U] }
    AllAdmitted [(base, 3, .readSurveyItem), (pending, 3, .readSurveyItem)] ∧
      itemIndices (0x10 : Byte).toNat = some 12 ∧ (11 : Byte).toNat < 12 ∧ 12 ≤ (12 : Byte).toNat ∧
      itemIndices (0x12 : Byte).toNat = none ∧ 4 ≤ (4 : Byte).toNat ∧ (0 : Byte).toNat = frameCode .U ∧
      (1 : Byte).toNat = frameCode .L ∧ 2 ≤ (2 : Byte).toNat ∧ (1 : Byte) ≠ 0 ∧
      (1 : Byte).toNat < base.arb.table.length ∧ base.arb.table.length ≤ (2 : Byte).toNat ∧
      pending.arb.pendingTable = some [.L, .U] ∧ (1 : Byte).toNat < [Frame.L, .U].length ∧
      [Frame.L, .U].length ≤ (2 : Byte).toNat ∧ base.arb.pendingTable = none ∧ (7 : Byte).toNat < 8 ∧
      8 ≤ (8 : Byte).toNat ∧ (0x10 : Byte) ∉ ([0x28, 0x29, 0x30, 0x31] : List Byte) :=
  ⟨allAdmitted_of (by decide +kernel), by decide +kernel⟩

/-! Modes and the stop chain -/

theorem test_witness_HoldAndUnlockBringTheShaftToHold :
    let out := inMode .lockout base
    AllAdmitted [(running, 0, .hold), (base, 0, .hold), (out, 0, .hold), (out, 0, .unlock)] ∧
      running.mdc.mode = .run ∧ base.mdc.mode = .hold ∧ out.mdc.mode = .lockout ∧ out.svt.saveOutstanding = false ∧
      out.svt.state = .valid :=
  ⟨allAdmitted_of (by decide +kernel), by decide +kernel⟩

theorem test_witness_ResumeReturnsTheShaftToRun :
    Admitted standing 0 .resume ∧ standing.mdc.mode = .hold ∧ standing.mdc.stopN = false ∧
      standing.mdc.latch = false ∧ standing.inv.verified = true ∧ standing.inv.save ≠ .notSaved ∧
      (standing.tracker .U).state = .tracked ∧ (standing.tracker .L).state = .tracked ∧ standing.transfer .U = none :=
  ⟨admitted_of (by decide +kernel), by decide +kernel⟩

theorem test_witness_LockoutTakesTheShaftOutOfService :
    let s := tasked .toPickup standing
    let x := transferring .committing standing
    AllAdmitted [(s, 0, .lockout), (x, 0, .lockout)] ∧ PoolPartitioned s ∧ s.mdc.mode = .hold ∧
      s.transfer .U = none ∧ s.transfer .L = none ∧ 0 ∈ s.tku.queues.get .L ∧ x.transfer .U = none ∧
      x.transfer .L ≠ none :=
  ⟨allAdmitted_of (by decide +kernel), pool_of (by decide +kernel), by decide +kernel⟩

theorem test_witness_StopsAreReleasedAndAcknowledged :
    let s := base.setMdc { base.mdc with stopN := true, latch := true }
    AllAdmitted [(base, 0, .ackStop), (s, 0, .ackStop)] ∧ base.mdc.stopN = false ∧ s.mdc.stopN = true :=
  ⟨allAdmitted_of (by decide +kernel), by decide +kernel⟩

/-- A commit that loads with its save in flight and one that has failed, with a cancel pending, and one that unloads. -/
theorem test_witness_AStopHoldsTheShaft :
    let c := charged .committing running
    let cancelled := c.setTask 0 { c.task 0 with cancelPending := true }
    let unloading : State := (c.setTask 0 { c.task 0 with phase := .unloading }).setTransfer .L
      ((c.transfer .L).map (fun x => { x with kind := .unload, ret := .frame .L 0 }))
    let gear := charged .gearRunning running
    running.mdc.stopN = false ∧ (base.setMdc { base.mdc with stopN := true }).mdc.stopN = true ∧
      (running.transfer .U = none ∧ running.transfer .L = none) ∧
      (∀ s ∈ [c, saved .notSaved c, cancelled, unloading], s.mdc.stopN = false ∧ s.transfer .U = none ∧
        (s.transfer .L).map (fun x => (x.phase, x.mass, x.task)) = some (.committing, 1, 0) ∧
        0 ∈ s.tku.queues.get .L) ∧
      (c.inv.save ≠ .notSaved ∧ (saved .notSaved c).inv.save = .notSaved) ∧
      ((c.task 0).phase = .loading ∧ (c.task 0).cancelPending = false ∧ (cancelled.task 0).phase = .loading ∧
        (cancelled.task 0).cancelPending = true ∧ (unloading.task 0).phase = .unloading) ∧
      ((c.transfer .L).map (·.ret) = some (.bay 0) ∧ (unloading.transfer .L).map (·.ret) = some (.frame .L 0)) ∧
      gear.mdc.stopN = false ∧ (gear.transfer .L).map (·.phase) = some .gearRunning := by decide +kernel

/-- The pool of those states is whole. -/
theorem test_witness_AStopHoldsTheShaft_pool : PoolPartitioned (charged .committing running) :=
  pool_of (by decide +kernel)

/-- A grant of L that takes a zone of U's envelope, 179 to 182, and one that lies above it. -/
theorem test_witness_ClearTripReturnsTheFrameToService :
    let s := tracking .U .tripped standing
    AllAdmitted ([s, base, standing, inMode .run s, tracking .U .stale standing].map (fun x => (x, 0, .clearTrip))) ∧
      ((0 : Byte).toNat = frameCode .U ∧ 2 ≤ (2 : Byte).toNat ∧ s.mdc.mode = .hold ∧
        (s.tracker .U).state = .tripped ∧ s.transfer .U = none ∧ (s.tracker .U).timer ≠ none ∧
        s.lastReport .U = some ⟨900000, 0, 0, true, 0⟩ ∧
        (∀ id ∈ massIds, (s.mass id).state ≠ .unaccounted ∧
          ¬ ((s.mass id).state = .inTransfer ∧ (s.mass id).frame = some .U)) ∧
        envelope demoSurvey .U 900000 0 0 = ⟨179, 182⟩ ∧ s.grant .L = some ⟨1, 4⟩) ∧
      ((inMode .run s).mdc.mode = .run ∧ (base.tracker .U).state = .unknown ∧ (standing.tracker .U).state = .tracked ∧
        ((tracking .U .stale standing).tracker .U).state = .stale ∧
        ((transferring .committing (tracking .L .tripped standing)).transfer .L ≠ none) ∧
        ((transferring .committing (tracking .L .tripped standing)).tracker .L).state = .tripped) ∧
      ((s.setTracker .U { s.tracker .U with timer := none }).tracker .U).timer = none ∧
      (s.setTracker .U { s.tracker .U with last := none }).lastReport .U = none ∧
      ((reported .U (fun r => { r with v := 21 }) s).lastReport .U).map (·.v.natAbs) = some 21 ∧
      ((reported .U (fun r => { r with m := 60001 }) s).lastReport .U).map (·.m) = some 60001 ∧
      (s.svt.working.winder.get .U).pl = 60000 ∧
      ((withMass 40 (fun x => { x with state := .unaccounted }) s).mass 40).state = .unaccounted ∧
      (let x := (withMass 40 (fun x => { x with state := .inTransfer, frame := some .U }) s).mass 40
       x.state = .inTransfer ∧ x.frame = some .U) ∧
      zoneOwner ((s.setGrant .U (some ⟨180, 182⟩)).setGrant .L (some ⟨170, 179⟩)) 179 = some .L ∧
      (s.setGrant .L (some ⟨190, 195⟩)).grant .L = some ⟨190, 195⟩ :=
  ⟨allAdmitted_of (by decide +kernel), by decide +kernel⟩

/-! Reports and grants -/

/-- The report of a frame standing braked at an elevation, as a POSITION with v = 0 and m = 0 delivers it at time 0. -/
def standingReport (e : BitVec 32) : Report :=
  ⟨e.toNat, (0 : BitVec 16).toInt, (0 : BitVec 32).toInt.toNat, (1 : Byte).getLsbD 0, 0⟩

/-- `running` with a wider grant for U, so that a report frees zones. -/
def wide : State :=
  running.setGrant .U (some ⟨170, 190⟩)

theorem test_witness_AContainedReportCutsTheGrantToItsEnvelope :
    Admitted wide 1 .position ∧ PlausibleReport wide .U (standingReport 900000) ∧
      (wide.port 1).role = winderRole .U ∧ wide.mdc.mode ≠ .lockout ∧ (wide.tracker .U).state = .tracked ∧
      wide.request .U = none ∧ wide.transfer .U = none ∧ wide.grant .U = some ⟨170, 190⟩ ∧
      envelope wide.svt.working .U 900000 0 0 = ⟨179, 182⟩ :=
  ⟨admitted_of (by decide +kernel), (plausible_iff _ _ _).1 (by decide +kernel), by decide +kernel⟩

/-- The frame 100,000 mm from its target, and at it. -/
theorem test_witness_AReportUnderWayTrimsOrEndsTheRequest :
    (∀ t ∈ [800000, 900050], let s := wide.setRequest .U (some ⟨t, .down⟩)
      admitted s 1 .position = true ∧ (s.port 1).role = winderRole .U ∧ s.mdc.mode ≠ .lockout ∧
      (s.tracker .U).state = .tracked ∧ s.request .U = some ⟨t, .down⟩ ∧ s.transfer .U = none ∧
      s.grant .U = some ⟨170, 190⟩ ∧ plausibleCheck s .U (standingReport 900000) = true) ∧
      envelope wide.svt.working .U 900000 0 0 = ⟨179, 182⟩ ∧ 900050 - 900000 ≤ wide.svt.working.lvt := by
  decide +kernel

/-- A load of 60,001 kg, above PL. -/
theorem test_witness_ReasonsNotedByAReportTripTheFrame :
    Admitted running 1 .position ∧
      PlausibleReport running .U ⟨900000, 0, (60001 : BitVec 32).toInt.toNat, true, 0⟩ ∧
      (running.port 1).role = winderRole .U ∧ running.mdc.mode ≠ .lockout ∧ (running.tracker .U).state = .tracked ∧
      running.transfer .U = none ∧ (running.svt.working.winder.get .U).pl < (60001 : BitVec 32).toInt.toNat :=
  ⟨admitted_of (by decide +kernel), (plausible_iff _ _ _).1 (by decide +kernel), by decide +kernel⟩

/-- An elevation of 0 for the frame that stood at 900,000, with 1 and with 2 rejections before it. -/
theorem test_witness_ImplausibleReportsAreCountedAndTheThirdTrips :
    (∀ c ∈ [1, 2], let s := running.setTracker .U { running.tracker .U with count := c }
      admitted s 1 .position = true ∧ (s.port 1).role = winderRole .U ∧ s.mdc.mode ≠ .lockout ∧
      (s.tracker .U).state = .tracked ∧ (s.tracker .U).count = c) ∧
      AllAdmitted [(inMode .lockout base, 1, .position), (tracking .U .tripped standing, 1, .position)] ∧
      ((tracking .U .tripped standing).tracker .U).state = .tripped ∧
      ¬ PlausibleReport running .U (standingReport 0) ∧
      ¬ PlausibleReport (tracking .U .tripped standing) .U (standingReport 0) :=
  ⟨by decide +kernel, allAdmitted_of (by decide +kernel), by decide +kernel,
    fun h => absurd ((plausible_iff _ _ _).2 h) (by decide +kernel),
    fun h => absurd ((plausible_iff _ _ _).2 h) (by decide +kernel)⟩

/-- The highest elevation within the shaft, one above it, an envelope that L holds a zone of, and an overload. -/
theorem test_witness_TheFirstReportAcquiresTheFrame :
    (Admitted base 1 .position ∧ (base.port 1).role = winderRole .U ∧ base.mdc.mode ≠ .lockout ∧
      (base.tracker .U).state = .unknown ∧ 1141000 + base.svt.working.fh ≤ base.svt.working.sl ∧
      base.svt.working.sl < 1141001 + base.svt.working.fh ∧
      (base.svt.working.winder.get .U).pl < (60001 : BitVec 32).toInt.toNat) ∧
      ((∀ z, (envelope base.svt.working .U 1141000 0 0).lo ≤ z → z ≤ (envelope base.svt.working .U 1141000 0 0).hi →
        zoneOwner base z = none) ∧ OnOwnSide base .U (envelope base.svt.working .U 1141000 0 0)) ∧
      ¬ ((∀ z, (envelope base.svt.working .U 15000 0 0).lo ≤ z → z ≤ (envelope base.svt.working .U 15000 0 0).hi →
        zoneOwner (base.setGrant .L (some ⟨1, 4⟩)) z = none) ∧
        OnOwnSide (base.setGrant .L (some ⟨1, 4⟩)) .U (envelope base.svt.working .U 15000 0 0)) := by
  have hn : base.grant .U = none ∧ base.grant .L = none := by decide +kernel
  refine ⟨⟨admitted_of (by decide +kernel), by decide +kernel⟩, ⟨fun z _ _ => ?_, fun g h => ?_⟩, fun h => ?_⟩
  · simp [zoneOwner, hn.1, hn.2, grantHas]
  · exact absurd (hn.2 ▸ h : none = some g) (by simp)
  · exact absurd (h.1 4 (by decide +kernel) (by decide +kernel)) (by decide +kernel)

/-- A STALE frame with and without a request, 100,000 mm and 50 mm from its target. -/
theorem test_witness_AStaleFrameReturnsByAReportAtRest :
    (standing.tracker .U).timer = some 200 ∧ ((200 : BitVec 32) - 200).toNat < 2147483648 ∧
      2147483648 ≤ ((199 : BitVec 32) - 200).toNat ∧ (standing.tracker .U).state = .tracked ∧
      ((tracking .U .stale standing).tracker .U).state ≠ .tracked ∧ (base.tracker .U).timer = none ∧
      (let s := tracking .U .stale wide
       admitted s 1 .position = true ∧ (s.port 1).role = winderRole .U ∧ s.mdc.mode ≠ .lockout ∧
        (s.tracker .U).state = .stale ∧ s.request .U = none ∧ s.transfer .U = none ∧ s.grant .U = some ⟨170, 190⟩ ∧
        plausibleCheck s .U (standingReport 900000) = true ∧
        plausibleCheck s .U ⟨900000, (21 : BitVec 16).toInt, 0, true, 0⟩ = true) ∧
      (∀ t ∈ [800000, 900050], let s := (tracking .U .stale wide).setRequest .U (some ⟨t, .down⟩)
       admitted s 1 .position = true ∧ s.request .U = some ⟨t, .down⟩ ∧ (s.tracker .U).state = .stale ∧
        s.transfer .U = none ∧ s.grant .U = some ⟨170, 190⟩ ∧ plausibleCheck s .U (standingReport 900000) = true) ∧
      900050 - 900000 ≤ wide.svt.working.lvt ∧
      envelope wide.svt.working .U 900000 0 0 = ⟨179, 182⟩ ∧
      envelope wide.svt.working .U 900000 (21 : BitVec 16).toInt 0 = ⟨179, 182⟩ ∧
      20 < (21 : BitVec 16).toInt.natAbs := by decide +kernel

/-- Boundaries: one more than LVT from the frame, and the highest target of the shaft. -/
theorem test_witness_RequestTravelPlacesTheRequest :
    AllAdmitted [(wide, 1, .requestTravel), (inMode .lockout base, 1, .requestTravel), (base, 1, .requestTravel)] ∧
      (wide.port 1).role = winderRole .U ∧ wide.mdc.mode ≠ .lockout ∧ (wide.tracker .U).state = .tracked ∧
      wide.lastReport .U = some (standingReport 900000) ∧ wide.grant .U = some ⟨170, 190⟩ ∧
      envelope wide.svt.working .U 900000 0 0 = ⟨179, 182⟩ ∧
      ¬ wide.svt.working.sl < (1141000 : BitVec 32).toNat + wide.svt.working.fh ∧
      ¬ ((900051 : BitVec 32).toNat - 900000) + (900000 - (900051 : BitVec 32).toNat) ≤ wide.svt.working.lvt ∧
      wide.transfer .U = none ∧ wide.request .U = none ∧
      (wide.setRequest .U (some ⟨800000, .down⟩)).request .U = some ⟨800000, .down⟩ ∧
      (base.tracker .U).state ≠ .tracked :=
  ⟨allAdmitted_of (by decide +kernel), by decide +kernel⟩

theorem test_witness_ReleaseTravelEndsTheRequest :
    let s := wide.setRequest .U (some ⟨800000, .down⟩)
    AllAdmitted [(wide, 1, .releaseTravel), (s, 1, .releaseTravel)] ∧ (wide.port 1).role = winderRole .U ∧
      wide.request .U = none ∧ s.request .U ≠ none ∧ (wide.tracker .U).state = .tracked ∧
      wide.transfer .U = none ∧ wide.lastReport .U = some (standingReport 900000) ∧
      wide.grant .U = some ⟨170, 190⟩ ∧ envelope wide.svt.working .U 900000 0 0 = ⟨179, 182⟩ ∧
      ((tracking .U .stale wide).tracker .U).state ≠ .tracked :=
  ⟨allAdmitted_of (by decide +kernel), by decide +kernel⟩

/-! Arbitration rounds -/

/-- `running` with L standing at 860,000 below U, grants up to given edges, and requests of given kinds. -/
def facing (uLo lHi : Nat) (u l : Option Travel) : State :=
  (((((running.setTracker .L (standingAt 860000)).setGrant .U (some ⟨uLo, 182⟩)).setGrant .L
    (some ⟨171, lHi⟩)).setRequest .U u).setRequest .L l)

/-- Edge to edge, each frame asking for the other's zones. -/
theorem test_witness_ADeadlockEndsTheLosersRequest :
    let s := facing 177 176 (some ⟨100000, .down⟩) (some ⟨1000000, .up⟩)
    (∀ f ∈ [Frame.U, .L], (s.tracker f).state = .tracked ∧ s.transfer f = none ∧ frameAtRest s f = true) ∧
      s.lastReport .U = some (standingReport 900000) ∧ s.lastReport .L = some (standingReport 860000) ∧
      s.grant .U = some ⟨177, 182⟩ ∧ s.grant .L = some ⟨171, 176⟩ ∧ s.request .U = some ⟨100000, .down⟩ ∧
      s.request .L = some ⟨1000000, .up⟩ ∧ demand s .U = some ⟨171, 176⟩ ∧ demand s .L = some ⟨177, 182⟩ ∧
      envelope s.svt.working .L 860000 0 0 = ⟨171, 174⟩ := by decide +kernel

/-- One FREE zone between the grants: the demands alone, toward and away, and together where they share it. -/
theorem test_witness_ARoundServesTheFreeExtents :
    demand (facing 177 175 (some ⟨100000, .down⟩) none) .U = some ⟨171, 176⟩ ∧
      demand (facing 177 175 (some ⟨100000, .down⟩) none) .L = none ∧
      demand (facing 177 175 (some ⟨1141000, .up⟩) none) .U = some ⟨183, 190⟩ ∧
      demand (facing 177 175 none (some ⟨1000000, .up⟩)) .L = some ⟨176, 182⟩ ∧
      demand (facing 177 175 none (some ⟨1000000, .up⟩)) .U = none ∧
      demand (facing 177 175 none (some ⟨100000, .down⟩)) .L = some ⟨163, 170⟩ ∧
      (let s := facing 177 175 (some ⟨100000, .down⟩) (some ⟨1000000, .up⟩)
       demand s .U = some ⟨171, 176⟩ ∧ demand s .L = some ⟨176, 182⟩ ∧ s.grant .U = some ⟨177, 182⟩ ∧
         s.grant .L = some ⟨171, 175⟩ ∧ 175 + 1 < 177 ∧ s.arb.table.getD s.arb.pointer .U = .U ∧
         (s.tracker .U).state = .tracked ∧ (s.tracker .L).state = .tracked) ∧
      (let s := (facing 177 175 (some ⟨100000, .down⟩) (some ⟨1000000, .up⟩)).setArb { running.arb with pointer := 1 }
       s.arb.table.getD s.arb.pointer .U = .L) := by decide +kernel

/-- Two demands that share no zone: one away from the other frame, and two far apart. -/
theorem test_witness_ARoundServesTheFreeExtents_together :
    (let s := facing 177 175 (some ⟨1141000, .up⟩) (some ⟨1000000, .up⟩)
     demand s .U = some ⟨183, 190⟩ ∧ demand s .L = some ⟨176, 182⟩) ∧
      (let s := (running.setRequest .U (some ⟨600000, .down⟩)).setRequest .L (some ⟨300000, .up⟩)
       demand s .U = some ⟨171, 178⟩ ∧ demand s .L = some ⟨5, 12⟩ ∧ 12 < 171 ∧ s.grant .U = some ⟨179, 182⟩ ∧
         s.grant .L = some ⟨1, 4⟩) := by decide +kernel

/-- U asks for a zone of L's at rest, with L STALE, without a demand of its own, and with a demand but in motion; with
the indication off and on. -/
theorem test_witness_ARoundServesTheFreeExtents_blocked :
    let asking := facing 177 176 (some ⟨100000, .down⟩) none
    let both := reported .L (fun r => { r with v := 21 })
      (facing 177 176 (some ⟨100000, .down⟩) (some ⟨1000000, .up⟩))
    (demand asking .U = some ⟨171, 176⟩ ∧ asking.request .U = some ⟨100000, .down⟩ ∧ demand asking .L = none ∧
        asking.grant .U = some ⟨177, 182⟩ ∧ asking.grant .L = some ⟨171, 176⟩ ∧ 177 = 176 + 1 ∧
        (asking.lastReport .U).map (·.v.natAbs) = some 0 ∧ asking.arb.blockedReported.get .U = false ∧
        (asking.setBlocked .U true).arb.blockedReported.get .U = true) ∧
      (∀ f ∈ [Frame.U, .L], (asking.tracker f).state = .tracked ∧ (both.tracker f).state = .tracked) ∧
      ((tracking .L .stale asking).tracker .L).state ≠ .tracked ∧
      ((tracking .L .stale asking).tracker .U).state = .tracked ∧
      demand (tracking .L .stale asking) .U = some ⟨171, 176⟩ ∧
      (demand both .U = some ⟨171, 176⟩ ∧ demand both .L = some ⟨177, 182⟩ ∧ both.request .L = some ⟨1000000, .up⟩ ∧
        (both.lastReport .L).map (·.v.natAbs) = some 21) := by decide +kernel

/-! Tasks -/

theorem test_witness_SubmitTaskQueuesTheLowestFreeRecord :
    Admitted standing 0 .submitTask ∧ PoolPartitioned standing ∧ standing.mdc.mode ≠ .lockout ∧
      standing.svt.working.nb ≤ 40 ∧ 0 ∈ standing.tku.free ∧ (standing.mass 1).task = none ∧
      (2 : Byte).toNat < standing.svt.working.nb ∧ standing.svt.working.landingOf 2 = some 1 ∧
      (standing.landing 1).inService = true ∧ (standing.bay 2).inService = true ∧ (standing.bay 2).content = none ∧
      (standing.bay 2).task = none ∧ (standing.mass 1).state = .stored ∧ (standing.mass 1).bay = some 0 ∧
      (standing.bay 0).task = none ∧
      (∀ id ∈ massIds, ¬ ((standing.mass id).state = .carried ∧ (standing.mass id).frame = some .L ∧
        (standing.mass id).task = none)) ∧
      (1 : Byte).toNat = frameCode .L ∧ (standing.mass 1).nominal ≤ (standing.svt.working.winder.get .L).pl ∧
      (standing.tku.queues.get .U).length < ((tasked .toPickup standing).tku.queues.get .L).length :=
  ⟨admitted_of (by decide +kernel), pool_of (by decide +kernel), by decide +kernel⟩

/-- ANY with two empty queues: L stands at the source landing 0; with U as near, U; and with neither known, U. -/
theorem test_witness_SubmitTaskQueuesTheLowestFreeRecord_nearer :
    let same := reported .U (fun r => { r with e := 10000 }) standing
    (standing.tku.queues.get .U).length = (standing.tku.queues.get .L).length ∧
      (standing.mass 1).bay.bind standing.svt.working.landingOf = some 0 ∧ standing.svt.working.floor 0 = 10000 ∧
      (standing.lastReport .U).map (·.e) = some 900000 ∧ (standing.lastReport .L).map (·.e) = some 10000 ∧
      (same.lastReport .U).map (·.e) = some 10000 ∧
      (∀ f ∈ [Frame.U, .L], (standing.tracker f).state = .tracked ∧ (base.tracker f).state = .unknown) := by
  decide +kernel

/-- The refusals at their boundaries: frame 2 is ANY and 3 is none, masses 0 and 41, an ABSENT and a reserved mass, bay 4
of four, the mass's own bay, a bay or landing out of service, a bay held or reserved, a mass that rides, a frame that
carries, and a mass heavier than the frame's limit. -/
theorem test_witness_SubmitTaskQueuesTheLowestFreeRecord_refusals :
    let s := standing
    let full := s.setTku { s.tku with free := [] }
    let rides := carrying 1 .U s
    let bars := carrying 2 .L s
    let both := carrying 3 .U bars
    let heavy := withMass 1 (fun x => { x with nominal := 60001 }) s
    AllAdmitted ([inMode .lockout s, s, full, rides, bars, both, heavy].map (fun x => (x, 0, .submitTask))) ∧
      (inMode .lockout s).mdc.mode = .lockout ∧ (s.mdc.mode ≠ .lockout ∧ s.tku.free ≠ []) ∧
      (2 < (3 : Byte).toNat ∧ (2 : Byte).toNat ≤ 2) ∧ full.tku.free = [] ∧
      (¬ 1 ≤ (0 : Byte).toNat ∧ ¬ (41 : Byte).toNat ≤ 40 ∧ (s.mass 2).state = .absent ∧
        ((withMass 1 (fun x => { x with task := some 3 }) s).mass 1).task = some 3) ∧
      (¬ (4 : Byte).toNat < s.svt.working.nb ∧ (s.mass 1).bay = some (0 : Byte).toNat ∧
        ((setBayInService 2 false s).bay 2).inService = false ∧
        ((setLandingInService 1 false s).landing 1).inService = false ∧ s.svt.working.landingOf 2 = some 1 ∧
        (s.bay 0).content = some 1 ∧ ((reserveBay 2 5 s).bay 2).task = some 5) ∧
      ((rides.mass 1).state = .carried ∧ (rides.mass 1).frame ≠ some .L) ∧
      ((bars.mass 2).state = .carried ∧ (bars.mass 2).frame = some .L ∧ (bars.mass 2).task = none ∧
        (bars.mass 1).state = .stored) ∧
      ((both.mass 2).frame = some .L ∧ (both.mass 3).frame = some .U ∧ (both.mass 3).state = .carried ∧
        (both.mass 3).task = none) ∧
      (heavy.svt.working.winder.get .L).pl < (heavy.mass 1).nominal := by
  refine ⟨allAdmitted_of (by decide +kernel), by decide +kernel⟩

/-- The ids at the ends of their range: 0 live, 31 free, 32 none. -/
theorem test_witness_CancelTaskEndsOrMarksTheTask :
    let s := tasked .toPickup standing
    Admitted s 0 .cancelTask ∧ PoolPartitioned s ∧ (0 : Byte).toNat ∈ s.tku.queues.get .L ∧
      (s.task 0).phase = .toPickup ∧ ((tasked .loading standing).task 0).phase = .loading ∧
      ((tasked .toDrop standing).task 0).phase ≠ .loading ∧ (31 : Byte).toNat ∉ s.tku.queues.u ∧
      (31 : Byte).toNat ∉ s.tku.queues.l ∧ 32 ≤ (32 : Byte).toNat :=
  ⟨admitted_of (by decide +kernel), pool_of (by decide +kernel), by decide +kernel⟩

/-- Bays 2 and 3 fit, bay 4 is none of the shaft's, and bay 0, which holds mass 1, does not fit. -/
theorem test_witness_TasksAreRedirectedAndCollected :
    let s := tasked .toPickup standing
    AllAdmitted [(s, 0, .redirectTask), (base, 0, .takeCompletion),
        ({ base with tku := { base.tku with completion := [0] } }, 0, .takeCompletion)] ∧
      PoolPartitioned s ∧ s.svt.working.nb ≤ 40 ∧ (s.task 0).dest = 2 ∧ (s.task 0).phase = .toPickup ∧
      (∀ b ∈ [2, 3], b < s.svt.working.nb ∧ s.svt.working.landingOf b = some 1 ∧ (s.bay b).inService = true ∧
        (s.landing 1).inService = true ∧ (s.bay b).content = none ∧ (s.bay b).task = none ∧
        (s.mass 1).bay ≠ some b) ∧
      s.svt.working.nb ≤ (4 : Byte).toNat ∧ (s.bay (0 : Byte).toNat).content ≠ none ∧
      ((tasked .loading standing).task 0).phase = .loading ∧ base.tku.completion = [] :=
  ⟨allAdmitted_of (by decide +kernel), pool_of (by decide +kernel), by decide +kernel⟩

/-! Transfers -/

/-- L stands braked at landing 0, where task 0 takes mass 1 from bay 0. -/
theorem test_witness_TransferCommitsTheHeadTask :
    let s := tasked .toPickup running
    Admitted s 2 .transfer ∧ (s.port 2).role = winderRole .L ∧ s.mdc.mode = .run ∧ s.transfer .L = none ∧
      (s.tracker .L).state = .tracked ∧ s.lastReport .L = some (standingReport 10000) ∧
      0 < s.svt.working.nl ∧ s.svt.working.floor 0 = 10000 ∧ s.request .L = none ∧
      (s.tku.queues.get .L).head? = some 0 ∧ s.svt.working.landingOf 0 = some 0 ∧ (s.task 0).mass = 1 ∧
      (s.task 0).phase = .toPickup ∧ (s.task 0).source = some 0 ∧ (s.mass 1).state = .stored ∧
      (s.mass 1).bay = some 0 ∧ (∀ j ∈ massIds, (s.mass j).namedFrame ≠ some .L) ∧ (s.bay 0).inService = true ∧
      (s.landing 0).inService = true ∧ s.inv.save ≠ .notSaved ∧ s.grant .L = some ⟨1, 4⟩ ∧
      s.grant .U = some ⟨179, 182⟩ ∧
      restEnvelope s.svt.working .L (10000 - 570) 25000 = ⟨1, 4⟩ :=
  ⟨admitted_of (by decide +kernel), by decide +kernel⟩

/-- The refusals: the mode, a transfer in flight, a STALE frame, one in motion, one with a request or without its brake,
no head task, a mass elsewhere, a frame that carries, a bay that is full or out of service, a failed save, and a zone of
the other frame in the reservation, which is 1 to 4. -/
theorem test_witness_TransferCommitsTheHeadTask_refusals :
    let s := tasked .toPickup running
    let moving := reported .L (fun r => { r with v := 21 }) s
    let asking := s.setRequest .L (some ⟨20000, .up⟩)
    let loose := reported .L (fun r => { r with brakeSet := false }) s
    let elsewhere := carrying 1 .U s
    let bars := carrying 2 .L s
    let drops := carrying 1 .L (withMass 3 (fun x => { x with state := .stored, bay := some 0 })
      (s.setTask 0 { s.task 0 with source := none, dest := 0, phase := .toDrop }))
    AllAdmitted ([s, inMode .hold s, transferring .committing s, tracking .L .stale s, moving, asking, loose, running,
        elsewhere, bars, drops, setBayInService 0 false s, setLandingInService 0 false s, saved .notSaved s,
        s.setGrant .U (some ⟨4, 182⟩)].map (fun x => (x, 2, .transfer))) ∧
      (inMode .hold s).mdc.mode ≠ .run ∧ (transferring .committing s).transfer .L ≠ none ∧
      ((tracking .L .stale s).tracker .L).state ≠ .tracked ∧ (moving.lastReport .L).map (·.v.natAbs) = some 21 ∧
      asking.request .L ≠ none ∧ (loose.lastReport .L).map (·.brakeSet) = some false ∧
      running.tku.queues.get .L = [] ∧ (elsewhere.mass 1).state ≠ .stored ∧
      ((bars.mass 1).state = .stored ∧ (bars.mass 2).namedFrame = some .L) ∧
      ((drops.task 0).phase = .toDrop ∧ (drops.task 0).dest = 0 ∧ (drops.mass 1).state = .carried ∧
        (drops.mass 1).frame = some .L ∧ (drops.bay 0).content = some 3) ∧
      ((setBayInService 0 false s).bay 0).inService = false ∧
      ((setLandingInService 0 false s).landing 0).inService = false ∧ (saved .notSaved s).inv.save = .notSaved ∧
      zoneOwner ((s.setGrant .L (some ⟨1, 3⟩)).setGrant .U (some ⟨4, 182⟩)) 4 = some .U :=
  ⟨allAdmitted_of (by decide +kernel), by decide +kernel⟩

theorem test_witness_GearDoneStartsTheVerification :
    ((transferring .gearRunning running).transfer .L).map (fun x => (x.phase, x.landing)) = some (.gearRunning, 0) ∧
      (transferring .gearRunning running).transfer .U = none ∧ running.transfer .U = none ∧
      running.transfer .L = none ∧ (1 : Fin 12).val < running.svt.working.nl ∧
      running.svt.working.nl ≤ (2 : Fin 12).val ∧ running.xfc.timedOut.getD 1 false = false ∧
      (running.setXfc { running.xfc with timedOut := running.xfc.timedOut.set 1 true }).xfc.timedOut.getD 1 false =
        true := by decide +kernel

/-- The transfer timer of `transferring` expires at 60,000. -/
theorem test_witness_AGearFaultOrTimeoutFailsTheTransfer :
    let s := transferring .gearRunning (tasked .loading running)
    PoolPartitioned s ∧
      (s.transfer .L).map (fun x => (x.phase, x.landing, x.mass, x.timer)) =
        some (.gearRunning, 0, 1, some (60000 : BitVec 32)) ∧
      s.transfer .U = none ∧ ((60000 : BitVec 32) - 60000).toNat < 2147483648 ∧
      2147483648 ≤ ((59999 : BitVec 32) - 60000).toNat ∧ 0 ∈ s.tku.queues.get .L ∧
      running.transfer .L = none ∧ running.transfer .U = none ∧ (1 : Fin 12).val < running.svt.working.nl ∧
      running.svt.working.nl ≤ (2 : Fin 12).val :=
  ⟨pool_of (by decide +kernel), by decide +kernel⟩

/-- `running` with L's transfer in a phase and room for L to stand loaded. -/
def underTransfer (x : XPhase) : State :=
  (transferring x running).setGrant .L (some ⟨1, 5⟩)

/-- Each tracking state in each phase; 26,000 kg is 1,000 kg from the 25,000 expected, just within LDT, and 26,001 kg is
outside; the span is 9,000 to 11,000. -/
theorem test_witness_AReportAtRestVerifiesTheTransfer :
    (∀ x ∈ [XPhase.committing, .gearRunning, .verifying, .abandoning, .finishing],
      ∀ st ∈ [Tracking.tracked, .stale, .tripped], let s := tracking .L st (underTransfer x)
      admitted s 2 .position = true ∧ (s.port 2).role = winderRole .L ∧ s.mdc.mode ≠ .lockout ∧
        (s.tracker .L).state = st ∧ s.request .L = none ∧
        (s.transfer .L).map (fun y => (y.phase, y.mass, y.expected)) = some (x, 1, 25000) ∧
        (s.transfer .L).map (fun y => (y.spanLo, y.spanHi)) = some (9000, 11000) ∧ s.grant .L = some ⟨1, 5⟩) ∧
      (let s := underTransfer .verifying
       s.inv.save ≠ .notSaved ∧ (saved .notSaved s).inv.save = .notSaved ∧ s.svt.working.ldt = 1000 ∧
        [25000, 26000, 26001].map (fun m => envelope s.svt.working .L 10000 0 m) = [⟨1, 4⟩, ⟨1, 4⟩, ⟨1, 4⟩] ∧
        envelope s.svt.working .L 10000 21 25000 = ⟨1, 4⟩ ∧
        [26000, 26001].map (fun m : BitVec 32 => m.toInt.toNat) = [26000, 26001]) ∧
      (∀ x ∈ [XPhase.committing, .verifying], ∀ r ∈ [(⟨10000, 0, 26000, true, 0⟩ : Report),
        ⟨10000, 0, 26001, true, 0⟩, ⟨10000, 0, 25000, false, 0⟩, ⟨10000, 21, 25000, true, 0⟩, ⟨10300, 0, 25000, true, 0⟩,
        ⟨10000, 0, 60001, true, 0⟩], plausibleCheck (underTransfer x) .L r = true) ∧
      ((underTransfer .committing).setTransfer .L (((underTransfer .committing).transfer .L).map
        (fun x => { x with spanHi := 10299 })) |>.transfer .L).map (·.spanHi) = some 10299 := by decide +kernel

/-- In each of those states a frame has trip reasons exactly where it is TRIPPED; 60,001 kg is above its payload limit. -/
theorem test_witness_AReportAtRestVerifiesTheTransfer_reasons :
    (∀ x ∈ [XPhase.committing, .gearRunning, .verifying, .abandoning, .finishing],
      ∀ st ∈ [Tracking.tracked, .stale, .tripped], TripsHaveReasons (tracking .L st (underTransfer x))) ∧
      ((underTransfer .committing).svt.working.winder.get .L).pl < (60001 : BitVec 32).toInt.toNat := by
  refine ⟨fun x hx st hst f => ?_, by decide +kernel⟩
  cases f <;> revert hst st hx x <;> decide +kernel

/-! Tuning and survey -/

theorem test_witness_SetTuningAppliesItsParts :
    Admitted running 0 .setTuning ∧ ([0, 1, 0, 0, 0, 0, 0, 0] : List Byte).length = 8 ∧
      (0x1F : Byte).getLsbD 4 = true ∧ (0 : Byte).toNat = 0 ∧ 8 < (9 : Byte).toNat ∧ 1 ≤ (8 : Byte).toNat ∧
      (8 : Byte).toNat ≤ 8 ∧ (∀ e ∈ ([0, 1, 0, 0, 0, 0, 0, 0] : List Byte).take 8, e.toNat < 2) ∧
      (∃ e ∈ ([0, 2, 0, 0, 0, 0, 0, 0] : List Byte).take 2, 2 ≤ e.toNat) :=
  ⟨admitted_of (by decide +kernel), by decide +kernel⟩

/-- Where a survey fails each of the checks 1 to 8 of R8, which look at the survey alone: the landings or the
frames it fails for, from the lowest. -/
def surveyFaults (sv : Survey) : List (List Nat) :=
  let upper : List Nat := (List.range sv.nl).drop 1
  [if sv.nz < 8 ∨ 256 < sv.nz then [0] else [], if sv.he < sv.sl ∨ sv.sl + 100000 < sv.he then [0] else [],
    (List.range sv.nl).filter (fun k => decide (sv.sl < sv.floor k + sv.fh)),
    upper.filter (fun k => decide (sv.floor k ≤ sv.floor (k - 1))),
    upper.filter (fun k => decide (sv.floor k < sv.floor (k - 1) + sv.fh)),
    upper.filter (fun k => decide (sv.zoneOf (sv.floor k) = sv.zoneOf (sv.floor (k - 1)))),
    if 40 < sv.nb then [0] else [],
    [Frame.U, .L].filterMap (fun f =>
      if (sv.winder.get f).vlMax < (sv.winder.get f).defaultVl then some (frameCode f) else none)]

/-- The demo survey with the floors of its two landings changed. -/
def floors (k0 k1 : Nat) : Survey :=
  { demoSurvey with le := Bank.ofFn 12 (fun k => if k = 0 then k0 else k1) }

/-- A survey that passes, and one for each check that fails it, at the boundary where there is one. -/
theorem test_witness_SurveyItemsAreEditedAndSaved_surveys :
    ([demoSurvey, { demoSurvey with sl := 35000 }, { demoSurvey with he := 1149999 },
        { demoSurvey with he := 1250001 }, floors 10000 (1150001 - demoSurvey.fh), floors 10000 10000,
        floors 10000 (9999 + demoSurvey.fh), { demoSurvey with zl := 50000, le := (floors 10000 20000).le, fh := 9000 },
        { demoSurvey with bays := Bank.ofFn 12 (fun k => if k = 0 then 40 else 1) },
        { demoSurvey with winder := ⟨{ demoSurvey.winder.u with defaultVl := 16001 }, demoSurvey.winder.l⟩ },
        { demoSurvey with winder := ⟨demoSurvey.winder.u, { demoSurvey.winder.l with defaultVl := 12001 }⟩ }].map
      (fun sv => (surveyFaults sv).findIdx? (· ≠ []))) =
      [none, some 0, some 1, some 1, some 2, some 3, some 4, some 5, some 6, some 7, some 7] := by decide +kernel

theorem test_witness_SurveyItemsAreEditedAndSaved :
    let s := inMode .lockout base
    let fewer : State := s.setSvt { s.svt with edit := { demoSurvey with nl := 1 } }
    let moved : State := s.setSvt { s.svt with edit := { demoSurvey with
      bays := Bank.ofFn 12 (fun k => if k = 0 then 1 else 3) } }
    AllAdmitted [(base, 0, .setSurveyItem), (base, 0, .saveSurvey), (s, 0, .setSurveyItem), (s, 0, .saveSurvey)] ∧
      s.mdc.mode = .lockout ∧ s.svt.saveOutstanding = false ∧
      (s.setSvt { s.svt with saveOutstanding := true }).svt.saveOutstanding = true ∧
      itemIndices (0x10 : Byte).toNat = some 12 ∧ (11 : Byte).toNat < 12 ∧
      itemRange (0x10 : Byte).toNat = some (0, 1500000) ∧ (1500000 : BitVec 32).toNat ≤ 1500000 ∧
      itemAccepts (0x10 : Byte).toNat (12 : Byte).toNat 0 = false ∧ s.svt.edit.shapeCheck = none ∧
      inventoryCheck s = none ∧
      (fewer.svt.edit.nl = 1 ∧
        ((withMass 2 (fun x => { x with state := .carried, frame := some .L, landing := some 1 }) fewer).mass 2).landing =
          some 1) ∧
      (surveyFaults moved.svt.edit).findIdx? (· ≠ []) = none ∧
      ((withMass 1 (fun x => { x with bay := some 1 }) moved).mass 1).namedBay = some 1 ∧
      moved.svt.edit.bayIdentity 1 ≠ moved.svt.working.bayIdentity 1 ∧
      ((withMass 1 (fun x => { x with bay := some 4 }) moved).mass 1).namedBay = some 4 ∧
      moved.svt.edit.nb ≤ 4 :=
  ⟨allAdmitted_of (by decide +kernel), by decide +kernel⟩

/-! Inventory requests -/

/-- Bays 3 and 4 of four, a bay that holds mass 1 or is out of service, frames 1 and 2, landings 1 and 2 of two, and a
frame that another record names. -/
theorem test_witness_MassesAreDeclaredAndConfirmed :
    let s := inMode .lockout base
    AllAdmitted [(base, 0, .declareMass), (base, 0, .confirmInventory), (s, 0, .declareMass),
        (s, 0, .confirmInventory)] ∧ s.mdc.mode = .lockout ∧ base.mdc.mode ≠ .lockout ∧
      1 ≤ (40 : Byte).toNat ∧ (40 : Byte).toNat ≤ 40 ∧ 40 < (41 : Byte).toNat ∧ 5000 ≤ (5000 : BitVec 16).toNat ∧
      (60000 : BitVec 16).toNat ≤ 60000 ∧ 2 < (3 : Byte).toNat ∧ (3 : Byte).toNat < s.svt.working.nb ∧
      bayUsable s (3 : Byte).toNat = true ∧ (s.bay 3).content = none ∧ (1 : Byte).toNat = frameCode .L ∧
      (1 : Byte).toNat < s.svt.working.nl ∧ (∀ j ∈ massIds, j ≠ 40 → (s.mass j).namedFrame ≠ some .L) ∧
      (s.svt.working.nb ≤ (4 : Byte).toNat ∧ 2 ≤ (2 : Byte).toNat ∧ s.svt.working.nl ≤ (2 : Byte).toNat) ∧
      (s.bay (0 : Byte).toNat).content = some 1 ∧ ((setBayInService 3 false s).bay 3).inService = false ∧
      (s.svt.working.landingOf 3 = some 1 ∧ ((setLandingInService 1 false s).landing 1).inService = false) ∧
      ((carrying 2 .L s).mass 2).namedFrame = some .L ∧
      (∀ j ∈ massIds, (s.mass j).state ≠ .unaccounted ∧ (s.mass j).state ≠ .inTransfer) ∧ s.inv.verified = true ∧
      (s.setInv { s.inv with verified := false }).inv.verified = false ∧
      (State.reset.mass 1).state = .unaccounted :=
  ⟨allAdmitted_of (by decide +kernel), by decide +kernel⟩

theorem test_witness_TheInventoryIsSavedAndServed :
    AllAdmitted [(base, 0, .saveInventory), (running, 0, .setBayService), (running, 0, .setLandingService),
        (base, 0, .setBayService), (base, 0, .setLandingService)] ∧
      base.inv.save = .clean ∧ (saved .writing base).inv.save = .writing ∧ running.mdc.mode = .run ∧
      base.mdc.mode ≠ .run ∧ 2 ≤ (2 : Byte).toNat ∧ (1 : Byte).toNat < 2 ∧
      (3 : Byte).toNat < base.svt.working.nb ∧ base.svt.working.nb ≤ (4 : Byte).toNat ∧
      (1 : Byte).toNat < base.svt.working.nl ∧ base.svt.working.nl ≤ (2 : Byte).toNat :=
  ⟨allAdmitted_of (by decide +kernel), by decide +kernel⟩

/-! Reset, start-up and the store -/

theorem test_witness_ColdResetSamplesTheStraps :
    (let role (x : BitVec 2) : Role :=
       if x = 0 then .monitor else if x = 1 then .winderU else if x = 2 then .winderL else .dispatch
     let sound (roles : List Role) : Prop :=
       roles.count .winderU = 1 ∧ roles.count .winderL = 1 ∧ roles.count .dispatch = 1
     sound ([3, 1, 2, 0].map role) ∧ ¬ sound ([3, 1, 2, 2].map role)) := by decide

/-- Mass 1's record, in bay 0, is a sound one. -/
theorem mass_one_sound : (base.mass 1).Sound := by
  have h : base.mass 1 = { Mass.unreadable with state := .stored, nominal := 25000, bay := some 0 } := by decide +kernel
  rw [h]
  exact ⟨by decide, by decide, ⟨0, by decide, rfl⟩, rfl, rfl⟩

theorem test_witness_SurveyImagesReadBack :
    (base.inv.masses.getD (1 - 1) Mass.unreadable).Sound ∧ demoSurvey.inRange = true ∧
      (∀ i < 8, demoSurvey.table.getD i 0 < 256) :=
  ⟨mass_one_sound, by decide +kernel⟩

/-- Start-up that waits for its first read. -/
def awaitingSurvey : State :=
  { base with startUp := .surveyRead, sti := { Sti.initial with op := .read .survey } }

/-- The slot of an image with a generation. -/
def slotOf (g : BitVec 32) : List (List Byte) :=
  [imageBytes .survey g (surveyBody demoSurvey)]

/-- A survey body of bytes that are all 0, which fails the checks. -/
def blankSurvey : List Byte :=
  List.replicate (surveyBody demoSurvey).length 0

/-- No image, a good one in either slot, two with each generation, and a good image whose survey fails the checks. -/
theorem test_witness_StartUpTakesTheSurveyFromTheStore :
    (awaitingSurvey.startUp = .surveyRead ∧ awaitingSurvey.sti.op = .read .survey ∧ base.startUp ≠ .surveyRead ∧
      demoSurvey.passes = true ∧ (∀ i < 8, demoSurvey.table.getD i 0 < 256) ∧ slotImage .survey [[]] = none ∧
      (8 : BitVec 32) = 7 + 1 ∧ (9 : BitVec 32) ≠ 7 + 1 ∧ (decodeSurvey blankSurvey).passes = false) ∧
      (∀ g, slotImage .survey (slotOf g) = some (g, surveyBody demoSurvey)) ∧
      ∀ g, slotImage .survey [imageBytes .survey g blankSurvey] = some (g, blankSurvey) :=
  ⟨by decide +kernel, fun g => slotImage_imageBytes .survey g _ _ (by decide +kernel),
    fun g => slotImage_imageBytes .survey g _ _ (by decide +kernel)⟩

/-- A body of 333 bytes that are all 0. -/
def zeroBody : List Byte :=
  List.replicate 333 0

/-- A body that says VERIFIED and spells mass 1 in bay 0, and one whose mass 2 is said to stand there too. -/
def goodBody : List Byte :=
  inventoryBody base.inv

def clashingBody : List Byte :=
  inventoryBody ({ base.inv with masses := base.inv.masses.set 1 (base.mass 1) } : Inv)

/-- The good body's record 1 is spelled by mass 1 of `base`, the clashing body's record 2 too, and no record of the zero
body is spelled, its id bytes being 0; none but record 1 names a place before record 2. -/
theorem test_witness_StartUpTakesTheInventoryAndEntersTheMode :
    let s : State := { awaitingSurvey with
      startUp := .inventoryRead, sti := { Sti.initial with op := .read .inventory } }
    (s.startUp = .inventoryRead ∧ s.sti.op = .read .inventory ∧ base.startUp ≠ .inventoryRead ∧
      slotImage .inventory [[], [], []] = none ∧ s.inv.save = .clean ∧ s.svt.state = .valid ∧
      zeroBody.getD 332 0 ≠ 1 ∧ goodBody.getD 332 0 = 1 ∧
      (goodBody.take 7 = [1, 1, 0xA8, 0x61, 0, 0xFF, 0xFF] ∧ (base.mass 1).nominal = 0xA8 + 256 * 0x61 ∧
        massStateCode (base.mass 1).state = 1 ∧ (base.mass 1).bay = some 0 ∧ (base.mass 1).frame = none ∧
        (base.mass 1).landing = none ∧ (base.mass 1).task = none ∧ 0 < s.svt.working.nb) ∧
      (clashingBody.take 14).drop 7 = [2, 1, 0xA8, 0x61, 0, 0xFF, 0xFF] ∧
      (∀ id ∈ massIds, (zeroBody.getD (7 * (id - 1)) 0).toNat ≠ id)) ∧
      (base.mass 1).Sound ∧
      ∀ body ∈ [zeroBody, goodBody, clashingBody],
        slotImage .inventory [imageBytes .inventory 3 body] = some (3, body) :=
  ⟨by decide +kernel, mass_one_sound, fun body h => slotImage_imageBytes .inventory 3 _ _
    ((show ∀ body ∈ [zeroBody, goodBody, clashingBody], body.length + 4 = bodyLength .inventory by decide +kernel) body h)⟩

/-- `base` with a write in flight after some attempts. -/
def storing (r : Region) (attempts : Nat) (save : SaveState) (waiters : List Waiter) : State :=
  { base with
    sti := { base.sti with op := .write r .a 1 [0x11], attempts := attempts }
    inv := { base.inv with save := save, carriedWaiters := waiters } }

theorem test_witness_StoreAttemptsEndTheWrite :
    (storing .survey 2 .clean []).sti.op = .write .survey .a 1 [0x11] ∧ (storing .survey 2 .clean []).sti.attempts = 2 ∧
      (storing .survey 2 .clean []).sti.waiting = ⟨none, none⟩ ∧ (none : Option (List Byte)) ≠ some [0x11] ∧
      (storing .survey 1 .clean []).sti.attempts ≤ 1 ∧ base.sti.op = .idle ∧
      (storing .survey 0 .clean []).inv.save = .clean ∧
      (storing .inventory 0 .writing []).inv.carriedWaiters = [] ∧
      (storing .inventory 0 .writingDirty []).inv.save = .writingDirty ∧
      (storing .inventory 0 .writing [⟨.L, .commit⟩]).inv.carriedWaiters = [⟨.L, .commit⟩] ∧
      (storing .inventory 0 .writing []).inv.nextWaiters = [] ∧
      ((transferring .committing (storing .inventory 0 .writing [⟨.L, .commit⟩])).transfer .L).map (·.phase) =
        some .committing := by decide +kernel

/-- The ends of ABANDONING and FINISHING, by a write that completes and by one whose third attempt has failed; the task
goes on to its drop, returns, or is done. -/
theorem test_witness_StoreAttemptsEndTheWrite_ends :
    (∀ n ∈ [0, 2], ∀ w ∈ [Change.commit, .restore], let s := charged .abandoning (storing .inventory n .writing [⟨.L, w⟩])
      s.sti.op = .write .inventory .a 1 [0x11] ∧ s.sti.attempts = n ∧ s.sti.waiting = ⟨none, none⟩ ∧
        s.inv.save = .writing ∧ s.inv.carriedWaiters = [⟨.L, w⟩] ∧ s.inv.nextWaiters = [] ∧
        (s.transfer .L).map (·.phase) = some .abandoning) ∧
      (∀ n ∈ [0, 2], let s := charged .finishing (storing .inventory n .writing [⟨.L, .verified⟩])
        let cancelled := s.setTask 0 { s.task 0 with cancelPending := true }
        let dropped := s.setTask 0 { s.task 0 with phase := .unloading }
        s.sti.attempts = n ∧ s.inv.carriedWaiters = [⟨.L, .verified⟩] ∧ s.inv.nextWaiters = [] ∧
          (s.transfer .L).map (fun x => (x.phase, x.task)) = some (.finishing, 0) ∧
          (s.task 0).phase = .loading ∧ (s.task 0).cancelPending = false ∧ (s.task 0).source = some 0 ∧
          (s.task 0).dest = 2 ∧ (cancelled.task 0).cancelPending = true ∧ (dropped.task 0).phase = .unloading ∧
          0 ∈ dropped.tku.queues.get .L) := by decide +kernel

theorem test_witness_StoreAttemptsEndTheWrite_pool :
    PoolPartitioned (charged .finishing (storing .inventory 0 .writing [⟨.L, .verified⟩])) :=
  pool_of (by decide +kernel)

/-- A write of each region that waits for the other's. -/
theorem test_witness_StoreAttemptsEndTheWrite_waiting :
    let w (r : Region) (op : Region) (save : SaveState) : State := let s := storing op 2 save []
      s.setSti { s.sti with waiting := (⟨none, none⟩ : PerRegion (Option (List Byte))).set r (some [0x22]) }
    (w .survey .inventory .writingDirty).sti.op = .write .inventory .a 1 [0x11] ∧
      (w .survey .inventory .writingDirty).sti.waiting = ⟨some [0x22], none⟩ ∧
      (w .survey .inventory .writingDirty).inv.save = .writingDirty ∧
      (w .inventory .survey .writing).sti.op = .write .survey .a 1 [0x11] ∧
      (w .inventory .survey .writing).sti.waiting = ⟨none, some [0x22]⟩ ∧
      (w .inventory .survey .writing).sti.attempts = 2 ∧ (w .inventory .survey .writing).inv.save = .writing := by
  decide +kernel

end Sys2Proof.Tests
end

section
/-! SUPPORT. O11, part 1: the mass records as the predicates of places and account read them, and what leaves them
untouched. -/

namespace Sys2Proof.Machine

/-! ### The records as the predicates read them -/

theorem mem_massIds {id : Nat} : id ∈ massIds ↔ 1 ≤ id ∧ id ≤ 40 := by
  simp only [massIds, List.mem_map, List.mem_range]
  constructor
  · rintro ⟨i, hi, rfl⟩; omega
  · intro h; exact ⟨id - 1, by omega, by omega⟩

theorem mass_of_ne_zero (s : State) {id : Nat} (h : id ≠ 0) :
    s.mass id = s.inv.masses.getD (id - 1) Mass.unreadable := by
  simp [State.mass, h]

/-- `bayContent` in terms of the records as they are read (R86). -/
theorem bayContent_eq_find (s : State) (b : Nat) :
    bayContent s.inv.masses b = massIds.find? (fun id => (s.mass id).namedBay == some b) := by
  refine List.find?_congr fun id hid => ?_
  rw [mass_of_ne_zero s (by have := mem_massIds.1 hid; omega)]

theorem Bank.map_getD_range {α : Type} {n : Nat} (b : Bank α n) (d : α) :
    (List.range n).map (fun i => b.getD i d) = b.toList := by
  refine List.ext_getElem (by simp [b.len]) fun i h1 h2 => ?_
  simp [Bank.getD, List.getD, h2]

/-- The sum of `AccountFollows` is the model's own raw sum (R96). -/
theorem sum_massEnergy (sv : Survey) (s : State) :
    (massIds.map (fun id => massEnergy sv (s.mass id))).sum = rawSum sv s.inv.masses := by
  rw [rawSum, ← Bank.map_getD_range s.inv.masses Mass.unreadable, massIds, List.map_map, List.map_map]
  rfl

theorem accountFollows_iff (s : State) :
    AccountFollows s ↔
      s.inv.sRaw = rawSum s.svt.working s.inv.masses ∧ s.inv.storedKJ = storedOf s.inv.sRaw := by
  unfold AccountFollows
  rw [sum_massEnergy]
  rfl

/-- A bay whose content is empty is named by no record (R86). -/
theorem no_namedBay_of_empty {s : State} (h : PlacesFollow s) {b : Nat} (hb : b < 40)
    (hc : (s.bay b).content = none) {j : Nat} (hj : j ∈ massIds) : (s.mass j).namedBay ≠ some b := by
  rw [h b hb, bayContent_eq_find, List.find?_eq_none] at hc
  simpa using hc j hj

/-- The mass that a bay's content names is one whose record names the bay (R86). -/
theorem namedBay_of_content {s : State} (h : PlacesFollow s) {b id : Nat} (hb : b < 40)
    (hc : (s.bay b).content = some id) : id ∈ massIds ∧ (s.mass id).namedBay = some b := by
  rw [h b hb, bayContent_eq_find] at hc
  exact ⟨List.mem_of_find?_eq_some hc, by simpa using List.find?_some hc⟩

theorem Mass.namedBay_task (r : Mass) (n : Option Nat) : ({ r with task := n } : Mass).namedBay = r.namedBay := rfl

theorem Mass.namedFrame_task (r : Mass) (n : Option Nat) : ({ r with task := n } : Mass).namedFrame = r.namedFrame :=
  rfl

theorem massEnergy_task (sv : Survey) (r : Mass) (n : Option Nat) :
    massEnergy sv { r with task := n } = massEnergy sv r := rfl

/-! ### What leaves every place and the account untouched -/

/-- The records, the account, the survey, the transfers, the live tasks and the SURVEY writes are as they were: a
record may change its reservation, a task anything but its mass, and a task may leave its queue. -/
structure PlacesUntouched (s t : State) : Prop where
  mass : ∀ id, ∃ n, t.mass id = { s.mass id with task := n }
  content : ∀ b < 40, (t.bay b).content = (s.bay b).content
  account : t.inv.sRaw = s.inv.sRaw ∧ t.inv.storedKJ = s.inv.storedKJ
  survey : t.svt = { s.svt with tuning := t.svt.tuning, state := t.svt.state }
  startUp : t.startUp = s.startUp
  contexts : t.xfc.contexts = s.xfc.contexts
  taskMass : ∀ id, (t.task id).mass = (s.task id).mass
  queue : ∀ f, ∀ id ∈ t.tku.queues.get f, id ∈ s.tku.queues.get f
  writes : surveyWrites t.sti = surveyWrites s.sti

theorem PlacesUntouched.refl (s : State) : PlacesUntouched s s :=
  ⟨fun _ => ⟨_, rfl⟩, fun _ _ => rfl, ⟨rfl, rfl⟩, rfl, rfl, rfl, fun _ => rfl, fun _ _ h => h, rfl⟩

theorem PlacesUntouched.trans {s t u : State} (h1 : PlacesUntouched s t) (h2 : PlacesUntouched t u) :
    PlacesUntouched s u where
  mass id := by
    obtain ⟨n, hn⟩ := h1.mass id
    obtain ⟨m, hm⟩ := h2.mass id
    exact ⟨m, by rw [hm, hn]⟩
  content b hb := (h2.content b hb).trans (h1.content b hb)
  account := ⟨h2.account.1.trans h1.account.1, h2.account.2.trans h1.account.2⟩
  survey := by
    have h := h2.survey
    rw [h1.survey] at h
    exact h
  startUp := h2.startUp.trans h1.startUp
  contexts := h2.contexts.trans h1.contexts
  taskMass id := (h2.taskMass id).trans (h1.taskMass id)
  queue f id h := h1.queue f id (h2.queue f id h)
  writes := h2.writes.trans h1.writes

theorem PlacesUntouched.transfer {s t : State} (h : PlacesUntouched s t) (f : Frame) : t.transfer f = s.transfer f :=
  congrArg (fun c => c.get f) h.contexts

theorem PlacesUntouched.namedBay {s t : State} (h : PlacesUntouched s t) (id : Nat) :
    (t.mass id).namedBay = (s.mass id).namedBay := by
  obtain ⟨n, hn⟩ := h.mass id
  rw [hn, Mass.namedBay_task]

theorem PlacesUntouched.namedFrame {s t : State} (h : PlacesUntouched s t) (id : Nat) :
    (t.mass id).namedFrame = (s.mass id).namedFrame := by
  obtain ⟨n, hn⟩ := h.mass id
  rw [hn, Mass.namedFrame_task]

theorem PlacesUntouched.working {s t : State} (h : PlacesUntouched s t) : t.svt.working = s.svt.working :=
  by rw [h.survey]

theorem PlacesUntouched.inCharge {s t : State} (h : PlacesUntouched s t) {f : Frame} {x : Transfer}
    (hc : InCharge s f x) : InCharge t f x := by
  obtain ⟨n, hn⟩ := h.mass x.mass
  exact ⟨hc.id, by rw [hn]; exact hc.record, hc.ret⟩

/-- Another context for a frame leaves the rest as untouched as it was. -/
theorem PlacesUntouched.setTransfer {s t : State} (h : PlacesUntouched s t) (f : Frame) (x : Option Transfer) :
    PlacesUntouched (s.setTransfer f x) (t.setTransfer f x) :=
  { mass := h.mass, content := h.content, account := h.account, survey := h.survey, startUp := h.startUp
    contexts := congrArg (fun c => c.set f x) h.contexts
    taskMass := h.taskMass, queue := h.queue, writes := h.writes }

theorem PlacesUntouched.placesFollow {s t : State} (h : PlacesUntouched s t) (hs : PlacesFollow s) :
    PlacesFollow t := by
  intro b hb
  rw [h.content b hb, hs b hb, bayContent_eq_find, bayContent_eq_find]
  simp only [h.namedBay]

theorem PlacesUntouched.accountFollows {s t : State} (h : PlacesUntouched s t) (hs : AccountFollows s) :
    AccountFollows t := by
  have he (id : Nat) : massEnergy s.svt.working (t.mass id) = massEnergy s.svt.working (s.mass id) := by
    obtain ⟨n, hn⟩ := h.mass id
    rw [hn, massEnergy_task]
  unfold AccountFollows
  simp only [h.account.1, h.account.2, h.working, he]
  exact hs

theorem PlacesUntouched.placesHeldOnce {s t : State} (h : PlacesUntouched s t) (hs : PlacesHeldOnce s) :
    PlacesHeldOnce t where
  bay i hi j hj b := by rw [h.namedBay, h.namedBay]; exact hs.bay i hi j hj b
  frame i hi j hj f := by rw [h.namedFrame, h.namedFrame]; exact hs.frame i hi j hj f
  transfer f x hx h1 h2 := h.inCharge (hs.transfer f x (h.transfer f ▸ hx) h1 h2)
  task f id hid := by rw [h.taskMass]; exact hs.task f id (h.queue f id hid)
  working := by rw [h.working]; exact hs.working
  edit := by rw [h.survey, h.startUp]; exact hs.edit
  saving := by rw [h.writes, h.survey]; exact hs.saving

/-! ### What keeps the three statements -/

/-- The three statements of the mass records hold after an operation where they held before it. -/
structure PlacesKept (s t : State) : Prop where
  follow : PlacesFollow s → PlacesFollow t
  account : AccountFollows s → AccountFollows t
  held : PlacesHeldOnce s → PlacesHeldOnce t

theorem PlacesKept.refl (s : State) : PlacesKept s s := ⟨id, id, id⟩

theorem PlacesKept.trans {s t u : State} (h1 : PlacesKept s t) (h2 : PlacesKept t u) : PlacesKept s u :=
  ⟨fun h => h2.follow (h1.follow h), fun h => h2.account (h1.account h), fun h => h2.held (h1.held h)⟩

theorem PlacesUntouched.kept {s t : State} (h : PlacesUntouched s t) : PlacesKept s t :=
  ⟨h.placesFollow, h.accountFollows, h.placesHeldOnce⟩

theorem PlacesKept.untouched {s t u : State} (h1 : PlacesKept s t) (h2 : PlacesUntouched t u) : PlacesKept s u :=
  h1.trans h2.kept

end Sys2Proof.Machine
end

section
/-! SUPPORT. O11, part 2: reports, travel, grants, rounds, modes, tuning and the ports move no record. -/

namespace Sys2Proof.Machine

/-! ### Operations beside the records -/

/-- What an operation may change that leaves INV, TKU, STI, the surveys, start-up and the transfers alone. -/
def RecordsFrame (s t : State) : Prop :=
  t = { s with
    time := t.time, ports := t.ports, svt := { s.svt with tuning := t.svt.tuning }, ftk := t.ftk, gru := t.gru
    arb := t.arb, xfc := { t.xfc with contexts := s.xfc.contexts }, mdc := t.mdc, pending := t.pending }

theorem RecordsFrame.refl (s : State) : RecordsFrame s s := rfl

theorem RecordsFrame.trans {s t u : State} (h1 : RecordsFrame s t) (h2 : RecordsFrame t u) : RecordsFrame s u := by
  unfold RecordsFrame at h1 h2 ⊢
  rw [h1] at h2
  exact h2

theorem RecordsFrame.raiseOn {s t : State} (h : RecordsFrame s t) (who : Role → Bool) (e : Event) :
    RecordsFrame s (t.raiseOn who e) :=
  h.trans rfl

theorem RecordsFrame.drive {s t : State} (h : RecordsFrame s t) : RecordsFrame s t.drive :=
  h.trans rfl

theorem RecordsFrame.untouched {s t : State} (h : RecordsFrame s t) : PlacesUntouched s t := by
  unfold RecordsFrame at h
  rw [h]
  exact ⟨fun _ => ⟨_, rfl⟩, fun _ _ => rfl, ⟨rfl, rfl⟩, rfl, rfl, rfl, fun _ => rfl, fun _ _ hid => hid, rfl⟩

theorem RoundFrame.records {s t : State} (h : RoundFrame s t) : RecordsFrame s t := by
  unfold RoundFrame at h
  unfold RecordsFrame
  rw [h]

theorem moveTracker_records (f : Frame) (n : Tracker) (s : State) : RecordsFrame s (moveTracker f n s) := by
  rw [moveTracker_frame]; rfl

theorem enterHold_records (s : State) : RecordsFrame s (enterHold s) := by
  rw [enterHold_frame]; rfl

theorem trip_records (f : Frame) (r : BitVec 16) (s : State) : RecordsFrame s (trip f r s) := by
  rw [trip_frame]; rfl

theorem trimTo_records (f : Frame) (n : Run) (d : Option Dir) (s : State) : RecordsFrame s (trimTo f n d s) := by
  rw [trimTo_frame]; rfl

theorem trim_records (f : Frame) (s : State) : RecordsFrame s (trim f s) := by
  rw [trim_frame]; rfl

theorem askRound_records (s : State) : RecordsFrame s (askRound s) := (askRound_frame s).records

theorem askRoundIf_records (b : Bool) (s : State) : RecordsFrame s (askRoundIf b s) := by
  unfold askRoundIf
  split
  · exact askRound_records s
  · rfl

theorem clearRequest_records (f : Frame) (why : EndReason) (s : State) : RecordsFrame s (clearRequest f why s) :=
  (clearRequest_round f why s).records

theorem reserveZones_records {f : Frame} {r : Run} {s t : State} (h : reserveZones f r s = some t) :
    RecordsFrame s t := by
  rw [reserveZones_frame h]; rfl

theorem reformGrant_records (f : Frame) (e : Run) (s : State) : RecordsFrame s (reformGrant f e s) := by
  rw [reformGrant_frame]; rfl

/-! ### Reports, expiries and travel requests (R18 to R61) -/

theorem rejectReport_records (f : Frame) (s : State) : RecordsFrame s (rejectReport f s) := by
  have h : RecordsFrame s (countRejection f s) := rfl
  unfold rejectReport
  simp only []
  split
  · exact h.trans (trip_records _ _ _)
  · exact h

theorem tripOr_records {f : Frame} {x : BitVec 16} {next : State → State} {s : State}
    (h : RecordsFrame s (next s)) : RecordsFrame s (tripOr f x next s) := by
  unfold tripOr
  split
  · exact h
  · exact trip_records _ _ _

theorem acquire_records (f : Frame) (r : Report) (s : State) : RecordsFrame s (acquire f r s) := by
  have h : RecordsFrame s (acceptReport f r s) := rfl
  unfold acquire
  simp only []
  split
  · refine h.trans (RecordsFrame.trans ?_ (tripOr_records (askRound_records _)))
    exact RecordsFrame.trans (t := ((acceptReport f r s).setGrant f _).raiseWinder f .grantChanged) rfl
      (moveTracker_records _ _ _)
  · exact h.trans (trip_records _ _ _)

theorem reportToGrants_records (f : Frame) (b : Bool) (s : State) : RecordsFrame s (reportToGrants f b s) := by
  have h : RecordsFrame s (arrive f (trim f s)) := by
    unfold arrive
    split
    · exact (trim_records f s).trans (clearRequest_records _ _ _)
    · exact trim_records f s
  exact h.trans (askRoundIf_records _ _)

theorem settleReport_records (f : Frame) (r : Report) (s : State) : RecordsFrame s (settleReport f r s) := by
  unfold settleReport
  split
  · exact reportToGrants_records _ _ _
  · split
    · exact (moveTracker_records _ _ _).trans (reportToGrants_records _ _ _)
    · rfl
  · rfl

theorem stalenessEnds_records (f : Frame) (s : State) : RecordsFrame s (stalenessEnds f s) := by
  have h : RecordsFrame s (s.setTracker f { s.tracker f with timer := none }) := rfl
  unfold stalenessEnds
  simp only []
  split
  · exact h.trans (moveTracker_records _ _ _)
  · exact h

theorem storeTravel_records (f : Frame) (x : Travel) (s : State) : RecordsFrame s (storeTravel f x s) :=
  RecordsFrame.trans (t := placeRequest f x s) rfl ((trim_records _ _).trans (askRound_records _))

theorem reverseTravel_records (f : Frame) (x : Travel) (r : Report) (d : Dir) (s : State) :
    RecordsFrame s (reverseTravel f x r d s) :=
  (trimTo_records f (reportEnvelope s f r) (some d) s).trans
    (RecordsFrame.trans (t := placeRequest f x _) rfl (askRound_records _))

theorem takeTravel_records (f : Frame) (x : Travel) (r : Report) (s : State) :
    RecordsFrame s (takeTravel f x r s).1 := by
  unfold takeTravel
  split
  · exact (storeTravel_records f x s).drive
  · split
    · exact (storeTravel_records f x s).drive
    · split
      · exact (reverseTravel_records _ _ _ _ _).drive
      · exact .refl s

theorem requestTravel_records (f : Frame) (target : Nat) (s : State) :
    RecordsFrame s (requestTravel f target s).1 := by
  unfold requestTravel
  split
  · exact .refl s
  split
  · exact .refl s
  split
  · exact .refl s
  split
  · exact .refl s
  split
  · exact .refl s
  split
  · exact .refl s
  exact takeTravel_records _ _ _ _

theorem releaseTravel_records (f : Frame) (s : State) : RecordsFrame s (releaseTravel f s).1 := by
  unfold releaseTravel
  split
  · exact .refl s
  · exact ((clearRequest_records f _ s).trans (askRoundIf_records _ _)).drive

/-! ### Modes, tuning and the stop chain (R14 to R17, R149 to R157) -/

theorem requestHold_records (s : State) : RecordsFrame s (requestHold s).1 := by
  unfold requestHold
  split
  · exact (enterHold_records s).drive
  · exact .refl s
  · exact .refl s

theorem requestResume_records (s : State) : RecordsFrame s (requestResume s).1 := by
  have h : RecordsFrame s (changeMode .run s) := rfl
  unfold requestResume
  split
  · exact .refl s
  split
  · exact .refl s
  split
  · exact .refl s
  split
  · exact .refl s
  split
  · exact .refl s
  split
  · exact .refl s
  split
  · exact .refl s
  · exact (h.trans (askRound_records _)).drive

theorem requestUnlock_records (s : State) : RecordsFrame s (requestUnlock s).1 := by
  have h : RecordsFrame s (changeMode .hold s) := rfl
  unfold requestUnlock
  split
  · exact .refl s
  split
  · exact .refl s
  split
  · exact .refl s
  split
  · exact .refl s
  · exact h.drive

theorem acknowledgeStop_records (s : State) : RecordsFrame s (acknowledgeStop s).1 := by
  have h : RecordsFrame s (s.setMdc { s.mdc with latch := false }) := rfl
  unfold acknowledgeStop
  split
  · exact .refl s
  · exact h.drive

theorem clearTripped_records (f : Frame) (e : Run) (s : State) : RecordsFrame s (clearTripped f e s) :=
  ((moveTracker_records _ _ _).trans (reformGrant_records _ _ _)).trans (askRound_records _)

theorem clearTripOf_records (f : Frame) (s : State) : RecordsFrame s (clearTripOf f s).1 := by
  unfold clearTripOf
  split
  · exact .refl s
  split
  · exact .refl s
  split
  · exact .refl s
  split
  · exact .refl s
  split
  · exact .refl s
  generalize firstMass s (barsClearing f) = barring
  cases barring with
  | some id => exact .refl s
  | none =>
    simp only []
    split
    · exact (clearTripped_records _ _ _).drive
    · exact .refl s

theorem clearTrip_records (frame : Nat) (s : State) : RecordsFrame s (clearTrip frame s).1 := by
  unfold clearTrip
  split
  · exact .refl s
  split
  · exact .refl s
  split
  · exact .refl s
  · exact .refl s
  · exact .refl s
  · exact clearTripOf_records _ _

theorem setTuning_records (x : TuningParts) (s : State) : RecordsFrame s (setTuning x s).1 := by
  have h : RecordsFrame s (applyTuning x s) := rfl
  unfold setTuning
  split
  · exact .refl s
  · exact (h.trans (askRoundIf_records _ _)).drive

/-! ### The ports (R161 to R172) -/

theorem setEventMask_records (p : PortId) (x : BitVec 16) (s : State) : RecordsFrame s (setEventMask p x s).1 := by
  unfold setEventMask
  split <;> rfl

theorem clearEvents_records (p : PortId) (x : BitVec 16) (s : State) : RecordsFrame s (clearEvents p x s).1 := by
  unfold clearEvents
  simp only []
  split <;> rfl

theorem discardFrame_records (p : PortId) (c : LinkCause) (s : State) : RecordsFrame s (discardFrame p c s) := rfl

theorem frameDiscarded_records (p : PortId) (c : DiscardCause) (s : State) : RecordsFrame s (frameDiscarded p c s) := by
  unfold frameDiscarded
  split
  · exact discardFrame_records _ _ _
  · rfl

theorem gapExpires_records (p : PortId) (s : State) : RecordsFrame s (gapExpires p s) := by
  unfold gapExpires
  split
  · exact discardFrame_records _ _ _
  · rfl

theorem linkBreak_records (p : PortId) (s : State) : RecordsFrame s (linkBreak p s) := by
  unfold linkBreak
  split <;> rfl

theorem stalenessExpires_records (f : Frame) (s : State) : RecordsFrame s (stalenessExpires f s) := by
  unfold stalenessExpires
  split
  · exact (stalenessEnds_records f s).drive
  · rfl

end Sys2Proof.Machine
end

section
/-! SUPPORT. O11, part 3: save requests, service flags, reservations and tasks move no record. -/

namespace Sys2Proof.Machine

/-! ### Save requests and service flags (R85, R90 to R95) -/

/-- Handing over an INVENTORY write leaves the SURVEY writes that STI holds (R175). -/
theorem surveyWrites_handOver_inventory (x : Sti) (items : List Byte) :
    surveyWrites (x.handOver .inventory items) = surveyWrites x := by
  unfold Sti.handOver
  split
  · next h =>
    rw [surveyWrites, surveyWrites, h]
    rfl
  · rfl

theorem startInventoryWrite_untouched (ws : List Waiter) (s : State) :
    PlacesUntouched s (startInventoryWrite ws s) :=
  { PlacesUntouched.refl s with
    writes := surveyWrites_handOver_inventory s.sti (inventoryBody s.inv) }

/-- A change of INV that keeps its records, contents and account. -/
theorem setInv_untouched {s : State} {x : Inv} (masses : x.masses = s.inv.masses)
    (content : ∀ b < 40, (x.bays.getD b Bay.unreadable).content = (s.bay b).content)
    (sRaw : x.sRaw = s.inv.sRaw) (storedKJ : x.storedKJ = s.inv.storedKJ) : PlacesUntouched s (s.setInv x) :=
  { PlacesUntouched.refl s with
    mass := fun id => ⟨(s.mass id).task, by simp only [State.mass, State.setInv_inv, masses]⟩
    content := content
    account := ⟨sRaw, storedKJ⟩ }

theorem saveRequest_untouched (ws : List Waiter) (s : State) : PlacesUntouched s (saveRequest ws s) := by
  unfold saveRequest
  split
  · exact startInventoryWrite_untouched ws s
  · exact setInv_untouched rfl (fun _ _ => rfl) rfl rfl
  · exact setInv_untouched rfl (fun _ _ => rfl) rfl rfl
  · exact .refl s

theorem saveRequestIf_untouched (b : Bool) (s : State) : PlacesUntouched s (saveRequestIf b s) := by
  unfold saveRequestIf
  split
  · exact saveRequest_untouched [] s
  · exact .refl s

theorem saveRequestByDispatch_untouched (s : State) : PlacesUntouched s (saveRequestByDispatch s) := by
  unfold saveRequestByDispatch
  split
  · exact startInventoryWrite_untouched [] s
  · exact saveRequest_untouched [] s

theorem setVerified_untouched (v : Bool) (s : State) : PlacesUntouched s (setVerified v s) := by
  unfold setVerified
  split
  · exact .refl s
  · refine PlacesUntouched.trans ?_ (RecordsFrame.refl _ |>.raiseOn _ _).untouched
    exact setInv_untouched rfl (fun _ _ => rfl) rfl rfl

theorem setLanding_untouched (s : State) (k : Nat) (x : Landing) : PlacesUntouched s (s.setLanding k x) :=
  setInv_untouched rfl (fun _ _ => rfl) rfl rfl

/-- A bay record that keeps its content may be replaced (R86). -/
theorem setBay_untouched (s : State) (b : Nat) (x : Bay) (h : x.content = (s.bay b).content) :
    PlacesUntouched s (s.setBay b x) := by
  refine setInv_untouched rfl (fun c _ => ?_) rfl rfl
  rw [Bank.getD_set]
  split
  · next hc => rw [hc.1, h]
  · rfl

theorem setLandingInService_untouched (k : Nat) (v : Bool) (s : State) :
    PlacesUntouched s (setLandingInService k v s) :=
  (setLanding_untouched s k _).trans (saveRequestIf_untouched _ _)

theorem setBayInService_untouched (b : Nat) (v : Bool) (s : State) : PlacesUntouched s (setBayInService b v s) :=
  (setBay_untouched s b { s.bay b with inService := v } rfl).trans (saveRequestIf_untouched _ _)

/-! ### Reservations (R89) -/

/-- A record that changes its reservation alone keeps its place (R89). -/
theorem setReservation_untouched (s : State) (id : Nat) (h : id ≠ 0) (n : Option Nat) :
    PlacesUntouched s (s.setInv { s.inv with masses := s.inv.masses.set (id - 1) { s.mass id with task := n } }) :=
  { PlacesUntouched.refl s with
    mass := fun j => by
      by_cases hj : j = 0
      · exact ⟨Mass.unreadable.task, by simp [State.mass, hj]⟩
      · rw [mass_of_ne_zero _ hj, State.setInv_inv, Bank.getD_set]
        split
        · next hji =>
          have : j = id := by omega
          exact ⟨n, by rw [this]⟩
        · exact ⟨(s.mass j).task, by rw [mass_of_ne_zero s hj]⟩ }

theorem reserveMass_untouched (id n : Nat) (s : State) : PlacesUntouched s (reserveMass id n s) := by
  unfold reserveMass
  split
  · next h => exact setReservation_untouched s id h.1 _
  · exact .refl s

theorem releaseMass_untouched (id n : Nat) (s : State) : PlacesUntouched s (releaseMass id n s) := by
  unfold releaseMass
  split
  · next h => exact setReservation_untouched s id h.1 _
  · exact .refl s

theorem reserveBay_untouched (b n : Nat) (s : State) : PlacesUntouched s (reserveBay b n s) := by
  unfold reserveBay
  split
  · exact setBay_untouched s b { s.bay b with task := some n } rfl
  · exact .refl s

theorem releaseBay_untouched (b n : Nat) (s : State) : PlacesUntouched s (releaseBay b n s) := by
  unfold releaseBay
  split
  · exact setBay_untouched s b { s.bay b with task := none } rfl
  · exact .refl s

theorem releaseBayUnless_untouched (c : Prop) [Decidable c] (b n : Nat) (s : State) :
    PlacesUntouched s (if c then s else releaseBay b n s) := by
  split
  · exact .refl s
  · exact releaseBay_untouched b n s

theorem reserveBayOf_untouched (b : Option Nat) (n : Nat) (s : State) : PlacesUntouched s (reserveBayOf b n s) := by
  cases b with
  | none => exact .refl s
  | some b => exact reserveBay_untouched b n s

theorem releaseBayOf_untouched (b : Option Nat) (n : Nat) (s : State) : PlacesUntouched s (releaseBayOf b n s) := by
  cases b with
  | none => exact .refl s
  | some b => exact releaseBay_untouched b n s

theorem releaseTask_untouched (id : Nat) (s : State) : PlacesUntouched s (releaseTask id s) :=
  ((releaseMass_untouched _ _ _).trans (releaseBayOf_untouched _ _ _)).trans (releaseBay_untouched _ _ _)

/-! ### Tasks (R105 to R126) -/

theorem PlacesUntouched.raiseOn {s t : State} (h : PlacesUntouched s t) (who : Role → Bool) (e : Event) :
    PlacesUntouched s (t.raiseOn who e) :=
  h.trans (RecordsFrame.refl t |>.raiseOn who e).untouched

theorem PlacesUntouched.drive {s t : State} (h : PlacesUntouched s t) : PlacesUntouched s t.drive :=
  h.trans (RecordsFrame.refl t).drive.untouched

theorem State.task_setTask (s : State) (id j : Nat) (x : Task) :
    (s.setTask id x).task j = if j = id ∧ id < 32 then x else s.task j := by
  simp only [State.task, State.setTask_tku, Bank.getD_set]

/-- A task record may change in everything but its mass. -/
theorem setTask_untouched (s : State) (id : Nat) (x : Task) (h : x.mass = (s.task id).mass) :
    PlacesUntouched s (s.setTask id x) :=
  { PlacesUntouched.refl s with
    taskMass := fun j => by
      rw [State.task_setTask]
      split
      · next hj => rw [hj.1, h]
      · rfl }

/-- The collections may change as long as no task joins a queue. -/
theorem setTku_untouched (s : State) (x : Tku) (tasks : x.tasks = s.tku.tasks)
    (queue : ∀ f, ∀ id ∈ x.queues.get f, id ∈ s.tku.queues.get f) : PlacesUntouched s (s.setTku x) :=
  { PlacesUntouched.refl s with
    taskMass := fun id => by simp only [State.task, State.setTku_tku, tasks]
    queue := queue }

theorem setPhase_untouched (id : Nat) (p : Phase) (s : State) : PlacesUntouched s (setPhase id p s) :=
  setTask_untouched s id _ rfl

theorem addTaskReasons_untouched (id : Nat) (r : BitVec 16) (s : State) : PlacesUntouched s (addTaskReasons id r s) :=
  setTask_untouched s id _ rfl

/-- The step difference that a location change hands to its task moves nothing (R97, R118). -/
theorem forTask_untouched (id : Nat) (change : State → State) (s : State) :
    PlacesUntouched (change s) (forTask id change s) :=
  setTask_untouched (change s) id _ rfl

theorem activateHead_untouched (f : Frame) (s : State) : PlacesUntouched s (activateHead f s) := by
  unfold activateHead
  split
  · exact setPhase_untouched _ _ s
  · exact .refl s

/-- A task that ends leaves its queue and gives up its reservations (R121). -/
theorem endTask_untouched (id : Nat) (p : Phase) (next : Bool) (s : State) :
    PlacesUntouched s (endTask id p next s) := by
  unfold endTask
  split
  · exact .refl s
  next f _ =>
  simp only []
  have hr := (releaseTask_untouched id s).trans
    (setTask_untouched (releaseTask id s) id (endedRecord (releaseTask id s) ((releaseTask id s).task id) p) rfl)
  generalize (releaseTask id s).setTask id (endedRecord (releaseTask id s) ((releaseTask id s).task id) p) = t at hr ⊢
  have hq : PlacesUntouched s ((t.setTku { t.tku with
      queues := t.tku.queues.set f ((t.tku.queues.get f).erase id)
      completion := t.tku.completion ++ [id] }).raiseWatchers .completionReady) := by
    refine PlacesUntouched.raiseOn (hr.trans ?_) _ _
    refine setTku_untouched t _ rfl fun g j hj => ?_
    simp only [Pair.get_set] at hj
    split at hj
    · next hg => rw [hg]; exact List.mem_of_mem_erase hj
    · exact hj
  split
  · split
    · exact (hq.trans (activateHead_untouched f _)).raiseOn _ _
    · exact hq.raiseOn _ _
  · exact hq

theorem endWithReasons_untouched (id : Nat) (r : BitVec 16) (p : Phase) (next : Bool) (s : State) :
    PlacesUntouched s (endTask id p next (addTaskReasons id r s)) :=
  (addTaskReasons_untouched id r s).trans (endTask_untouched id p next _)

theorem endQueue_untouched (f : Frame) (s : State) : PlacesUntouched s (endQueue f s) := by
  unfold endQueue
  generalize s.tku.queues.get f = ids
  induction ids generalizing s with
  | nil => exact .refl s
  | cons id ids ih => exact (endWithReasons_untouched id _ _ _ s).trans (ih _)

theorem setPhaseAnnounced_untouched (id : Nat) (p : Phase) (f : Frame) (s : State) :
    PlacesUntouched s ((setPhase id p s).raiseWinder f .taskChanged) :=
  (setPhase_untouched id p s).raiseOn _ _

theorem commitTask_untouched (id : Nat) (f : Frame) (k : Kind) (s : State) :
    PlacesUntouched s (commitTask id f k s) :=
  setPhaseAnnounced_untouched id _ f s

theorem restoreTask_untouched (id : Nat) (f : Frame) (s : State) : PlacesUntouched s (restoreTask id f s) := by
  unfold restoreTask
  split
  · simp only []
    split
    · exact (setPhaseAnnounced_untouched _ _ _ s).trans (endWithReasons_untouched _ _ _ _ _)
    · exact setPhaseAnnounced_untouched _ _ _ s
  · exact setPhaseAnnounced_untouched _ _ _ s
  · exact .refl s

theorem failTask_untouched (id : Nat) (c : BitVec 16) (s : State) : PlacesUntouched s (failTask id c s) :=
  endWithReasons_untouched id _ _ _ s

theorem returnTask_untouched (id : Nat) (f : Frame) (s : State) : PlacesUntouched s (returnTask id f s) := by
  unfold returnTask
  simp only []
  have h := releaseBayUnless_untouched ((s.task id).source.getD (s.task id).dest = (s.task id).dest)
    (s.task id).dest id s
  refine PlacesUntouched.raiseOn (h.trans ?_) _ _
  exact setTask_untouched _ id _ rfl

theorem advanceTask_untouched (id : Nat) (f : Frame) (s : State) : PlacesUntouched s (advanceTask id f s) := by
  unfold advanceTask
  split
  · split
    · exact returnTask_untouched id f s
    · exact setPhaseAnnounced_untouched _ _ _ s
  · exact endTask_untouched _ _ _ s
  · exact .refl s

theorem cancelTask_untouched (id : Nat) (s : State) : PlacesUntouched s (cancelTask id s).1 := by
  unfold cancelTask
  split
  · exact .refl s
  split
  · exact .refl s
  split
  · exact (endWithReasons_untouched _ _ _ _ s).drive
  · exact (endWithReasons_untouched _ _ _ _ s).drive
  · exact setTask_untouched s id _ rfl
  · exact .refl s

theorem moveDestination_untouched (id b : Nat) (s : State) : PlacesUntouched s (moveDestination id b s) := by
  unfold moveDestination
  simp only []
  have h := releaseBayUnless_untouched ((s.task id).source = some (s.task id).dest) (s.task id).dest id s
  exact (h.trans (reserveBay_untouched b id _)).trans (setTask_untouched _ id _ rfl)

theorem redirectTask_untouched (id b : Nat) (s : State) : PlacesUntouched s (redirectTask id b s).1 := by
  unfold redirectTask
  split
  · exact .refl s
  split
  · exact .refl s
  split
  · exact .refl s
  split
  · exact .refl s
  split
  · exact .refl s
  simp only []
  split
  · exact ((moveDestination_untouched id b s).raiseOn _ _).drive
  · exact moveDestination_untouched id b s

theorem takeCompletion_untouched (s : State) : PlacesUntouched s (takeCompletion s).1 := by
  unfold takeCompletion
  split
  · exact .refl s
  · exact setTku_untouched s _ rfl fun _ _ hid => hid

/-! ### LOCKOUT entry and the inventory requests (R95, R100 to R102, R152) -/

theorem releaseFrames_records (s : State) :
    RecordsFrame s (resetTracker .L (resetTracker .U (releaseGrant .L (releaseGrant .U (setMode .lockout s))))) := by
  have hm : RecordsFrame s (setMode .lockout s) := rfl
  have hu := hm.trans (releaseGrant_round .U _).records
  have hl := hu.trans (releaseGrant_round .L _).records
  exact (hl.trans (moveTracker_records .U Tracker.initial _)).trans (moveTracker_records .L Tracker.initial _)

theorem enterLockout_untouched (s : State) : PlacesUntouched s (enterLockout s) := by
  have h := (releaseFrames_records s).untouched
  unfold enterLockout
  simp only []
  generalize resetTracker .L (resetTracker .U (releaseGrant .L (releaseGrant .U (setMode .lockout s)))) = t at h ⊢
  exact ((h.trans (endQueue_untouched .U t)).trans (endQueue_untouched .L _)).raiseOn _ _

theorem requestLockout_untouched (s : State) : PlacesUntouched s (requestLockout s).1 := by
  unfold requestLockout
  split
  · exact .refl s
  split
  · exact .refl s
  split
  · exact .refl s
  · exact (enterLockout_untouched s).drive

theorem confirmInventory_untouched (s : State) : PlacesUntouched s (confirmInventory s).1 := by
  unfold confirmInventory
  split
  · exact .refl s
  generalize firstMass s barsConfirming = barring
  cases barring with
  | some id => exact .refl s
  | none =>
    simp only []
    split
    · exact .refl s
    · exact ((setVerified_untouched true s).trans (saveRequest_untouched [] _)).drive

theorem saveInventory_untouched (s : State) : PlacesUntouched s (saveInventory s).1 :=
  saveRequestByDispatch_untouched s

theorem setBayService_untouched (b flag : Nat) (s : State) : PlacesUntouched s (setBayService b flag s).1 := by
  unfold setBayService
  split
  · exact .refl s
  split
  · exact .refl s
  split
  · exact setBayInService_untouched b _ s
  · exact .refl s

theorem clearTimedOut_records (s : State) (k : Nat) :
    RecordsFrame s (s.setXfc { s.xfc with timedOut := s.xfc.timedOut.set k false }) := rfl

theorem serveLanding_untouched (k : Nat) (v : Bool) (s : State) : PlacesUntouched s (serveLanding k v s) := by
  unfold serveLanding
  simp only []
  split
  · refine (setLandingInService_untouched k v s).trans ?_
    exact (setLanding_untouched _ k _).trans (RecordsFrame.untouched (clearTimedOut_records _ k))
  · exact setLandingInService_untouched k v s

theorem setLandingService_untouched (k flag : Nat) (s : State) :
    PlacesUntouched s (setLandingService k flag s).1 := by
  unfold setLandingService
  split
  · exact .refl s
  split
  · exact .refl s
  split
  · exact serveLanding_untouched k _ s
  · exact .refl s

end Sys2Proof.Machine
end

section
/-! SUPPORT. O11, part 4: the location changes of R87 and R88, and with them every operation of XFC, keep the places. -/

namespace Sys2Proof.Machine

/-! ### Location changes (R86 to R88) -/

/-- A location change stays within INV (R86). -/
theorem putMass_eq_setInv (id : Nat) (r : Mass) (s : State) : putMass id r s = s.setInv (putMass id r s).inv := by
  unfold putMass
  split <;> rfl

theorem putMass_svt (id : Nat) (r : Mass) (s : State) : (putMass id r s).svt = s.svt := by
  rw [putMass_eq_setInv, State.setInv_svt]

theorem putMass_transfer (id : Nat) (r : Mass) (s : State) (f : Frame) :
    (putMass id r s).transfer f = s.transfer f := by
  rw [putMass_eq_setInv]; rfl

theorem putMass_placesFollow {s : State} (h : PlacesFollow s) (id : Nat) (r : Mass) :
    PlacesFollow (putMass id r s) := by
  by_cases h0 : id = 0
  · simpa [putMass, h0] using h
  · exact (putMass_places id r s h0).1

theorem putMass_accountFollows {s : State} (h : AccountFollows s) (id : Nat) (r : Mass) :
    AccountFollows (putMass id r s) := by
  by_cases h0 : id = 0
  · simpa [putMass, h0] using h
  · rw [accountFollows_iff, putMass_svt]
    exact (putMass_places id r s h0).2

/-- The transfer is in a phase that holds its mass between its bay and its frame (R87). -/
def Transfer.HoldsMass (x : Transfer) : Prop :=
  x.phase ≠ .abandoning ∧ x.phase ≠ .finishing

/-- A record is put at places that no other record names, while no transfer holds the mass (R86). -/
theorem putMass_placesHeldOnce {s : State} (h : PlacesHeldOnce s) {id : Nat} (hid : id ∈ massIds) (r : Mass)
    (bay : ∀ b, r.namedBay = some b → ∀ j ∈ massIds, j ≠ id → (s.mass j).namedBay ≠ some b)
    (frame : ∀ f, r.namedFrame = some f → ∀ j ∈ massIds, j ≠ id → (s.mass j).namedFrame ≠ some f)
    (free : ∀ f x, s.transfer f = some x → x.HoldsMass → x.mass ≠ id) : PlacesHeldOnce (putMass id r s) := by
  have hmass {j : Nat} (hj : j ∈ massIds) : (putMass id r s).mass j = if j = id then r else s.mass j :=
    putMass_mass id j r s (mem_massIds.1 hid).1 (mem_massIds.1 hid).2 (mem_massIds.1 hj).1
  refine ⟨fun i hi j hj b => ?_, fun i hi j hj f => ?_, fun f x hx h1 h2 => ?_, fun f n hn => ?_, ?_, ?_, ?_⟩
  · rw [hmass hi, hmass hj]
    split
    · next hii =>
      split
      · next hjj => intros; rw [hii, hjj]
      · next hjj => intro h1 h2; exact absurd h2 (bay b h1 j hj hjj)
    · next hii =>
      split
      · next hjj => intro h1 h2; exact absurd h1 (bay b h2 i hi hii)
      · exact h.bay i hi j hj b
  · rw [hmass hi, hmass hj]
    split
    · next hii =>
      split
      · next hjj => intros; rw [hii, hjj]
      · next hjj => intro h1 h2; exact absurd h2 (frame f h1 j hj hjj)
    · next hii =>
      split
      · next hjj => intro h1 h2; exact absurd h1 (frame f h2 i hi hii)
      · exact h.frame i hi j hj f
  · rw [putMass_transfer] at hx
    obtain ⟨hxid, hrec, hret⟩ := h.transfer f x hx h1 h2
    refine ⟨hxid, ?_, hret⟩
    rw [hmass (mem_massIds.2 hxid), if_neg (free f x hx ⟨h1, h2⟩)]
    exact hrec
  · rw [putMass_eq_setInv] at hn ⊢
    exact h.task f n hn
  · rw [putMass_svt]; exact h.working
  · rw [putMass_eq_setInv]; exact h.edit
  · rw [putMass_eq_setInv]; exact h.saving

theorem InCharge.namedBay {s : State} {f : Frame} {x : Transfer} (h : InCharge s f x) :
    (s.mass x.mass).namedBay = some x.bay := by
  obtain ⟨hstate, hbay, _⟩ := h.record
  simp [Mass.namedBay, hstate, hbay]

theorem InCharge.namedFrame {s : State} {f : Frame} {x : Transfer} (h : InCharge s f x) :
    (s.mass x.mass).namedFrame = some f := by
  obtain ⟨hstate, _, hframe⟩ := h.record
  simp [Mass.namedFrame, hstate, hframe]

theorem InCharge.mem_massIds {s : State} {f : Frame} {x : Transfer} (h : InCharge s f x) : x.mass ∈ massIds :=
  Machine.mem_massIds.2 h.id

/-- The mass in a transfer's charge is put at no other place than the two it names, once the frame's context holds it no
more (R86 to R88). -/
theorem putMass_charged_heldOnce {s : State} (h : PlacesHeldOnce s) {f : Frame} {x : Transfer} (hc : InCharge s f x)
    (done : ∀ y, s.transfer f = some y → ¬ y.HoldsMass) (r : Mass)
    (bay : ∀ b, r.namedBay = some b → b = x.bay) (frame : ∀ g, r.namedFrame = some g → g = f) :
    PlacesHeldOnce (putMass x.mass r s) := by
  refine putMass_placesHeldOnce h hc.mem_massIds r (fun b hb j hj hne hjb => ?_) (fun g hg j hj hne hjg => ?_)
    fun g y hy hold hmass => ?_
  · rw [bay b hb] at hjb
    exact hne (h.bay j hj _ hc.mem_massIds _ hjb hc.namedBay)
  · rw [frame g hg] at hjg
    exact hne (h.frame j hj _ hc.mem_massIds _ hjg hc.namedFrame)
  · have hy' := (h.transfer g y hy hold.1 hold.2).namedFrame
    rw [hmass, hc.namedFrame] at hy'
    obtain rfl : f = g := Option.some.inj hy'
    exact done y hy hold

/-! ### The contexts (R130, R147) -/

theorem State.transfer_setTransfer (s : State) (f g : Frame) (x : Option Transfer) :
    (s.setTransfer f x).transfer g = if g = f then x else s.transfer g := by
  simp only [State.transfer, State.setTransfer_xfc, Pair.get_set]

theorem State.setTransfer_setTransfer (s : State) (f : Frame) (x y : Option Transfer) :
    (s.setTransfer f x).setTransfer f y = s.setTransfer f y := by
  simp [State.setTransfer, State.setXfc]

theorem putMass_setTransfer (id : Nat) (r : Mass) (s : State) (f : Frame) (x : Option Transfer) :
    putMass id r (s.setTransfer f x) = (putMass id r s).setTransfer f x := by
  unfold putMass
  split <;> rfl

/-- A frame's context takes a transfer that has its mass in charge, or one that holds none, or none at all. -/
theorem setTransfer_kept (s : State) (f : Frame) (x : Option Transfer)
    (hx : PlacesHeldOnce s → ∀ y, x = some y → y.HoldsMass → InCharge s f y) : PlacesKept s (s.setTransfer f x) where
  follow h := h
  account h := h
  held h :=
    { bay := h.bay, frame := h.frame, task := h.task, working := h.working, edit := h.edit, saving := h.saving
      transfer := fun g y hy h1 h2 => by
        have hc : InCharge s g y := by
          rw [State.transfer_setTransfer] at hy
          split at hy
          · next hg => rw [hg]; exact hx h y hy ⟨h1, h2⟩
          · exact h.transfer g y hy h1 h2
        exact ⟨hc.id, hc.record, hc.ret⟩ }

theorem setTransfer_none_kept (s : State) (f : Frame) : PlacesKept s (s.setTransfer f none) :=
  setTransfer_kept s f none fun _ _ hy => nomatch hy

/-- While frame f's context is set aside, the mass in its transfer's charge moves within the places it names. -/
theorem putMass_charged_kept {s : State} {f : Frame} {x : Transfer} (hx : s.transfer f = some x) (hold : x.HoldsMass)
    (r : Mass) (places : InCharge s f x →
      (∀ b, r.namedBay = some b → b = x.bay) ∧ ∀ g, r.namedFrame = some g → g = f) :
    PlacesKept s ((putMass x.mass r s).setTransfer f none) where
  follow h := putMass_placesFollow h x.mass r
  account h := putMass_accountFollows h x.mass r
  held h := by
    have hc := h.transfer f x hx hold.1 hold.2
    rw [← putMass_setTransfer]
    refine putMass_charged_heldOnce ((setTransfer_none_kept s f).held h) ⟨hc.id, hc.record, hc.ret⟩ (fun y hy => ?_) r
      (places hc).1 (places hc).2
    simp [State.transfer_setTransfer] at hy

/-! ### Ends of a transfer (R137 to R147) -/

/-- A cleared context is the context set aside, as far as the places go. -/
theorem clearContext_records (f : Frame) (r : TransferResult) (s : State) :
    RecordsFrame (s.setTransfer f none) (clearContext f r s) := rfl

theorem clearContext_kept (f : Frame) (r : TransferResult) (s : State) : PlacesKept s (clearContext f r s) :=
  (setTransfer_none_kept s f).untouched (clearContext_records f r s).untouched

theorem endAbandoned_kept (f : Frame) (saved : Bool) (s : State) : PlacesKept s (endAbandoned f saved s) := by
  unfold endAbandoned
  split
  · exact (clearContext_kept f _ s).untouched ((PlacesUntouched.refl _).raiseOn _ _)
  · exact .refl s

theorem endCompleted_kept (f : Frame) (saved : Bool) (s : State) : PlacesKept s (endCompleted f saved s) := by
  unfold endCompleted
  split
  · exact (clearContext_kept f _ s).untouched ((advanceTask_untouched _ f _).raiseOn _ _)
  · exact .refl s

theorem tripForCause_records (f : Frame) (c : Cause) (s : State) : RecordsFrame s (tripForCause f c s) := by
  unfold tripForCause
  split
  · exact trip_records _ _ _
  · exact .refl s

/-- The end of a failed transfer clears the context that was set aside (R140, R144). -/
theorem endFailed_untouched (f : Frame) (x : Transfer) (c : Cause) (s : State) :
    PlacesUntouched (s.setTransfer f none) (endFailed f x c s) := by
  have hc := (clearContext_records f (x.result .failed c false) s).trans (tripForCause_records f c _)
  unfold endFailed
  exact (hc.untouched.trans (failTask_untouched x.task (causeTaskReason c) _)).raiseOn _ _

/-- A transfer's mass is lost: it names no place any more (R88). -/
theorem loseMass_kept {s : State} {f : Frame} {x : Transfer} (hx : s.transfer f = some x) (hold : x.HoldsMass) :
    PlacesKept s ((forTask x.task (loseMass x.mass) s).setTransfer f none) := by
  refine (putMass_charged_kept hx hold _ fun _ => ⟨fun b hb => ?_, fun g hg => ?_⟩).untouched
    (PlacesUntouched.setTransfer (((setVerified_untouched false _).trans (saveRequest_untouched [] _)).trans
      (forTask_untouched x.task (loseMass x.mass) s)) f none)
  · simp [Mass.namedBay] at hb
  · simp [Mass.namedFrame] at hg

theorem setTimedOut_records (k : Nat) (v : Bool) (s : State) : RecordsFrame s (setTimedOut k v s) := rfl

theorem failRunning_kept (f : Frame) (c : Cause) (s : State)
    (hp : ∀ x, s.transfer f = some x → x.HoldsMass) : PlacesKept s (failRunning f c s) := by
  unfold failRunning
  split
  · next x hx =>
    simp only []
    have hlanding := setLandingInService_untouched x.landing false (forTask x.task (loseMass x.mass) s)
    have hmarked : PlacesUntouched (forTask x.task (loseMass x.mass) s)
        (if c = .transferTimeout then
          setTimedOut x.landing true (setLandingInService x.landing false (forTask x.task (loseMass x.mass) s))
        else setLandingInService x.landing false (forTask x.task (loseMass x.mass) s)) := by
      split
      · exact hlanding.trans (setTimedOut_records _ _ _).untouched
      · exact hlanding
    exact ((loseMass_kept hx (hp x hx)).untouched (hmarked.setTransfer f none)).untouched (endFailed_untouched f x c _)
  · exact .refl s

theorem failVerifying_kept (f : Frame) (c : Cause) (s : State)
    (hp : ∀ x, s.transfer f = some x → x.HoldsMass) : PlacesKept s (failVerifying f c s) := by
  unfold failVerifying
  split
  · next x hx => exact (loseMass_kept hx (hp x hx)).untouched (endFailed_untouched f x c _)
  · exact .refl s

theorem saveFor_kept (f : Frame) (c : Change) {told : State → State} {s : State} (h : PlacesKept s (told s)) :
    PlacesKept s (saveFor f c told s) := by
  unfold saveFor
  split
  · exact h
  · exact (saveRequest_untouched _ s).kept

/-- A restored mass goes back to one of the two places that the commit gave it (R88). -/
theorem restoreMass_kept {s : State} {f : Frame} {x : Transfer} (hx : s.transfer f = some x) (hold : x.HoldsMass) :
    PlacesKept s ((restoreMass x.mass x.ret s).setTransfer f none) := by
  cases hret : x.ret with
  | bay b =>
    refine putMass_charged_kept hx hold _ fun hc => ⟨fun b' hb => ?_, fun g hg => ?_⟩
    · have hr := hc.ret
      simp only [Mass.namedBay, true_or, if_true, Option.some.injEq] at hb
      cases hk : x.kind with
      | load =>
        rw [hk] at hr
        simp only [hret, ReturnPlace.bay.injEq] at hr
        omega
      | unload => simp [hk, hret] at hr
    · simp [Mass.namedFrame] at hg
  | frame g k =>
    refine putMass_charged_kept hx hold _ fun hc => ⟨fun b hb => ?_, fun g' hg => ?_⟩
    · simp [Mass.namedBay] at hb
    · have hr := hc.ret
      simp only [Mass.namedFrame, true_or, if_true, Option.some.injEq] at hg
      cases hk : x.kind with
      | load => simp [hk, hret] at hr
      | unload =>
        rw [hk] at hr
        simp only [hret, ReturnPlace.frame.injEq] at hr
        obtain ⟨_, rfl, _⟩ := hr
        exact hg.symm

theorem restoreMass_setTransfer (id : Nat) (p : ReturnPlace) (s : State) (f : Frame) (x : Option Transfer) :
    restoreMass id p (s.setTransfer f x) = (restoreMass id p s).setTransfer f x := by
  cases p <;> exact putMass_setTransfer _ _ _ _ _

/-- A transfer that holds its mass enters ABANDONING, which holds none (R137). -/
theorem enterAbandoning_kept (f : Frame) (c : Cause) (s : State)
    (hp : ∀ x, s.transfer f = some x → x.HoldsMass) : PlacesKept s (enterAbandoning f c s) := by
  unfold enterAbandoning
  split
  · next x hx =>
    simp only []
    have hrestore : PlacesKept s
        (restoreMass x.mass x.ret (s.setTransfer f (some { x with phase := .abandoning, cause := c }))) := by
      rw [restoreMass_setTransfer, ← State.setTransfer_setTransfer _ f none]
      exact (restoreMass_kept hx (hp x hx)).trans
        (setTransfer_kept _ f _ fun _ y hy hold => absurd (by cases hy; rfl) hold.1)
    refine PlacesKept.trans ?_ (saveFor_kept f .restore (endAbandoned_kept f false _))
    exact (hrestore.untouched (forTask_untouched x.task (restoreMass x.mass x.ret) _)).untouched
      (restoreTask_untouched _ _ _)
  · exact .refl s

/-- A verified mass keeps one of the two places that the commit gave it (R87). -/
theorem verifiedMass_kept {s : State} {f : Frame} {x : Transfer} (hx : s.transfer f = some x) (hold : x.HoldsMass) :
    PlacesKept s ((verifiedMass f x s).setTransfer f none) := by
  unfold verifiedMass
  split
  · refine putMass_charged_kept hx hold _ fun _ => ⟨fun b hb => ?_, fun g hg => ?_⟩
    · simp [Mass.namedBay] at hb
    · simpa [Mass.namedFrame, eq_comm] using hg
  · refine putMass_charged_kept hx hold _ fun _ => ⟨fun b hb => ?_, fun g hg => ?_⟩
    · simpa [Mass.namedBay, eq_comm] using hb
    · simp [Mass.namedFrame] at hg

theorem verify_kept (f : Frame) (r : Report) (s : State)
    (hp : ∀ x, s.transfer f = some x → x.HoldsMass) : PlacesKept s (verify f r s) := by
  unfold verify
  split
  · next x hx =>
    split
    · simp only []
      refine PlacesKept.trans ?_ (saveFor_kept f .verified (endCompleted_kept f false _))
      rw [← State.setTransfer_setTransfer _ f none]
      refine PlacesKept.trans ?_
        (setTransfer_kept _ f _ fun _ y hy hold => absurd (by cases hy; rfl) hold.2)
      exact (verifiedMass_kept hx (hp x hx)).untouched
        ((forTask_untouched x.task (verifiedMass f x) s).setTransfer f none)
    · exact failVerifying_kept f _ s hp
  · exact .refl s

/-! ### Reports, answers, gear edges, the timer and the stop notice (R135 to R146) -/

theorem holdsMass_of_phase {x : Transfer} (h : x.phase = .committing ∨ x.phase = .gearRunning ∨ x.phase = .verifying) :
    x.HoldsMass := by
  rcases h with h | h | h <;> simp [Transfer.HoldsMass, h]

theorem brakeReleased_kept (f : Frame) (p : XPhase) (s : State) (hp : ∀ x, s.transfer f = some x → x.phase = p) :
    PlacesKept s (brakeReleased f p s) := by
  cases p with
  | committing => exact enterAbandoning_kept f _ s fun x hx => holdsMass_of_phase (.inl (hp x hx))
  | gearRunning => exact failRunning_kept f _ s fun x hx => holdsMass_of_phase (.inr (.inl (hp x hx)))
  | abandoning => exact .refl s
  | verifying => exact failVerifying_kept f _ s fun x hx => holdsMass_of_phase (.inr (.inr (hp x hx)))
  | finishing => exact .refl s

theorem askBrakeTrip_records (f : Frame) (s : State) : RecordsFrame s (askBrakeTrip f s) := by
  unfold askBrakeTrip
  split
  · exact .refl s
  · exact trip_records _ _ _

theorem eq_of_transfer {s : State} {f : Frame} {x y : Transfer} (hx : s.transfer f = some x)
    (hy : s.transfer f = some y) : y = x :=
  Option.some.inj (hy.symm.trans hx)

theorem reportToTransfer_kept (f : Frame) (r : Report) (tripped : Bool) (s : State) :
    PlacesKept s (reportToTransfer f r tripped s) := by
  unfold reportToTransfer
  split
  · next x hx =>
    split
    · have ht := (askBrakeTrip_records f s).untouched
      refine ht.kept.trans (brakeReleased_kept f x.phase _ fun y hy => ?_)
      rw [ht.transfer] at hy
      rw [eq_of_transfer hx hy]
    · split
      · next hv =>
        exact verify_kept f r s fun y hy => holdsMass_of_phase (.inr (.inr (eq_of_transfer hx hy ▸ hv.1)))
      · exact .refl s
  · exact .refl s

theorem commitAnswered_kept {f : Frame} {x : Transfer} {s : State} (hx : s.transfer f = some x)
    (hp : x.phase = .committing) (saved : Bool) : PlacesKept s (commitAnswered f x saved s) := by
  have hold : x.HoldsMass := holdsMass_of_phase (.inl hp)
  unfold commitAnswered
  split
  · refine setTransfer_kept s f _ fun h y hy _ => ?_
    obtain rfl := Option.some.inj hy
    have hc := h.transfer f x hx hold.1 hold.2
    exact ⟨hc.id, hc.record, hc.ret⟩
  · exact enterAbandoning_kept f _ s fun y hy => eq_of_transfer hx hy ▸ hold

theorem saveAnswered_kept (w : Waiter) (saved : Bool) (s : State) : PlacesKept s (saveAnswered w saved s) := by
  unfold saveAnswered
  split
  · next x hx =>
    split
    · next hp _ => exact commitAnswered_kept hx hp saved
    · exact endAbandoned_kept _ _ s
    · exact endCompleted_kept _ _ s
    · exact .refl s
  · exact .refl s

theorem tellAll_kept (ws : List Waiter) (saved : Bool) (s : State) : PlacesKept s (tellAll ws saved s) := by
  unfold tellAll
  induction ws generalizing s with
  | nil => exact .refl s
  | cons w ws ih => exact (saveAnswered_kept w saved s).trans (ih _)

theorem stopNotice_kept (f : Frame) (s : State) : PlacesKept s (stopNotice f s) := by
  unfold stopNotice
  split
  · next x hx =>
    split
    · next hp =>
      exact enterAbandoning_kept f _ s fun y hy => holdsMass_of_phase (.inl (eq_of_transfer hx hy ▸ hp))
    · next hp =>
      exact failRunning_kept f _ s fun y hy => holdsMass_of_phase (.inr (.inl (eq_of_transfer hx hy ▸ hp)))
    · exact .refl s
  · exact .refl s

theorem stopAsserted_kept (s : State) : PlacesKept s (stopAsserted s) := by
  have hlatch : RecordsFrame s
      ((s.setMdc { s.mdc with stopN := true, latch := true }).raiseWatchers .stopSeen) := rfl
  unfold stopAsserted
  split
  · exact .refl s
  · exact (((hlatch.trans (enterHold_records _)).untouched.kept.trans (stopNotice_kept .U _)).trans
      (stopNotice_kept .L _)).untouched (PlacesUntouched.refl _).drive

theorem gearFrame_running {s : State} {k : Nat} {f : Frame} (h : gearFrame s k = some f) :
    ∀ x, s.transfer f = some x → x.phase = .gearRunning := by
  intro x hx
  have hr := List.find?_some h
  unfold runsGear at hr
  rw [hx] at hr
  simp only [Bool.and_eq_true, beq_iff_eq] at hr
  exact hr.1

theorem unexpectedEdge_untouched (k : Nat) (done : Bool) (s : State) :
    PlacesUntouched s (unexpectedEdge k done s) := by
  unfold unexpectedEdge
  refine PlacesUntouched.raiseOn ?_ _ _
  split
  · split
    · exact (setLanding_untouched s k _).trans (setTimedOut_records _ _ _).untouched
    · exact setLanding_untouched s k _
  · exact .refl s

/-- The gear's end takes the transfer from one phase that holds its mass to another (R139). -/
theorem gearDone_kept (f : Frame) (s : State) (hp : ∀ x, s.transfer f = some x → x.phase = .gearRunning) :
    PlacesKept s (gearDone f s) := by
  unfold gearDone
  split
  · next x hx =>
    have hold : x.HoldsMass := holdsMass_of_phase (.inr (.inl (hp x hx)))
    refine setTransfer_kept s f _ fun h y hy _ => ?_
    obtain rfl := Option.some.inj hy
    have hc := h.transfer f x hx hold.1 hold.2
    exact ⟨hc.id, hc.record, hc.ret⟩
  · exact .refl s

theorem gdoneEdge_kept (k : Nat) (s : State) : PlacesKept s (gdoneEdge k s) := by
  unfold gdoneEdge
  split
  · next f hf => exact gearDone_kept f s (gearFrame_running hf)
  · exact (unexpectedEdge_untouched k true s).kept

theorem gfltEdge_kept (k : Nat) (s : State) : PlacesKept s (gfltEdge k s) := by
  unfold gfltEdge
  split
  · next f hf =>
    exact failRunning_kept f _ s fun x hx => holdsMass_of_phase (.inr (.inl (gearFrame_running hf x hx)))
  · exact (unexpectedEdge_untouched k false s).kept

theorem transferExpires_kept (f : Frame) (s : State) : PlacesKept s (transferExpires f s) := by
  unfold transferExpires
  split
  · next hdue =>
    refine (failRunning_kept f _ s fun x hx => holdsMass_of_phase (.inr (.inl ?_))).untouched
      (PlacesUntouched.refl _).drive
    unfold transferDue at hdue
    rw [hx] at hdue
    simp only [Bool.and_eq_true, beq_iff_eq] at hdue
    exact hdue.1
  · exact .refl s

/-! ### POSITION (R18 to R33) -/

theorem checkedReport_kept (f : Frame) (r : Report) (s : State) : PlacesKept s (checkedReport f r s) := by
  have ha : RecordsFrame s (acceptReport f r s) := rfl
  unfold checkedReport
  simp only []
  exact (ha.trans (tripOr_records (settleReport_records f r _))).untouched.kept.trans (reportToTransfer_kept _ _ _ _)

theorem takeReport_kept (f : Frame) (r : Report) (s : State) : PlacesKept s (takeReport f r s).1 := by
  have haccept : RecordsFrame s (acceptReport f r s) := rfl
  have hcount : RecordsFrame s (countRejection f s) := rfl
  unfold takeReport
  split
  · exact .refl s
  split
  · split
    · exact (acquire_records f r s).untouched.kept
    · exact .refl s
  · split
    · exact haccept.untouched.kept.trans (reportToTransfer_kept _ _ _ _)
    · exact hcount.untouched.kept
  · split
    · exact checkedReport_kept f r s
    · exact (rejectReport_records f s).untouched.kept

theorem position_kept (f : Frame) (e : BitVec 32) (v : BitVec 16) (m : BitVec 32) (fl : Byte) (s : State) :
    PlacesKept s (position f e v m fl s).1 :=
  (takeReport_kept f (takenReport s e v m fl) s).untouched (PlacesUntouched.refl _).drive

end Sys2Proof.Machine
end

section
/-! SUPPORT. O11, part 5: the requests that give a mass a new place or a new task, TRANSFER, DECLARE_MASS and
SUBMIT_TASK, keep the places by their checks. -/

namespace Sys2Proof.Machine

/-! ### What a step keeps -/

/-- What O11 asks of a step: places stay held once in states whose other invariants hold. -/
structure StepKept (s t : State) : Prop where
  follow : PlacesFollow s → PlacesFollow t
  account : AccountFollows s → AccountFollows t
  held : PlacesHeldOnce s → PlacesFollow s → PoolPartitioned s → LockoutIsQuiet s → PlacesHeldOnce t

theorem PlacesKept.step {s t : State} (h : PlacesKept s t) : StepKept s t :=
  ⟨h.follow, h.account, fun hs _ _ _ => h.held hs⟩

theorem StepKept.refl (s : State) : StepKept s s := (PlacesKept.refl s).step

theorem PlacesUntouched.step {s t : State} (h : PlacesUntouched s t) : StepKept s t := h.kept.step

theorem RecordsFrame.step {s t : State} (h : RecordsFrame s t) : StepKept s t := h.untouched.step

theorem StepKept.kept {s t u : State} (h1 : StepKept s t) (h2 : PlacesKept t u) : StepKept s u :=
  ⟨fun h => h2.follow (h1.follow h), fun h => h2.account (h1.account h),
    fun hs hf hp hq => h2.held (h1.held hs hf hp hq)⟩

theorem StepKept.drive {s t : State} (h : StepKept s t) : StepKept s t.drive :=
  h.kept (PlacesUntouched.refl t).drive.kept

/-! ### TRANSFER (R132 to R134) -/

theorem bayPlace_lt (cs : List Nat) (k b : Nat) (h : (bayPlace cs k b).isSome) : b < cs.sum := by
  induction cs generalizing k b with
  | nil => simp [bayPlace] at h
  | cons c cs ih =>
    rw [bayPlace] at h
    rw [List.sum_cons]
    split at h
    · omega
    · have := ih _ _ h
      omega

/-- A bay that has a landing is a bay of the layout (R5). -/
theorem lt_nb_of_landingOf {sv : Survey} {b k : Nat} (h : sv.landingOf b = some k) : b < sv.nb := by
  refine bayPlace_lt sv.bayCounts 0 b ?_
  unfold Survey.landingOf Survey.bayIdentity at h
  rw [Option.map_eq_some_iff] at h
  obtain ⟨_, h, _⟩ := h
  rw [h]; rfl

theorem lt_nb_of_bayUsable {s : State} {b : Nat} (h : bayUsable s b = true) : b < s.svt.working.nb := by
  unfold bayUsable at h
  split at h
  · next k hk => exact lt_nb_of_landingOf hk
  · simp at h

theorem head_mem_queue {s : State} {f : Frame} {id : Nat} (h : s.head f = some id) : id ∈ s.tku.queues.get f :=
  List.mem_of_head? h

/-- The head's call is for the mass that its task names (R117). -/
theorem headCall_task {s : State} {f : Frame} {k task mass bay : Nat} {kind : Kind}
    (h : headCall s f k = some (kind, task, mass, bay)) :
    task ∈ s.tku.queues.get f ∧ mass = (s.task task).mass := by
  unfold headCall at h
  split at h
  · next id hid =>
    have hm := head_mem_queue hid
    simp only [] at h
    split at h
    · split at h
      · cases h; exact ⟨hm, rfl⟩
      · cases h
    · split at h
      · cases h; exact ⟨hm, rfl⟩
      · cases h
    · cases h
  · cases h

theorem firstMass_none {s : State} {p : Mass → Bool} (h : firstMass s p = none) {j : Nat} (hj : j ∈ massIds) :
    p (s.mass j) = false := by
  have := List.find?_eq_none.1 h j hj
  simpa using this

/-- Where the checks of R132 pass, no other record names the bay or the frame of the transfer. -/
structure TransferFits (s : State) (f : Frame) (kind : Kind) (mass bay : Nat) : Prop where
  state : (s.mass mass).state ≠ .inTransfer
  bay : ∀ j ∈ massIds, j ≠ mass → (s.mass j).namedBay ≠ some bay
  frame : ∀ j ∈ massIds, j ≠ mass → (s.mass j).namedFrame ≠ some f

theorem transferBar_none {s : State} {f : Frame} {kind : Kind} {mass bay : Nat}
    (h : transferBar s f kind mass bay = none) :
    massInPlace s f kind mass bay = true ∧ ¬ (kind = .load ∧ (massOnFrame s f).isSome) ∧
      ¬ (kind = .unload ∧ (s.bay bay).content.isSome) ∧ bayUsable s bay = true := by
  unfold transferBar at h
  split at h
  · cases h
  next hplace =>
  split at h
  · cases h
  next hload =>
  split at h
  · cases h
  next hunload =>
  split at h
  · cases h
  next husable =>
  exact ⟨by simpa using hplace, hload, hunload, by simpa using husable⟩

theorem transferFits {s : State} (hs : PlacesHeldOnce s) (hf : PlacesFollow s) {f : Frame} {kind : Kind}
    {mass bay : Nat} (hid : mass ∈ massIds) (h : transferBar s f kind mass bay = none) :
    TransferFits s f kind mass bay := by
  obtain ⟨hplace, hload, hunload, husable⟩ := transferBar_none h
  have hbay : bay < 40 := lt_of_lt_of_le (lt_nb_of_bayUsable husable) hs.working
  cases kind with
  | load =>
    simp only [massInPlace, Bool.and_eq_true, beq_iff_eq] at hplace
    obtain ⟨hstate, hat⟩ := hplace
    have hnamed : (s.mass mass).namedBay = some bay := by simp [Mass.namedBay, hstate, hat]
    refine ⟨by simp [hstate], fun j hj hne hjb => hne (hs.bay j hj mass hid bay hjb hnamed), fun j hj _ hjf => ?_⟩
    have hnone : massOnFrame s f = none := by simpa using hload
    have := firstMass_none hnone hj
    simp [hjf] at this
  | unload =>
    simp only [massInPlace, Bool.and_eq_true, beq_iff_eq] at hplace
    obtain ⟨hstate, hat⟩ := hplace
    have hnamed : (s.mass mass).namedFrame = some f := by simp [Mass.namedFrame, hstate, hat]
    refine ⟨by simp [hstate], fun j hj _ => ?_, fun j hj hne hjf => hne (hs.frame j hj mass hid f hjf hnamed)⟩
    exact no_namedBay_of_empty hf hbay (by simpa using hunload) hj

theorem commitMass_setTransfer (id b : Nat) (g f : Frame) (s : State) (x : Option Transfer) :
    commitMass id b g (s.setTransfer f x) = (commitMass id b g s).setTransfer f x :=
  putMass_setTransfer _ _ _ _ _

/-- The commit gives a mass that no transfer holds the places that its transfer needs (R87, R134). -/
theorem commitMass_placesHeldOnce {s : State} (hs : PlacesHeldOnce s) {f : Frame} {x : Transfer}
    (hid : x.mass ∈ massIds) (hfits : TransferFits s f x.kind x.mass x.bay) :
    PlacesHeldOnce (commitMass x.mass x.bay f s) := by
  refine putMass_placesHeldOnce hs hid _ (fun b hb => ?_) (fun g hg => ?_) fun g y hy hold hmass => ?_
  · simp only [Mass.namedBay, or_true, if_true, Option.some.injEq] at hb
    exact hb ▸ hfits.bay
  · simp only [Mass.namedFrame, or_true, if_true, Option.some.injEq] at hg
    exact hg ▸ hfits.frame
  · exact hfits.state (hmass ▸ (hs.transfer g y hy hold.1 hold.2).record.1)

/-- The return place is the one the commit takes the mass from (R134). -/
def Transfer.ReturnFits (x : Transfer) (f : Frame) : Prop :=
  (x.kind = .load → x.ret = .bay x.bay) ∧ (x.kind = .unload → ∃ k, x.ret = .frame f k)

theorem newTransfer_returnFits (s : State) (f : Frame) (k : Nat) (r : Report) (kind : Kind) (task mass bay : Nat) :
    (newTransfer s f k r kind task mass bay).ReturnFits f := by
  cases kind with
  | load => exact ⟨fun _ => rfl, fun h => nomatch h⟩
  | unload => exact ⟨fun h => (nomatch h), fun _ => ⟨_, rfl⟩⟩

theorem commitMass_inCharge {s : State} {f : Frame} {x : Transfer} (hid : x.mass ∈ massIds) (hret : x.ReturnFits f) :
    InCharge (commitMass x.mass x.bay f s) f x := by
  have h := mem_massIds.1 hid
  refine ⟨h, ?_, ?_⟩
  · rw [commitMass, putMass_mass _ _ _ _ h.1 h.2 h.1, if_pos rfl]
    exact ⟨rfl, rfl, rfl⟩
  · cases hk : x.kind with
    | load => exact hret.1 hk
    | unload => exact hret.2 hk

/-- Facts about the records carry over where INV is the same. -/
theorem TransferFits.of_inv {s t : State} (h : t.inv = s.inv) {f : Frame} {kind : Kind} {mass bay : Nat}
    (hs : TransferFits s f kind mass bay) : TransferFits t f kind mass bay := by
  have hm (id : Nat) : t.mass id = s.mass id := by simp only [State.mass, h]
  refine ⟨?_, ?_, ?_⟩
  · rw [hm]; exact hs.state
  · simp only [hm]; exact hs.bay
  · simp only [hm]; exact hs.frame

/-- An accepted TRANSFER keeps the places, on a state `t` that the reservation of zones has led to from `s`. -/
theorem acceptTransfer_step {s t : State} (hst : PlacesKept s t) {f : Frame} {x : Transfer}
    (hfits : PlacesHeldOnce s → PlacesFollow s → x.mass ∈ massIds ∧ TransferFits t f x.kind x.mass x.bay)
    (hret : x.ReturnFits f) : StepKept s (acceptTransfer f x t) := by
  have hcommit : StepKept s (commitMass x.mass x.bay f (t.setTransfer f (some x))) := by
    rw [commitMass_setTransfer]
    refine ⟨fun h => putMass_placesFollow (hst.follow h) _ _,
      fun h => putMass_accountFollows (hst.account h) _ _, fun hs hf _ _ => ?_⟩
    obtain ⟨hid, hfit⟩ := hfits hs hf
    refine (setTransfer_kept _ f _ fun _ y hy _ => ?_).held (commitMass_placesHeldOnce (hst.held hs) hid hfit)
    obtain rfl := Option.some.inj hy
    exact commitMass_inCharge hid hret
  refine hcommit.kept (PlacesUntouched.kept ?_)
  exact ((forTask_untouched x.task (commitMass x.mass x.bay f) _).trans (commitTask_untouched _ _ _ _)).trans
    (saveRequest_untouched _ _)

theorem startTransfer_step {f : Frame} {k : Nat} {r : Report} {kind : Kind} {task mass bay : Nat} {s : State}
    (hid : PlacesHeldOnce s → mass ∈ massIds) : StepKept s (startTransfer f k r kind task mass bay s).1 := by
  unfold startTransfer
  cases hbar : transferBar s f kind mass bay with
  | some st => exact .refl s
  | none =>
    simp only []
    cases hzones : reserveZones f (reservation s.svt.working f r (payloadAfter s kind mass)) s with
    | none => exact .refl s
    | some t =>
      have ht := reserveZones_records hzones
      have hinv : t.inv = s.inv := by rw [ht]
      exact (acceptTransfer_step ht.untouched.kept
        (fun hs hf => ⟨hid hs, (transferFits hs hf (hid hs) hbar).of_inv hinv⟩)
        (newTransfer_returnFits s f k r kind task mass bay)).drive

theorem requestTransfer_step (f : Frame) (s : State) : StepKept s (requestTransfer f s).1 := by
  unfold requestTransfer
  split
  · exact .refl s
  split
  · exact .refl s
  split
  · exact .refl s
  split
  · next k r _ _ =>
    split
    · exact .refl s
    split
    · exact .refl s
    cases hcall : headCall s f k with
    | none => exact .refl s
    | some call =>
      obtain ⟨kind, task, mass, bay⟩ := call
      obtain ⟨hqueue, hmass⟩ := headCall_task hcall
      exact startTransfer_step fun hs => mem_massIds.2 (hmass ▸ hs.task f task hqueue)
  · exact .refl s

/-! ### DECLARE_MASS (R99) -/

theorem Mass.bay_of_namedBay {r : Mass} {b : Nat} (h : r.namedBay = some b) : r.bay = some b := by
  unfold Mass.namedBay at h
  split at h
  · exact h
  · cases h

theorem Mass.frame_of_namedFrame {r : Mass} {f : Frame} (h : r.namedFrame = some f) : r.frame = some f := by
  unfold Mass.namedFrame at h
  split at h
  · exact h
  · cases h

/-- The BAY check of a declaration finds a bay that no other record names (R99, check 4). -/
theorem declareBayFits_free {s : State} (hs : PlacesHeldOnce s) (hf : PlacesFollow s) {id : Nat} {r : Mass}
    (h : declareBayFits s id r = true) {b : Nat} (hb : r.namedBay = some b) :
    ∀ j ∈ massIds, j ≠ id → (s.mass j).namedBay ≠ some b := by
  intro j hj hne hjb
  simp only [declareBayFits, Mass.bay_of_namedBay hb, Bool.and_eq_true, Bool.or_eq_true, beq_iff_eq,
    Option.isNone_iff_eq_none] at h
  obtain ⟨husable, hcontent⟩ := h
  have hb40 : b < 40 := lt_of_lt_of_le (lt_nb_of_bayUsable husable) hs.working
  rcases hcontent with hempty | hown
  · exact no_namedBay_of_empty hf hb40 hempty hj hjb
  · obtain ⟨hid, hnamed⟩ := namedBay_of_content hf hb40 hown
    exact hne (hs.bay j hj id hid b hjb hnamed)

/-- The FRAME check of a declaration finds a frame that no other record names (R99, check 5). -/
theorem declareFrameFits_free {s : State} {id : Nat} {r : Mass} (h : declareFrameFits s id r = true) {f : Frame}
    (hf : r.namedFrame = some f) : ∀ j ∈ massIds, j ≠ id → (s.mass j).namedFrame ≠ some f := by
  intro j hj hne
  simp only [declareFrameFits, Mass.frame_of_namedFrame hf, List.all_eq_true, Bool.or_eq_true, beq_iff_eq,
    bne_iff_ne] at h
  exact (h j hj).resolve_left hne

theorem declare_untouched (id : Nat) (r : Mass) (s : State) : PlacesUntouched (putMass id r s) (declare id r s) :=
  (setVerified_untouched false _).trans (saveRequestIf_untouched _ _)

/-- A declaration is taken in LOCKOUT, where no transfer holds a mass (R99, R152). -/
theorem declareMass_step (id nominal kind p1 p2 : Nat) (s : State) :
    StepKept s (declareMass id nominal kind p1 p2 s).1 := by
  unfold declareMass
  split
  · exact .refl s
  next hmode =>
  split
  · exact .refl s
  next hrange =>
  cases declaredRecord s (s.mass id) nominal kind p1 p2 with
  | none => exact .refl s
  | some r =>
    simp only []
    split
    · exact .refl s
    next hbay =>
    split
    · exact .refl s
    next hframe =>
    have hid : id ∈ massIds := by
      simp only [declareInRange, Bool.not_eq_true', Bool.not_eq_false, Bool.and_eq_true, decide_eq_true_eq] at hrange
      exact mem_massIds.2 hrange.1.1
    have hput : StepKept s (putMass id r s) := by
      refine ⟨fun h => putMass_placesFollow h _ _, fun h => putMass_accountFollows h _ _, fun hs hf _ hq => ?_⟩
      refine putMass_placesHeldOnce hs hid r (fun b hb => declareBayFits_free hs hf (by simpa using hbay) hb)
        (fun f hf => declareFrameFits_free (by simpa using hframe) hf) fun f x hx _ => ?_
      have hnone := (hq.quiet (by simpa using hmode) f).transfer
      rw [hnone] at hx
      cases hx
    exact (hput.kept (declare_untouched id r s).kept).drive

/-! ### SUBMIT_TASK (R110 to R114) -/

theorem mem_of_lowest {ids : List Nat} {n : Nat} (h : lowest ids = some n) : n ∈ ids := by
  induction ids generalizing n with
  | nil => cases h
  | cons a as ih =>
    rw [lowest] at h
    split at h
    · next b hb =>
      obtain rfl := Option.some.inj h
      rcases Nat.le_total a b with hab | hab
      · rw [Nat.min_eq_left hab]; exact List.mem_cons_self
      · rw [Nat.min_eq_right hab]; exact List.mem_cons_of_mem _ (ih hb)
    · obtain rfl := Option.some.inj h
      exact List.mem_cons_self

/-- A record of the free list is a record of the pool, and in no queue (R106). -/
theorem free_not_queued {s : State} (h : PoolPartitioned s) {n : Nat} (hn : n ∈ s.tku.free) :
    n < 32 ∧ ∀ f, n ∉ s.tku.queues.get f := by
  have hnodup := h.nodup_iff.2 List.nodup_range
  rw [List.append_assoc, List.append_assoc, List.nodup_append] at hnodup
  have hapart := hnodup.2.2 n hn
  refine ⟨List.mem_range.1 (h.mem_iff.1 (by simp [hn])), fun f hq => ?_⟩
  cases f with
  | U => exact hapart n (List.mem_append_left _ hq) rfl
  | L => exact hapart n (List.mem_append_right _ (List.mem_append_left _ hq)) rfl

/-- A task record may be replaced that names a mass or is in no queue. -/
theorem setTask_placesHeldOnce {s : State} (hs : PlacesHeldOnce s) (n : Nat) (x : Task)
    (hx : ∀ f, n ∈ s.tku.queues.get f → 1 ≤ x.mass ∧ x.mass ≤ 40) : PlacesHeldOnce (s.setTask n x) :=
  { bay := hs.bay, frame := hs.frame, working := hs.working, edit := hs.edit, saving := hs.saving
    transfer := fun f y hy h1 h2 => by
      have hc := hs.transfer f y hy h1 h2
      exact ⟨hc.id, hc.record, hc.ret⟩
    task := fun f id hid => by
      rw [State.task_setTask]
      split
      · next h => exact hx f (h.1 ▸ hid)
      · exact hs.task f id hid }

/-- A task that names a mass may join a queue. -/
theorem setQueue_placesHeldOnce {s : State} (hs : PlacesHeldOnce s) (f : Frame) (n : Nat)
    (hn : 1 ≤ (s.task n).mass ∧ (s.task n).mass ≤ 40) :
    PlacesHeldOnce (setQueue f (s.tku.queues.get f ++ [n]) s) :=
  { bay := hs.bay, frame := hs.frame, working := hs.working, edit := hs.edit, saving := hs.saving
    transfer := fun g y hy h1 h2 => by
      have hc := hs.transfer g y hy h1 h2
      exact ⟨hc.id, hc.record, hc.ret⟩
    task := fun g id hid => by
      simp only [setQueue, State.setTku_tku, Pair.get_set] at hid
      split at hid
      · rcases List.mem_append.1 hid with h | h
        · exact hs.task f id h
        · rw [List.mem_singleton] at h
          rw [h]
          exact hn
      · exact hs.task g id hid }

/-- A task's record is taken from the free list and its reservations are made, before it joins its queue (R114). -/
def reservedFor (n : Nat) (r : Task) (s : State) : State :=
  let t := s.setTask n r
  let t := t.setTku { t.tku with free := t.tku.free.erase n }
  reserveBay r.dest n (reserveBayOf r.source n (reserveMass r.mass n t))

theorem reservedFor_untouched (n : Nat) (r : Task) (s : State) :
    PlacesUntouched (s.setTask n r) (reservedFor n r s) := by
  have hfree : PlacesUntouched (s.setTask n r)
      ((s.setTask n r).setTku { (s.setTask n r).tku with free := (s.setTask n r).tku.free.erase n }) :=
    setTku_untouched _ _ rfl fun _ _ hid => hid
  exact ((hfree.trans (reserveMass_untouched _ _ _)).trans (reserveBayOf_untouched _ _ _)).trans
    (reserveBay_untouched _ _ _)

/-- The accepted task at the tail of its queue (R114). -/
def queuedWith (n : Nat) (r : Task) (f : Frame) (s : State) : State :=
  setQueue f ((reservedFor n r s).tku.queues.get f ++ [n]) (reservedFor n r s)

theorem acceptTask_eq (n : Nat) (tag : BitVec 16) (id b : Nat) (f : Frame) (s : State) :
    acceptTask n tag id b f s =
      if (queuedWith n (newTask s tag id b f) f s).head f = some n then
        (activateHead f (queuedWith n (newTask s tag id b f) f s)).raiseWinder f .taskChanged
      else queuedWith n (newTask s tag id b f) f s := rfl

theorem queuedWith_step {n : Nat} {r : Task} {f : Frame} {s : State} (hr : 1 ≤ r.mass ∧ r.mass ≤ 40)
    (hn : n ∈ s.tku.free) : StepKept s (queuedWith n r f s) where
  follow h := (reservedFor_untouched n r s).placesFollow h
  account h := (reservedFor_untouched n r s).accountFollows h
  held hs _ hp _ := by
    obtain ⟨hlt, hnot⟩ := free_not_queued hp hn
    have ht := reservedFor_untouched n r s
    refine setQueue_placesHeldOnce
      (ht.placesHeldOnce (setTask_placesHeldOnce hs n r fun g hg => absurd hg (hnot g))) f n ?_
    rw [ht.taskMass, State.task_setTask, if_pos ⟨rfl, hlt⟩]
    exact hr

theorem acceptTask_step {n : Nat} {tag : BitVec 16} {id b : Nat} {f : Frame} {s : State} (hid : 1 ≤ id ∧ id ≤ 40)
    (hn : n ∈ s.tku.free) : StepKept s (acceptTask n tag id b f s) := by
  have hqueued := queuedWith_step (r := newTask s tag id b f) (f := f) hid hn
  rw [acceptTask_eq]
  split
  · exact hqueued.kept ((activateHead_untouched f _).raiseOn _ _).kept
  · exact hqueued

theorem submitTask_step (tag : BitVec 16) (id b frame : Nat) (s : State) :
    StepKept s (submitTask tag id b frame s).1 := by
  unfold submitTask
  split
  · exact .refl s
  split
  · exact .refl s
  split
  · exact .refl s
  next n hn =>
  split
  · exact .refl s
  next hmovable =>
  split
  · exact .refl s
  split
  · exact .refl s
  split
  · exact .refl s
  have hid : 1 ≤ id ∧ id ≤ 40 := by
    simp only [massMovable, Bool.not_eq_true', Bool.not_eq_false, Bool.and_eq_true, decide_eq_true_eq] at hmovable
    exact hmovable.1.1
  exact (acceptTask_step hid (mem_of_lowest hn)).drive

end Sys2Proof.Machine
end

section
/-! SUPPORT. O11, part 6: survey saves, the ends of store attempts, cold reset and SURVEY_READ_END. -/

namespace Sys2Proof.Machine

/-! ### The survey and its saves (R3 to R12) -/

/-- Where the records, the transfers and the tasks stay, places are held once under any survey and store state that
meet the rest of the invariant. -/
theorem PlacesHeldOnce.with_survey {s t : State} (hs : PlacesHeldOnce s) (masses : t.inv.masses = s.inv.masses)
    (contexts : t.xfc.contexts = s.xfc.contexts) (tku : t.tku = s.tku) (working : t.svt.working.nb ≤ 40)
    (edit : t.svt.saveOutstanding = true → t.svt.edit.nb ≤ 40 ∧ t.startUp = .ended)
    (saving : surveyWrites t.sti ≤ if t.svt.saveOutstanding then 1 else 0) : PlacesHeldOnce t := by
  have hm (id : Nat) : t.mass id = s.mass id := by simp only [State.mass, masses]
  refine ⟨?_, ?_, fun f x hx h1 h2 => ?_, fun f id hid => ?_, working, edit, saving⟩
  · simp only [hm]; exact hs.bay
  · simp only [hm]; exact hs.frame
  · rw [State.transfer, contexts] at hx
    have hc := hs.transfer f x hx h1 h2
    exact ⟨hc.id, by rw [hm]; exact hc.record, hc.ret⟩
  · rw [tku] at hid
    rw [State.task, tku]
    exact hs.task f id hid

/-- STI may change as long as it holds no more SURVEY writes than before. -/
theorem setSti_kept (s : State) (x : Sti) (h : surveyWrites x ≤ surveyWrites s.sti) : PlacesKept s (s.setSti x) :=
  ⟨id, id, fun hs => hs.with_survey rfl rfl rfl hs.working hs.edit (h.trans hs.saving)⟩

theorem setSurveyItem_kept (code index value : Nat) (s : State) :
    PlacesKept s (setSurveyItem code index value s).1 := by
  unfold setSurveyItem
  split
  · exact .refl s
  split
  · exact .refl s
  next hidle =>
  split
  · exact .refl s
  exact ⟨id, id, fun hs => hs.with_survey rfl rfl rfl hs.working (fun h => absurd h hidle) hs.saving⟩

/-- The validation of R8 passes no survey with more than forty bays. -/
theorem nb_of_shapeCheck {sv : Survey} (h : sv.shapeCheck = none) : sv.nb ≤ 40 := by
  have hcount : checkBayCount sv = none := by
    simp only [Survey.shapeCheck, List.findSome?_eq_none_iff] at h
    exact h (checkBayCount sv) (by simp)
  unfold checkBayCount at hcount
  split at hcount
  · cases hcount
  · omega

theorem nb_of_validation {s : State} (h : validation s = none) : s.svt.edit.nb ≤ 40 := by
  rw [validation, Option.or_eq_none_iff] at h
  exact nb_of_shapeCheck h.1

theorem surveyWrites_handOver_survey (x : Sti) (items : List Byte) :
    surveyWrites (x.handOver .survey items) ≤ surveyWrites x + 1 := by
  unfold Sti.handOver
  split
  · next h =>
    have hbegun : surveyWrites (x.beginWrite .survey items) = 1 + if x.waiting.survey.isSome then 1 else 0 := rfl
    rw [hbegun, surveyWrites, h]
    omega
  · have hwaiting : surveyWrites { x with waiting := x.waiting.set .survey (some items) } =
        surveyWrites { x with waiting := ⟨none, none⟩ } + 1 := rfl
    have hop : surveyWrites { x with waiting := ⟨none, none⟩ } ≤ surveyWrites x := by
      unfold surveyWrites
      exact Nat.add_le_add_left (Nat.zero_le _) _
    omega

/-- A survey is saved after start-up alone, and the save outstanding is the only one (R10). -/
theorem saveSurvey_kept {s : State} (hstart : s.startUp = .ended) : PlacesKept s (saveSurvey s).1 := by
  unfold saveSurvey
  split
  · exact .refl s
  split
  · exact .refl s
  next hidle =>
  cases hvalid : validation s with
  | some failed => exact .refl s
  | none =>
    refine ⟨id, id, fun hs => hs.with_survey rfl rfl rfl hs.working (fun _ => ⟨nb_of_validation hvalid, hstart⟩) ?_⟩
    have hnone := hs.saving
    rw [if_neg hidle] at hnone
    refine (surveyWrites_handOver_survey s.sti _).trans ?_
    simp only [answer, handOver_frame, State.setSvt_svt, if_true]
    omega

/-- The account that INV recomputes for a working survey follows the records (R96). -/
theorem accountFollows_of_recompute {s : State} {x : Inv} (h : s.inv = x.recompute s.svt.working) :
    AccountFollows s := by
  rw [accountFollows_iff, h]
  exact ⟨rfl, rfl⟩

theorem adopt_content (x : Inv) (before : Svt) {b : Nat} (hb : b < 40) :
    ((x.adopt before).bays.getD b Bay.unreadable).content = (x.bays.getD b Bay.unreadable).content := by
  show ((if before.state = .unconfigured then x.bays else carryFlags before.working before.edit x.bays).getD b
    Bay.unreadable).content = _
  split
  · rfl
  · rw [carryFlags, Bank.getD_ofFn, if_pos hb]

/-- The saved survey becomes the working one while its save is outstanding, and STI holds no other (R10, R11). -/
theorem takeOverSurvey_kept {s t : State} (hst : PlacesKept s t)
    (hsave : PlacesHeldOnce s → t.svt.saveOutstanding = true ∧ surveyWrites t.sti = 0) :
    PlacesKept s (takeOverSurvey t) := by
  unfold takeOverSurvey
  refine PlacesKept.trans ⟨fun hf b hb => ?_, fun _ => ?_, fun hs => ?_⟩ (saveRequest_untouched [] _).kept
  · exact (adopt_content t.inv t.svt hb).trans (hst.follow hf b hb)
  · exact accountFollows_of_recompute rfl
  · obtain ⟨hout, hnone⟩ := hsave hs
    have ht := hst.held hs
    exact ht.with_survey rfl rfl rfl (ht.edit hout).1 (fun h => nomatch h) (le_of_eq hnone)

theorem surveySaveFailed_kept {s t : State} (hst : PlacesKept s t)
    (hsave : PlacesHeldOnce s → surveyWrites t.sti = 0) : PlacesKept s (surveySaveFailed t) := by
  have hcleared : PlacesKept s (t.setSvt { t.svt with saveOutstanding := false }) := by
    refine ⟨hst.follow, hst.account, fun hs => ?_⟩
    have ht := hst.held hs
    exact ht.with_survey rfl rfl rfl ht.working (fun h => nomatch h) (le_of_eq (hsave hs))
  exact hcleared.untouched ((PlacesUntouched.refl _).raiseOn _ _)

/-! ### Ends of store attempts (R93, R94, R176) -/

theorem settleSave_untouched (x : SaveState) (s : State) : PlacesUntouched s (settleSave x s) :=
  setInv_untouched rfl (fun _ _ => rfl) rfl rfl

theorem inventoryWriteCompleted_kept (s : State) : PlacesKept s (inventoryWriteCompleted s) := by
  unfold inventoryWriteCompleted
  split
  · exact (settleSave_untouched _ s).kept.trans (tellAll_kept _ _ _)
  · exact (tellAll_kept _ _ s).untouched (startInventoryWrite_untouched _ _)
  · exact .refl s
  · exact .refl s

theorem enterNotSaved_kept (s : State) : PlacesKept s (enterNotSaved s) :=
  ((settleSave_untouched _ s).kept.trans (tellAll_kept _ _ _)).untouched
    (((RecordsFrame.refl _).raiseOn _ _).trans (enterHold_records _)).untouched

theorem inventoryWriteFailed_kept (s : State) : PlacesKept s (inventoryWriteFailed s) := by
  unfold inventoryWriteFailed
  split
  · exact enterNotSaved_kept s
  · exact enterNotSaved_kept s
  · exact .refl s
  · exact .refl s

/-- After an operation's end STI holds the SURVEY write that waited, and no other (R175). -/
theorem surveyWrites_endOperation (x : Sti) :
    surveyWrites x.endOperation = if x.waiting.survey.isSome then 1 else 0 := by
  unfold Sti.endOperation
  simp only []
  split
  · next h => rw [h]; rfl
  · next h1 _ => rw [h1]; simp only [surveyWrites, Sti.beginWrite, PerRegion.set, h1]; rfl
  · next h1 _ => rw [h1]; simp only [surveyWrites, h1]; rfl

/-- The end of a write, with what STI tells the block that handed it over (R93, R176). -/
theorem tellWriteEnd_kept {s : State} {r : Region} {slot : Slot} {g : BitVec 32} {image : List Byte}
    (hop : s.sti.op = .write r slot g image) (x : Sti) (hx : x.waiting = s.sti.waiting) (good : Bool) :
    PlacesKept s (tellWriteEnd r good (s.setSti x.endOperation)) := by
  have hwrites : surveyWrites x.endOperation = if s.sti.waiting.survey.isSome then 1 else 0 := by
    rw [surveyWrites_endOperation, hx]
  cases r with
  | inventory =>
    have hends : PlacesKept s (s.setSti x.endOperation) := by
      refine setSti_kept s _ ?_
      rw [hwrites, surveyWrites]
      exact Nat.le_add_left _ _
    cases good with
    | true => exact hends.trans (inventoryWriteCompleted_kept _)
    | false => exact hends.trans (inventoryWriteFailed_kept _)
  | survey =>
    have hheld : surveyWrites s.sti = 1 + surveyWrites x.endOperation := by
      rw [hwrites, surveyWrites, hop]
    have hends : PlacesKept s (s.setSti x.endOperation) := setSti_kept s _ (by omega)
    have hsave (h : PlacesHeldOnce s) : s.svt.saveOutstanding = true ∧ surveyWrites x.endOperation = 0 := by
      have hsaving := h.saving
      split at hsaving
      · next hout => exact ⟨hout, by omega⟩
      · omega
    cases good with
    | true => exact takeOverSurvey_kept hends hsave
    | false => exact surveySaveFailed_kept hends fun h => (hsave h).2

theorem attemptEnds_kept {s : State} {r : Region} {slot : Slot} {g : BitVec 32} {image : List Byte}
    (hop : s.sti.op = .write r slot g image) (good : Bool) : PlacesKept s (attemptEnds r slot g good s) := by
  unfold attemptEnds
  split
  · exact tellWriteEnd_kept hop (s.sti.commit r slot g) rfl true
  split
  · exact setSti_kept s _ (le_refl _)
  · exact tellWriteEnd_kept hop s.sti rfl false

theorem storeAttemptEnds_kept (back : Option (List Byte)) (s : State) : PlacesKept s (storeAttemptEnds back s) := by
  unfold storeAttemptEnds
  split
  · next r slot g image hop => exact (attemptEnds_kept hop _).untouched (PlacesUntouched.refl _).drive
  · exact .refl s
  · exact .refl s

/-! ### Cold reset and start-up (R177 to R180) -/

theorem mass_of_unreadable {t : State} (masses : t.inv.masses = Inv.unreadable.masses) (id : Nat) :
    t.mass id = Mass.unreadable := by
  by_cases h0 : id = 0
  · simp [State.mass, h0]
  · rw [mass_of_ne_zero t h0, masses, Inv.unreadable, Bank.getD_ofFn]
    split <;> rfl

theorem placesFollow_of_unreadable {t : State} (inv : t.inv = Inv.unreadable) : PlacesFollow t := by
  intro b hb
  have hnone : bayContent t.inv.masses b = none := by
    rw [bayContent_eq_find, List.find?_eq_none]
    intro id _
    rw [mass_of_unreadable (by rw [inv])]
    exact Bool.false_ne_true
  rw [hnone, State.bay, inv, Inv.unreadable, Bank.getD_ofFn, if_pos hb]
  rfl

theorem accountFollows_of_unreadable {t : State} (inv : t.inv = Inv.unreadable) : AccountFollows t := by
  unfold AccountFollows
  simp only [mass_of_unreadable (t := t) (by rw [inv])]
  have hzero : massEnergy t.svt.working Mass.unreadable = 0 := rfl
  simp [hzero, inv, Inv.unreadable]

/-- Where every record is unreadable no place is named (R179), with nothing live, committed or saved beside it. -/
theorem placesHeldOnce_of_unreadable {t : State} (inv : t.inv = Inv.unreadable)
    (contexts : t.xfc.contexts = ⟨none, none⟩) (queues : t.tku.queues = ⟨[], []⟩) (working : t.svt.working.nb ≤ 40)
    (edit : t.svt.saveOutstanding = false) (saving : surveyWrites t.sti = 0) : PlacesHeldOnce t := by
  have hm := mass_of_unreadable (t := t) (by rw [inv])
  refine ⟨fun i _ j _ b hb => ?_, fun i _ j _ f hf => ?_, fun f x hx => ?_, fun f id hid => ?_, working,
    fun h => ?_, by rw [saving]; exact Nat.zero_le _⟩
  · rw [hm] at hb; cases hb
  · rw [hm] at hf; cases hf
  · rw [State.transfer, contexts] at hx; cases f <;> cases hx
  · rw [queues] at hid; cases f <;> cases hid
  · rw [edit] at h; cases h

theorem factory_nb : Survey.factory.nb = 2 := by decide

/-- COLD_RESET leaves every record unreadable until start-up has read the store (R178; log 8). -/
theorem coldReset_step (roles : List Role) (stop : Bool) (s : State) : StepKept s (coldReset roles stop s) := by
  have hnb : Survey.factory.nb ≤ 40 := by rw [factory_nb]; omega
  unfold coldReset afterStraps
  split
  · exact ⟨fun _ => placesFollow_of_unreadable rfl, fun _ => accountFollows_of_unreadable rfl,
      fun _ _ _ _ => placesHeldOnce_of_unreadable rfl rfl rfl hnb rfl rfl⟩
  · exact ⟨fun _ => placesFollow_of_unreadable rfl, fun _ => accountFollows_of_unreadable rfl,
      fun _ _ _ _ => placesHeldOnce_of_unreadable rfl rfl rfl hnb rfl rfl⟩

/-- Before start-up has ended no survey save is outstanding, and STI holds no SURVEY write (R10). -/
theorem no_survey_save {s : State} (hs : PlacesHeldOnce s) (h : s.startUp ≠ .ended) :
    s.svt.saveOutstanding = false ∧ surveyWrites s.sti = 0 := by
  cases hout : s.svt.saveOutstanding with
  | true => exact absurd (hs.edit hout).2 h
  | false =>
    have hsaving := hs.saving
    rw [hout] at hsaving
    exact ⟨rfl, by simpa using hsaving⟩

/-- What a read leaves in STI is no SURVEY write beyond those that wait (R177). -/
theorem surveyWrites_op_le (x y : Sti) (hop : surveyWrites { y with waiting := ⟨none, none⟩ } = 0)
    (hw : y.waiting = x.waiting) : surveyWrites y ≤ surveyWrites x := by
  have hy : surveyWrites y = surveyWrites { y with waiting := ⟨none, none⟩ } +
      if y.waiting.survey.isSome then 1 else 0 := rfl
  rw [hy, hop, hw]
  unfold surveyWrites
  omega

theorem nb_of_startSurvey (chosen : Option (Slot × BitVec 32 × List Byte)) :
    ((startSurvey chosen).getD Survey.factory).nb ≤ 40 := by
  cases h : startSurvey chosen with
  | none => rw [Option.getD_none, factory_nb]; omega
  | some sv =>
    rw [startSurvey, Option.filter_eq_some_iff, Survey.passes, Bool.and_eq_true, Option.isNone_iff_eq_none] at h
    exact nb_of_shapeCheck h.2.2

theorem setStartUp_kept {s : State} {x : StartUp} (h : s.svt.saveOutstanding = true → x = .ended) :
    PlacesKept s (setStartUp x s) :=
  ⟨id, id, fun hs => hs.with_survey rfl rfl rfl hs.working (fun hout => ⟨(hs.edit hout).1, h hout⟩) hs.saving⟩

theorem endRead_kept (r : Region) (chosen : Option (Slot × BitVec 32 × List Byte)) (s : State) :
    PlacesKept s (endRead r chosen s) :=
  setSti_kept s _ (surveyWrites_op_le _ _ rfl rfl)

theorem beginRead_kept (r : Region) (s : State) : PlacesKept s (beginRead r s) :=
  setSti_kept s _ (surveyWrites_op_le _ _ rfl rfl)

/-- The survey that start-up loads values the account, and none is being saved (R96, R178). -/
theorem loadSurvey_kept {s : State} (hstart : s.startUp ≠ .ended) {found : Option Survey}
    (hnb : (found.getD Survey.factory).nb ≤ 40) : PlacesKept s (loadSurvey found s) := by
  refine ⟨id, fun _ => accountFollows_of_recompute rfl, fun hs => ?_⟩
  exact hs.with_survey rfl rfl rfl hnb (fun h => nomatch h) (le_of_eq (no_survey_save hs hstart).2)

theorem surveyReadEnds_kept {s : State} (hstart : s.startUp ≠ .ended) (a b : List (List Byte)) :
    PlacesKept s (surveyReadEnds a b s) := by
  unfold surveyReadEnds
  simp only []
  generalize chooseSlot (slotImage .survey a) (slotImage .survey b) = chosen
  have hload : PlacesKept s (loadSurvey (startSurvey chosen) (endRead .survey chosen s)) :=
    (endRead_kept .survey chosen s).trans
      (loadSurvey_kept (s := endRead .survey chosen s) hstart (nb_of_startSurvey chosen))
  exact ((hload.trans (beginRead_kept .inventory _)).trans (setStartUp_kept fun h => nomatch h)).untouched
    (PlacesUntouched.refl _).drive

theorem not_ended_of_awaitsRead {s : State} {x : StartUp} {r : Region} (h : awaitsRead s x r = true)
    (hx : x ≠ .ended) : s.startUp ≠ .ended := by
  simp only [awaitsRead, Bool.and_eq_true, beq_iff_eq] at h
  exact h.1 ▸ hx

theorem surveyReadEnd_kept (a b : List (List Byte)) (s : State) : PlacesKept s (surveyReadEnd a b s) := by
  unfold surveyReadEnd
  split
  · next hawaits => exact surveyReadEnds_kept (not_ended_of_awaitsRead hawaits fun h => nomatch h) a b
  · exact .refl s

end Sys2Proof.Machine
end

section
/-! SUPPORT. O11, part 7: INVENTORY_READ_END, every request and every command, and the statement. -/

namespace Sys2Proof.Machine

/-! ### The records that start-up loads (R179, R184) -/

theorem namedBay_placeless (n : Nat) : (Mass.placeless n).namedBay = none := rfl

theorem namedFrame_placeless (n : Nat) : (Mass.placeless n).namedFrame = none := rfl

/-- A judged record names no place that a record of lower id names as decoded (R179). -/
theorem judgeMasses_apart {sv : Option Survey} {lower : List Mass} {rs : List (Mass × Bool)} {e : Mass × Bool}
    (he : e ∈ judgeMasses sv lower rs) {r : Mass} (hr : r ∈ lower) : samePlace e.1 r = false := by
  induction rs generalizing lower with
  | nil => cases he
  | cons head rest ih =>
    obtain ⟨h, made⟩ := head
    rw [judgeMasses] at he
    rcases List.mem_cons.1 he with he | he
    · rw [he]
      split
      · rfl
      · next hkept =>
        simp only [mustLose, Bool.or_eq_true, not_or, Bool.not_eq_true, List.any_eq_false] at hkept
        exact hkept.2 r hr
    · exact ih he (List.mem_append_left _ hr)

/-- No two judged records name the same place (R179). -/
theorem judgeMasses_pairwise (sv : Option Survey) (lower : List Mass) (rs : List (Mass × Bool)) :
    (judgeMasses sv lower rs).Pairwise (fun a b => samePlace b.1 a.1 = false) := by
  induction rs generalizing lower with
  | nil => exact List.Pairwise.nil
  | cons head rest ih =>
    obtain ⟨h, made⟩ := head
    rw [judgeMasses]
    refine List.Pairwise.cons (fun e he => ?_) (ih _)
    split
    · simp [samePlace, namedBay_placeless, namedFrame_placeless]
    · exact judgeMasses_apart he (List.mem_append_right _ (List.mem_singleton_self h))

/-- No two of the records name the same place (R86). -/
def RecordsApart (x : Inv) : Prop :=
  ∀ i j, i < j → samePlace (x.masses.getD j Mass.unreadable) (x.masses.getD i Mass.unreadable) = false

theorem samePlace_of_bay {a b : Mass} {n : Nat} (ha : a.namedBay = some n) (hb : b.namedBay = some n) :
    samePlace a b = true := by
  simp [samePlace, ha, hb]

theorem samePlace_of_frame {a b : Mass} {f : Frame} (ha : a.namedFrame = some f) (hb : b.namedFrame = some f) :
    samePlace a b = true := by
  simp [samePlace, ha, hb]

/-- Records that name the same place, where no two do, are one record. -/
theorem RecordsApart.eq_of_samePlace {s : State} (h : RecordsApart s.inv) {i j : Nat} (hi : i ∈ massIds)
    (hj : j ∈ massIds) (hij : samePlace (s.mass i) (s.mass j) = true) (hji : samePlace (s.mass j) (s.mass i) = true) :
    i = j := by
  have hi1 := (mem_massIds.1 hi).1
  have hj1 := (mem_massIds.1 hj).1
  rw [mass_of_ne_zero s (by omega : i ≠ 0), mass_of_ne_zero s (by omega : j ≠ 0)] at hij hji
  rcases Nat.lt_trichotomy i j with hlt | heq | hgt
  · rw [h (i - 1) (j - 1) (by omega)] at hji; cases hji
  · exact heq
  · rw [h (j - 1) (i - 1) (by omega)] at hij; cases hij

theorem samePlace_unreadable_left (r : Mass) : samePlace Mass.unreadable r = false := rfl

theorem samePlace_unreadable_right (r : Mass) : samePlace r Mass.unreadable = false := by
  have hb : Mass.unreadable.namedBay = none := rfl
  have hf : Mass.unreadable.namedFrame = none := rfl
  simp [samePlace, hb, hf]

theorem load_recordsApart (x : Inv) (s : State) (items : List Byte) :
    RecordsApart (x.load items (loadedMasses s items)) := by
  have hpair : (loadedMasses s items).Pairwise (fun a b => samePlace b.1 a.1 = false) := judgeMasses_pairwise _ _ _
  intro i j hij
  simp only [Inv.load, Bank.getD_ofFn]
  split
  · split
    · cases hj : (loadedMasses s items)[j]? with
      | none => exact samePlace_unreadable_left _
      | some b =>
        cases hi : (loadedMasses s items)[i]? with
        | none => exact samePlace_unreadable_right _
        | some a =>
          obtain ⟨hjlt, rfl⟩ := List.getElem?_eq_some_iff.1 hj
          obtain ⟨hilt, rfl⟩ := List.getElem?_eq_some_iff.1 hi
          exact List.pairwise_iff_getElem.1 hpair i j hilt hjlt hij
    · exact samePlace_unreadable_right _
  · exact samePlace_unreadable_left _

theorem loadUnreadable_recordsApart (x : Inv) : RecordsApart x.loadUnreadable := by
  intro i j _
  simp only [Inv.loadUnreadable, Bank.getD_ofFn]
  split
  · exact samePlace_unreadable_left _
  · exact samePlace_unreadable_left _

/-! ### INVENTORY_READ_END (R179, R180) -/

/-- Contents and account are rebuilt from the records that start-up adopts (R86, R96). -/
theorem adoptInventory_placesFollow (x : Inv) (s : State) : PlacesFollow (adoptInventory x s) := by
  intro b hb
  simp only [adoptInventory, State.bay, State.setInv_inv, Inv.recompute, Inv.rebuildBays, Bank.getD_ofFn, if_pos hb]

theorem adoptInventory_accountFollows (x : Inv) (s : State) : AccountFollows (adoptInventory x s) :=
  accountFollows_of_recompute rfl

/-- Before start-up has ended no transfer holds a mass, so the adopted records need only lie apart (R152, R179). -/
theorem adoptInventory_placesHeldOnce {x : Inv} {s : State} (hs : PlacesHeldOnce s) (hx : RecordsApart x)
    (idle : ∀ f, s.transfer f = none) : PlacesHeldOnce (adoptInventory x s) := by
  have hapart : RecordsApart (adoptInventory x s).inv := hx
  refine ⟨fun i hi j hj b h1 h2 => ?_, fun i hi j hj f h1 h2 => ?_, fun f y hy => ?_, hs.task, hs.working, hs.edit,
    hs.saving⟩
  · exact hapart.eq_of_samePlace hi hj (samePlace_of_bay h1 h2) (samePlace_of_bay h2 h1)
  · exact hapart.eq_of_samePlace hi hj (samePlace_of_frame h1 h2) (samePlace_of_frame h2 h1)
  · have hnone : (adoptInventory x s).transfer f = none := idle f
    rw [hnone] at hy
    cases hy

/-- The loaded inventory, before the save that follows where it differs from the image. -/
theorem loadInventory_adopts (chosen : Option (Slot × BitVec 32 × List Byte)) (s : State) :
    ∃ x, RecordsApart x ∧ PlacesUntouched (adoptInventory x s) (loadInventory chosen s) := by
  have hannounce (b : Bool) (t : State) : PlacesUntouched t (announceIf b t) := by
    unfold announceIf
    split
    · exact (PlacesUntouched.refl t).raiseOn _ _
    · exact .refl t
  unfold loadInventory
  split
  · next items => exact ⟨_, load_recordsApart s.inv s items, (hannounce _ _).trans (saveRequestIf_untouched _ _)⟩
  · exact ⟨_, loadUnreadable_recordsApart s.inv, (hannounce _ _).trans (saveRequest_untouched _ _)⟩

/-- The mode that start-up enters moves no record. -/
theorem enterMode_kept (s : State) : PlacesKept s (enterMode s) := by
  have hmode : RecordsFrame s (changeMode (startMode s) s) := rfl
  exact hmode.untouched.kept.trans (setStartUp_kept fun _ => rfl)

theorem inventoryReadEnds_step {s : State} (hstart : s.startUp ≠ .ended) (a b : List (List Byte)) :
    StepKept s (inventoryReadEnds a b s) := by
  unfold inventoryReadEnds
  simp only []
  generalize chooseSlot (slotImage .inventory a) (slotImage .inventory b) = chosen
  obtain ⟨x, hapart, hload⟩ := loadInventory_adopts chosen (endRead .inventory chosen s)
  have hadopt : StepKept s (adoptInventory x (endRead .inventory chosen s)) := by
    refine ⟨fun _ => adoptInventory_placesFollow _ _, fun _ => adoptInventory_accountFollows _ _, fun hs _ _ hq => ?_⟩
    exact adoptInventory_placesHeldOnce ((endRead_kept .inventory chosen s).held hs) hapart fun f =>
      (hq.quiet (hq.startUp hstart) f).transfer
  exact ((hadopt.kept hload.kept).kept (enterMode_kept _)).drive

theorem inventoryReadEnd_step (a b : List (List Byte)) (s : State) : StepKept s (inventoryReadEnd a b s) := by
  unfold inventoryReadEnd
  split
  · next hawaits => exact inventoryReadEnds_step (not_ended_of_awaitsRead hawaits fun h => nomatch h) a b
  · exact .refl s

/-! ### The requests (R165, R166) -/

/-- A block's answer keeps the places, once start-up has ended, as R166 has it for every request handed on. -/
def AnswerKeeps (body : State → Answer) : Prop :=
  ∀ s, s.startUp = .ended → StepKept s (body s).1

theorem AnswerKeeps.of_kept {body : State → Answer} (h : ∀ s, PlacesKept s (body s).1) : AnswerKeeps body :=
  fun s _ => (h s).step

theorem AnswerKeeps.of_untouched {body : State → Answer} (h : ∀ s, PlacesUntouched s (body s).1) : AnswerKeeps body :=
  fun s _ => (h s).step

theorem AnswerKeeps.of_records {body : State → Answer} (h : ∀ s, RecordsFrame s (body s).1) : AnswerKeeps body :=
  fun s _ => (h s).step

/-- A read answers from the state and changes nothing. -/
theorem AnswerKeeps.of_read {body : State → Answer} (h : ∀ s, (body s).1 = s) : AnswerKeeps body :=
  fun s _ => by rw [h s]; exact .refl s

theorem AnswerKeeps.forWinder {p : PortId} {body : Frame → State → Answer} (h : ∀ f, AnswerKeeps (body f)) :
    AnswerKeeps (forWinder p body) := by
  intro s hs
  unfold Machine.forWinder
  split
  · next f _ => exact h f s hs
  · exact .refl s

theorem readTask_state (f : Frame) (s : State) : (readTask f s).1 = s := by
  unfold readTask
  split <;> rfl

theorem readFrame_state (frame : Nat) (s : State) : (readFrame frame s).1 = s := by
  unfold readFrame
  split <;> rfl

theorem readMass_state (id : Nat) (s : State) : (readMass id s).1 = s := by
  unfold readMass
  split <;> rfl

theorem readBay_state (b : Nat) (s : State) : (readBay b s).1 = s := by
  unfold readBay
  split <;> rfl

theorem readSurveyItem_state (code index copy : Nat) (s : State) : (readSurveyItem code index copy s).1 = s := by
  unfold readSurveyItem
  split <;> rfl

theorem readTaskById_state (id : Nat) (s : State) : (readTaskById id s).1 = s := by
  unfold readTaskById
  split <;> rfl

theorem requestBody_keeps (i : Instr) : AnswerKeeps (requestBody i) := by
  cases i with
  | position p e v m fl => exact .forWinder fun f => .of_kept fun s => position_kept f e v m fl s
  | requestTravel p target => exact .forWinder fun f => .of_records fun s => requestTravel_records f _ s
  | releaseTravel p => exact .forWinder fun f => .of_records fun s => releaseTravel_records f s
  | readGrant p => exact .forWinder fun f => .of_read fun s => rfl
  | readTask p => exact .forWinder fun f => .of_read fun s => readTask_state f s
  | transfer p => exact .forWinder fun f s _ => requestTransfer_step f s
  | submitTask p tag mass bay frame => exact fun s _ => submitTask_step _ _ _ _ s
  | cancelTask p id => exact .of_untouched fun s => cancelTask_untouched _ s
  | redirectTask p id bay => exact .of_untouched fun s => redirectTask_untouched _ _ s
  | takeCompletion p => exact .of_untouched takeCompletion_untouched
  | hold p => exact .of_records requestHold_records
  | resume p => exact .of_records requestResume_records
  | lockout p => exact .of_untouched requestLockout_untouched
  | unlock p => exact .of_records requestUnlock_records
  | ackStop p => exact .of_records acknowledgeStop_records
  | clearTrip p frame => exact .of_records fun s => clearTrip_records _ s
  | setTuning p present vlU legU vlL legL len entries => exact .of_records fun s => setTuning_records _ s
  | setSurveyItem p item index value => exact .of_kept fun s => setSurveyItem_kept _ _ _ s
  | saveSurvey p => exact fun s hs => (saveSurvey_kept hs).step
  | declareMass p id nominal kind place1 place2 => exact fun s _ => declareMass_step _ _ _ _ _ s
  | confirmInventory p => exact .of_untouched confirmInventory_untouched
  | saveInventory p => exact .of_untouched saveInventory_untouched
  | setBayService p bay flag => exact .of_untouched fun s => setBayService_untouched _ _ s
  | setLandingService p landing flag => exact .of_untouched fun s => setLandingService_untouched _ _ s
  | readFrame p frame => exact .of_read fun s => readFrame_state _ s
  | readMass p id => exact .of_read fun s => readMass_state _ s
  | readBay p bay => exact .of_read fun s => readBay_state _ s
  | readSurveyItem p item index copy => exact .of_read fun s => readSurveyItem_state _ _ _ s
  | readTaskById p id => exact .of_read fun s => readTaskById_state _ s
  | clearEvents p flags => exact .of_records fun s => clearEvents_records p _ s
  | setEventMask p enables => exact .of_records fun s => setEventMask_records p _ s
  | _ => exact .of_read fun s => rfl

theorem startUp_of_gate {s : State} {p : PortId} {r : Option Req} {fits : Bool} (h : gate s p r fits = none) :
    s.startUp = .ended := by
  unfold gate partGate at h
  rw [Option.or_eq_none_iff, Option.or_eq_none_iff] at h
  have hstart := h.1.2
  unfold refusedIf at hstart
  split at hstart
  · cases hstart
  · next hne => simpa using hne

theorem addReply_records (p : PortId) (r : Reply) (s : State) : RecordsFrame s (addReply p r s) := rfl

/-- A frame taken, refused or discarded keeps the places where its block does (R163, R166). -/
theorem takeFrame_step {p : PortId} {type : Byte} {r : Option Req} {fits : Bool} {body : State → Answer}
    (h : AnswerKeeps body) (s : State) : StepKept s (takeFrame p type r fits body s) := by
  unfold takeFrame
  split
  · exact .refl s
  split
  · exact (discardFrame_records p .overflow s).step
  refine StepKept.kept ?_ (addReply_records p _ _).untouched.kept
  unfold answerGated
  split
  · exact .refl s
  · next hgate => exact h s (startUp_of_gate hgate)

theorem takeBytes_step (p : PortId) (type : Byte) (payload : List Byte) (s : State) :
    StepKept s (takeBytes p type payload s) := by
  unfold takeBytes
  split
  · exact takeFrame_step (.of_read fun _ => rfl) s
  · split
    · exact takeFrame_step (requestBody_keeps _) s
    · exact takeFrame_step (.of_read fun _ => rfl) s

/-- LOCKOUT stays quiet in a state that differs in ports, survey, records and store alone (R152). -/
theorem LockoutIsQuiet.of_blocks {s t : State} (h : LockoutIsQuiet s) (startUp : t.startUp = s.startUp)
    (mdc : t.mdc = s.mdc) (ftk : t.ftk = s.ftk) (gru : t.gru = s.gru) (xfc : t.xfc = s.xfc) (tku : t.tku = s.tku) :
    LockoutIsQuiet t where
  startUp := by rw [startUp, mdc]; exact h.startUp
  quiet hm f := by
    rw [mdc] at hm
    obtain ⟨htracking, hgrant, hrequest, htransfer, hqueue⟩ := h.quiet hm f
    refine ⟨?_, ?_, ?_, ?_, ?_⟩
    · rw [State.tracker, ftk]; exact htracking
    · rw [State.grant, gru]; exact hgrant
    · rw [State.request, gru]; exact hrequest
    · rw [State.transfer, xfc]; exact htransfer
    · rw [tku]; exact hqueue

/-- A step may be taken after a change that keeps all it leans on. -/
theorem StepKept.after {s t u : State} (hst : PlacesUntouched s t) (pool : PoolPartitioned s → PoolPartitioned t)
    (quiet : LockoutIsQuiet s → LockoutIsQuiet t) (h : StepKept t u) : StepKept s u :=
  ⟨fun hf => h.follow (hst.placesFollow hf), fun ha => h.account (hst.accountFollows ha), fun hs hf hp hq =>
    h.held (hst.placesHeldOnce hs) (hst.placesFollow hf) (pool hp) (quiet hq)⟩

theorem StepKept.after_setPort {s t : State} {p : PortId} {x : PortState} (h : StepKept (s.setPort p x) t) :
    StepKept s t := by
  have hx : RecordsFrame s (s.setPort p x) := rfl
  exact h.after hx.untouched id fun hq => hq.of_blocks rfl rfl rfl rfl rfl rfl

theorem StepKept.after_withPending {s t : State} {q : List Instr} (h : StepKept (s.withPending q) t) :
    StepKept s t := by
  have hx : RecordsFrame s (s.withPending q) := rfl
  exact h.after hx.untouched id fun hq => hq.of_blocks rfl rfl rfl rfl rfl rfl

theorem setRx_records (p : PortId) (x : Rx) (s : State) : RecordsFrame s (setRx p x s) := rfl

theorem receiveByte_step (p : PortId) (b : Byte) (s : State) : StepKept s (receiveByte p b s) := by
  unfold receiveByte
  split
  · exact .refl s
  unfold takeByte
  split
  · split
    · exact (setRx_records _ _ s).step
    · exact .refl s
  · exact (setRx_records _ _ s).step
  · split
    · exact (discardFrame_records _ _ s).step
    · exact (setRx_records _ _ s).step
  · exact (setRx_records _ _ s).step
  · exact (setRx_records _ _ s).step
  · unfold checkFrame
    split
    · exact StepKept.after_setPort (takeBytes_step _ _ _ _)
    · exact (discardFrame_records _ _ s).step

/-! ### The step -/

/-- A request command is the taking of its frame, answered by its block (R166). -/
theorem exec_of_encodeRequest {i : Instr} {p : PortId} {r : Req} {payload : List Byte} (s : State)
    (h : encodeRequest i = some (p, r, payload)) : exec i s = .next (takeRequest p r (requestBody i) s) := by
  cases i <;> cases h <;> rfl

theorem stopReleased_records (s : State) : RecordsFrame s (stopReleased s) := by
  unfold stopReleased
  split <;> rfl

theorem exec_step {c : Instr} {s t : State} (h : exec c s = .next t) : StepKept s t := by
  cases hreq : encodeRequest c with
  | some x =>
    obtain ⟨p, r, payload⟩ := x
    rw [exec_of_encodeRequest s hreq] at h
    cases h
    exact takeFrame_step (requestBody_keeps c) s
  | none =>
    cases c with
    | unknownRequest p type payload => cases h; exact takeBytes_step p type payload s
    | frameDiscarded p cause => cases h; exact (frameDiscarded_records p cause s).step
    | gapExpiry p => cases h; exact (gapExpires_records p s).step
    | linkBreak p => cases h; exact (linkBreak_records p s).step
    | replySent p => cases h; exact RecordsFrame.step rfl
    | stalenessExpiry f => cases h; exact (stalenessExpires_records f s).step
    | transferTimerExpiry f => cases h; exact (transferExpires_kept f s).step
    | stopNAssertion => cases h; exact (stopAsserted_kept s).step
    | stopNRelease => cases h; exact (stopReleased_records s).step
    | gdoneRising k => cases h; exact (gdoneEdge_kept k s).step.drive
    | gfltRising k => cases h; exact (gfltEdge_kept k s).step.drive
    | coldReset w x y z stop => cases h; exact coldReset_step _ stop s
    | surveyReadEnd a b => cases h; exact (surveyReadEnd_kept a b s).step
    | inventoryReadEnd a b => cases h; exact inventoryReadEnd_step a b s
    | storeAttemptEnd back => cases h; exact (storeAttemptEnds_kept back s).step
    | linkByteReceived p b => cases h; exact receiveByte_step p b s
    | linkBreakEnd p => cases h; exact RecordsFrame.step rfl
    | _ => cases hreq

theorem dueExpiries_kept {s : State} {e : State → State} (h : e ∈ dueExpiries s) : PlacesKept s (e s) := by
  unfold dueExpiries at h
  rw [List.mem_append, List.mem_append] at h
  rcases h with (h | h) | h
  · obtain ⟨f, _, rfl⟩ := List.mem_map.1 h
    exact (stalenessExpires_records f s).untouched.kept
  · obtain ⟨f, _, rfl⟩ := List.mem_map.1 h
    exact transferExpires_kept f s
  · obtain ⟨p, _, rfl⟩ := List.mem_map.1 h
    exact (gapExpires_records p s).untouched.kept

theorem advanceTime_records (s : State) : RecordsFrame s (advanceTime s) := rfl

theorem tick_kept (s : State) : PlacesKept s (tick s) := by
  unfold tick
  split
  · next e es hdue => exact dueExpiries_kept (hdue ▸ List.mem_cons_self)
  · exact (advanceTime_records s).untouched.kept

theorem step_kept {s t : State} (h : step s = .next t) : StepKept s t := by
  unfold step at h
  split at h
  · exact (exec_step h).after_withPending
  · cases h
    exact (tick_kept s).step

/-- Settles O11: each operation of the part moves a mass only within the places that its transfer has in its charge, or
to a place that its checks have found free, and rebuilds contents and account with the move. -/
theorem baysAndStoredEnergyFollowTheMassRecords : Obligations.BaysAndStoredEnergyFollowTheMassRecords := by
  intro s t h
  obtain ⟨hfollow, haccount, hheld⟩ := step_kept h
  exact ⟨hfollow, haccount, fun hs hf hp hq => hheld hs hf hp hq⟩

end Sys2Proof.Machine
end

section
/-! SUPPORT. O8, part 1: the records that the four collections hold, and what moves a record from one collection to
another. -/

namespace Sys2Proof.Machine

/-! ### The pool (R106) -/

/-- The records that the four collections hold, each as often as they hold it (R106). -/
def Tku.pooled (x : Tku) : List Nat :=
  x.free ++ x.queues.u ++ x.queues.l ++ x.completion

theorem poolPartitioned_iff (s : State) : PoolPartitioned s ↔ s.tku.pooled.Perm (List.range 32) := Iff.rfl

/-- The pool in the order in which a task for frame f goes through it, with the other queue last. -/
def Tku.poolBy (x : Tku) (f : Frame) : List Nat :=
  x.free ++ x.queues.get f ++ x.completion ++ x.queues.get f.other

theorem Tku.pooled_perm (x : Tku) (f : Frame) : x.pooled.Perm (x.poolBy f) := by
  refine List.perm_iff_count.2 fun a => ?_
  simp only [Tku.pooled, Tku.poolBy, List.count_append]
  cases f with
  | U => simp only [Pair.get, Frame.other]; omega
  | L => simp only [Pair.get, Frame.other]; omega

/-- What is taken out of one list and put at the end of another is still held as often. -/
theorem perm_of_moved {source : List Nat} {n : Nat} (h : n ∈ source) (target : List Nat) :
    (source.erase n ++ (target ++ [n])).Perm (source ++ target) := by
  rw [← List.append_assoc]
  exact (List.perm_append_singleton n _).trans ((List.perm_cons_erase h).append_right target).symm

/-- From `s` to `t` records may have moved between the collections, and the pool holds what it held. -/
def PoolKept (s t : State) : Prop :=
  t.tku.pooled.Perm s.tku.pooled

theorem PoolKept.partitioned {s t : State} (h : PoolKept s t) (hs : PoolPartitioned s) : PoolPartitioned t :=
  List.Perm.trans h hs

theorem PoolKept.refl (s : State) : PoolKept s s := List.Perm.refl _

theorem PoolKept.trans {s t u : State} (h1 : PoolKept s t) (h2 : PoolKept t u) : PoolKept s u :=
  List.Perm.trans h2 h1

theorem PoolKept.of_tku {s t : State} (h : t.tku = s.tku) : PoolKept s t := by
  rw [PoolKept, h]

theorem PoolKept.of_poolBy {s t : State} (f : Frame) (h : (t.tku.poolBy f).Perm (s.tku.poolBy f)) : PoolKept s t :=
  ((t.tku.pooled_perm f).trans h).trans (s.tku.pooled_perm f).symm

/-! ### What leaves the collections alone -/

theorem RecordsFrame.pool {s t : State} (h : RecordsFrame s t) : PoolKept s t := by
  unfold RecordsFrame at h
  exact .of_tku (by rw [h])

theorem InventoryFrame.pool {s t : State} (h : InventoryFrame s t) : PoolKept s t := by
  unfold InventoryFrame at h
  exact .of_tku (by rw [h])

theorem ReservationFrame.pool {s t : State} (h : ReservationFrame s t) : PoolKept s t := by
  unfold ReservationFrame at h
  exact .of_tku (by rw [h])

theorem PoolKept.raiseOn {s t : State} (h : PoolKept s t) (who : Role → Bool) (e : Event) :
    PoolKept s (t.raiseOn who e) := h

theorem PoolKept.drive {s t : State} (h : PoolKept s t) : PoolKept s t.drive := h

/-- Another record under a task's number leaves the number where it is. -/
theorem PoolKept.setTask {s t : State} (h : PoolKept s t) (id : Nat) (x : Task) : PoolKept s (t.setTask id x) := h

theorem PoolKept.setTransfer {s t : State} (h : PoolKept s t) (f : Frame) (x : Option Transfer) :
    PoolKept s (t.setTransfer f x) := h

/-! ### Activation and ending (R115, R121) -/

theorem activateHead_pool (f : Frame) (s : State) : PoolKept s (activateHead f s) := by
  unfold activateHead
  split
  · exact (PoolKept.refl s).setTask _ _
  · exact .refl s

theorem mem_queue_of_liveIn {s : State} {id : Nat} {f : Frame} (h : liveIn s id = some f) :
    id ∈ s.tku.queues.get f := by
  unfold liveIn at h
  split at h
  · next hu => cases h; exact hu
  · split at h
    · next hl => cases h; exact hl
    · cases h

theorem endTask_of_not_live {s : State} {id : Nat} (h : liveIn s id = none) (p : Phase) (next : Bool) :
    endTask id p next s = s := by
  unfold endTask
  rw [h]

/-- A live task that ends moves from its queue to the completion list; one that is not live does not end (R121). -/
theorem endTask_pool (id : Nat) (p : Phase) (next : Bool) (s : State) : PoolKept s (endTask id p next s) := by
  cases hlive : liveIn s id with
  | none => rw [endTask_of_not_live hlive]; exact .refl s
  | some f =>
    obtain ⟨hcompletion, hqueues, hfree⟩ := endTask_collections id p next s hlive
    refine .of_poolBy f ?_
    rw [Tku.poolBy, Tku.poolBy, hcompletion, hqueues, hfree, Pair.get_set_self, Pair.get_set_other]
    refine List.Perm.append_right _ ?_
    rw [List.append_assoc, List.append_assoc]
    exact (perm_of_moved (mem_queue_of_liveIn hlive) _).append_left _

theorem addTaskReasons_pool (id : Nat) (r : BitVec 16) (s : State) : PoolKept s (addTaskReasons id r s) :=
  (PoolKept.refl s).setTask _ _

theorem endWithReasons_pool (id : Nat) (r : BitVec 16) (p : Phase) (next : Bool) (s : State) :
    PoolKept s (endTask id p next (addTaskReasons id r s)) :=
  (addTaskReasons_pool id r s).trans (endTask_pool id p next _)

theorem endQueue_pool (f : Frame) (s : State) : PoolKept s (endQueue f s) := by
  unfold endQueue
  generalize s.tku.queues.get f = ids
  induction ids generalizing s with
  | nil => exact .refl s
  | cons id ids ih => exact (endWithReasons_pool id _ _ _ s).trans (ih _)

/-! ### What a transfer does to its task (R118 to R120, R123) -/

theorem setPhaseAnnounced_pool (id : Nat) (p : Phase) (f : Frame) (s : State) :
    PoolKept s ((setPhase id p s).raiseWinder f .taskChanged) :=
  ((PoolKept.refl s).setTask _ _).raiseOn _ _

theorem forTask_pool {s : State} {change : State → State} (h : PoolKept s (change s)) (id : Nat) :
    PoolKept s (forTask id change s) :=
  h.setTask _ _

theorem restoreTask_pool (id : Nat) (f : Frame) (s : State) : PoolKept s (restoreTask id f s) := by
  unfold restoreTask
  split
  · simp only []
    split
    · exact (setPhaseAnnounced_pool _ _ _ s).trans (endWithReasons_pool _ _ _ _ _)
    · exact setPhaseAnnounced_pool _ _ _ s
  · exact setPhaseAnnounced_pool _ _ _ s
  · exact .refl s

theorem failTask_pool (id : Nat) (c : BitVec 16) (s : State) : PoolKept s (failTask id c s) :=
  endWithReasons_pool id _ _ _ s

theorem releaseBayUnless_pool (c : Prop) [Decidable c] (b n : Nat) (s : State) :
    PoolKept s (if c then s else releaseBay b n s) := by
  split
  · exact .refl s
  · exact (releaseBay_frame b n s).pool

theorem returnTask_pool (id : Nat) (f : Frame) (s : State) : PoolKept s (returnTask id f s) := by
  unfold returnTask
  exact ((releaseBayUnless_pool _ (s.task id).dest id s).setTask _ _).raiseOn _ _

theorem advanceTask_pool (id : Nat) (f : Frame) (s : State) : PoolKept s (advanceTask id f s) := by
  unfold advanceTask
  split
  · split
    · exact returnTask_pool id f s
    · exact setPhaseAnnounced_pool _ _ _ s
  · exact endTask_pool _ _ _ s
  · exact .refl s

/-! ### SUBMIT_TASK (R107, R114) -/

/-- A reserved task's number is off the free list and in no queue yet. -/
theorem reservedFor_tku (n : Nat) (r : Task) (s : State) :
    (reservedFor n r s).tku = { s.tku with tasks := s.tku.tasks.set n r, free := s.tku.free.erase n } := by
  have hreserved := ((reserveMass_frame r.mass n ((s.setTask n r).setTku
    { (s.setTask n r).tku with free := (s.setTask n r).tku.free.erase n })).trans
      (reserveBayOf_frame r.source n _)).trans (reserveBay_frame r.dest n _)
  unfold ReservationFrame at hreserved
  rw [reservedFor, hreserved]
  rfl

theorem queuedWith_pool {n : Nat} {s : State} (hn : n ∈ s.tku.free) (r : Task) (f : Frame) :
    PoolKept s (queuedWith n r f s) := by
  refine .of_poolBy f ?_
  simp only [Tku.poolBy, queuedWith, setQueue, State.setTku_tku, Pair.get_set_self, Pair.get_set_other, reservedFor_tku]
  exact ((perm_of_moved hn _).append_right _).append_right _

theorem acceptTask_pool {n : Nat} {s : State} (hn : n ∈ s.tku.free) (tag : BitVec 16) (id b : Nat) (f : Frame) :
    PoolKept s (acceptTask n tag id b f s) := by
  have hqueued := queuedWith_pool hn (newTask s tag id b f) f
  rw [acceptTask_eq]
  split
  · exact (hqueued.trans (activateHead_pool f _)).raiseOn _ _
  · exact hqueued

theorem submitTask_pool (tag : BitVec 16) (id b frame : Nat) (s : State) :
    PoolKept s (submitTask tag id b frame s).1 := by
  unfold submitTask
  split
  · exact .refl s
  split
  · exact .refl s
  split
  · exact .refl s
  next n hn =>
  split
  · exact .refl s
  split
  · exact .refl s
  split
  · exact .refl s
  split
  · exact .refl s
  · exact (acceptTask_pool (mem_of_lowest hn) _ _ _ _).drive

/-! ### CANCEL_TASK, REDIRECT_TASK, TAKE_COMPLETION (R122, R125, R126) -/

theorem cancelTask_pool (id : Nat) (s : State) : PoolKept s (cancelTask id s).1 := by
  unfold cancelTask
  split
  · exact .refl s
  split
  · exact .refl s
  split
  · exact (endWithReasons_pool _ _ _ _ s).drive
  · exact (endWithReasons_pool _ _ _ _ s).drive
  · exact (PoolKept.refl s).setTask _ _
  · exact .refl s

theorem moveDestination_pool (id b : Nat) (s : State) : PoolKept s (moveDestination id b s) := by
  unfold moveDestination
  exact ((releaseBayUnless_pool _ (s.task id).dest id s).trans (reserveBay_frame b id _).pool).setTask _ _

theorem redirectTask_pool (id b : Nat) (s : State) : PoolKept s (redirectTask id b s).1 := by
  unfold redirectTask
  split
  · exact .refl s
  split
  · exact .refl s
  split
  · exact .refl s
  split
  · exact .refl s
  split
  · exact .refl s
  simp only []
  split
  · exact ((moveDestination_pool id b s).raiseOn _ _).drive
  · exact moveDestination_pool id b s

theorem insertAscending_perm (id : Nat) (ids : List Nat) : (insertAscending id ids).Perm (id :: ids) := by
  induction ids with
  | nil => exact .refl _
  | cons a as ih =>
    rw [insertAscending]
    split
    · exact .refl _
    · exact (ih.cons a).trans (.swap id a as)

/-- A completion that is taken goes from the front of its list to the free list (R126). -/
theorem takeCompletion_pool (s : State) : PoolKept s (takeCompletion s).1 := by
  unfold takeCompletion
  split
  · exact .refl s
  · next id rest hlist =>
    rw [PoolKept, Tku.pooled, Tku.pooled, hlist]
    refine List.Perm.trans ?_ List.perm_middle.symm
    exact (((insertAscending_perm id _).append_right _).append_right _).append_right _

/-! ### LOCKOUT entry (R129, R152) -/

theorem enterLockout_pool (s : State) : PoolKept s (enterLockout s) := by
  have hreleased := (releaseFrames_records s).pool
  unfold enterLockout
  exact ((hreleased.trans (endQueue_pool .U _)).trans (endQueue_pool .L _)).raiseOn _ _

theorem requestLockout_pool (s : State) : PoolKept s (requestLockout s).1 := by
  unfold requestLockout
  split
  · exact .refl s
  split
  · exact .refl s
  split
  · exact .refl s
  · exact (enterLockout_pool s).drive

end Sys2Proof.Machine
end

section
/-! SUPPORT. O8, part 2: every operation of XFC moves its task at most from its queue to the completion list. -/

namespace Sys2Proof.Machine

/-! ### Ends of a transfer (R137 to R147) -/

theorem clearContext_pool (f : Frame) (r : TransferResult) (s : State) : PoolKept s (clearContext f r s) :=
  .of_tku rfl

theorem endAbandoned_pool (f : Frame) (saved : Bool) (s : State) : PoolKept s (endAbandoned f saved s) := by
  unfold endAbandoned
  split
  · exact (clearContext_pool f _ s).raiseOn _ _
  · exact .refl s

theorem endCompleted_pool (f : Frame) (saved : Bool) (s : State) : PoolKept s (endCompleted f saved s) := by
  unfold endCompleted
  split
  · exact ((clearContext_pool f _ s).trans (advanceTask_pool _ f _)).raiseOn _ _
  · exact .refl s

theorem endFailed_pool (f : Frame) (x : Transfer) (c : Cause) (s : State) : PoolKept s (endFailed f x c s) := by
  unfold endFailed
  exact (((clearContext_pool f _ s).trans (tripForCause_records f c _).pool).trans (failTask_pool _ _ _)).raiseOn _ _

theorem failRunning_pool (f : Frame) (c : Cause) (s : State) : PoolKept s (failRunning f c s) := by
  unfold failRunning
  split
  · next x _ =>
    have hlost := (forTask_pool (loseMass_inventory x.mass s).pool x.task).trans
      (setLandingInService_inventory x.landing false _).pool
    simp only []
    split
    · exact (hlost.trans (setTimedOut_records _ _ _).pool).trans (endFailed_pool f x c _)
    · exact hlost.trans (endFailed_pool f x c _)
  · exact .refl s

theorem failVerifying_pool (f : Frame) (c : Cause) (s : State) : PoolKept s (failVerifying f c s) := by
  unfold failVerifying
  split
  · next x _ => exact (forTask_pool (loseMass_inventory x.mass s).pool x.task).trans (endFailed_pool f x c _)
  · exact .refl s

theorem saveFor_pool (f : Frame) (c : Change) {told : State → State} {s : State} (h : PoolKept s (told s)) :
    PoolKept s (saveFor f c told s) := by
  unfold saveFor
  split
  · exact h
  · exact (saveRequest_inventory _ s).pool

theorem enterAbandoning_pool (f : Frame) (c : Cause) (s : State) : PoolKept s (enterAbandoning f c s) := by
  unfold enterAbandoning
  split
  · next x _ =>
    have hcontext := (PoolKept.refl s).setTransfer f (some { x with phase := .abandoning, cause := c })
    have hrestored := (hcontext.trans (forTask_pool (restoreMass_inventory x.mass x.ret _).pool x.task)).trans
      (restoreTask_pool x.task f _)
    exact hrestored.trans (saveFor_pool f .restore (endAbandoned_pool f false _))
  · exact .refl s

theorem verify_pool (f : Frame) (r : Report) (s : State) : PoolKept s (verify f r s) := by
  unfold verify
  split
  · next x _ =>
    split
    · have hverified := (forTask_pool (verifiedMass_inventory f x s).pool x.task).setTransfer f
        (some { x with phase := .finishing })
      exact hverified.trans (saveFor_pool f .verified (endCompleted_pool f false _))
    · exact failVerifying_pool f _ s
  · exact .refl s

/-! ### Reports, answers, gear edges, the timer and the stop notice (R135 to R146) -/

theorem brakeReleased_pool (f : Frame) (p : XPhase) (s : State) : PoolKept s (brakeReleased f p s) := by
  cases p with
  | committing => exact enterAbandoning_pool f _ s
  | gearRunning => exact failRunning_pool f _ s
  | abandoning => exact .refl s
  | verifying => exact failVerifying_pool f _ s
  | finishing => exact .refl s

theorem reportToTransfer_pool (f : Frame) (r : Report) (tripped : Bool) (s : State) :
    PoolKept s (reportToTransfer f r tripped s) := by
  unfold reportToTransfer
  split
  · split
    · exact (askBrakeTrip_records f s).pool.trans (brakeReleased_pool f _ _)
    · split
      · exact verify_pool f r s
      · exact .refl s
  · exact .refl s

theorem commitAnswered_pool (f : Frame) (x : Transfer) (saved : Bool) (s : State) :
    PoolKept s (commitAnswered f x saved s) := by
  unfold commitAnswered
  split
  · exact (PoolKept.refl s).setTransfer f _
  · exact enterAbandoning_pool f _ s

theorem saveAnswered_pool (w : Waiter) (saved : Bool) (s : State) : PoolKept s (saveAnswered w saved s) := by
  unfold saveAnswered
  split
  · split
    · exact commitAnswered_pool _ _ _ s
    · exact endAbandoned_pool _ _ s
    · exact endCompleted_pool _ _ s
    · exact .refl s
  · exact .refl s

theorem tellAll_pool (ws : List Waiter) (saved : Bool) (s : State) : PoolKept s (tellAll ws saved s) := by
  unfold tellAll
  induction ws generalizing s with
  | nil => exact .refl s
  | cons w ws ih => exact (saveAnswered_pool w saved s).trans (ih _)

theorem stopNotice_pool (f : Frame) (s : State) : PoolKept s (stopNotice f s) := by
  unfold stopNotice
  split
  · split
    · exact enterAbandoning_pool f _ s
    · exact failRunning_pool f _ s
    · exact .refl s
  · exact .refl s

theorem stopAsserted_pool (s : State) : PoolKept s (stopAsserted s) := by
  have hlatch : PoolKept s ((s.setMdc { s.mdc with stopN := true, latch := true }).raiseWatchers .stopSeen) :=
    .of_tku rfl
  unfold stopAsserted
  split
  · exact .refl s
  · exact (((hlatch.trans (enterHold_records _).pool).trans (stopNotice_pool .U _)).trans (stopNotice_pool .L _)).drive

theorem unexpectedEdge_pool (k : Nat) (done : Bool) (s : State) : PoolKept s (unexpectedEdge k done s) := by
  unfold unexpectedEdge
  refine PoolKept.raiseOn ?_ _ _
  split
  · split
    · exact .of_tku rfl
    · exact .of_tku rfl
  · exact .refl s

theorem gearDone_pool (f : Frame) (s : State) : PoolKept s (gearDone f s) := by
  unfold gearDone
  split
  · exact (PoolKept.refl s).setTransfer f _
  · exact .refl s

theorem gdoneEdge_pool (k : Nat) (s : State) : PoolKept s (gdoneEdge k s) := by
  unfold gdoneEdge
  split
  · exact gearDone_pool _ s
  · exact unexpectedEdge_pool k true s

theorem gfltEdge_pool (k : Nat) (s : State) : PoolKept s (gfltEdge k s) := by
  unfold gfltEdge
  split
  · exact failRunning_pool _ _ s
  · exact unexpectedEdge_pool k false s

theorem transferExpires_pool (f : Frame) (s : State) : PoolKept s (transferExpires f s) := by
  unfold transferExpires
  split
  · exact (failRunning_pool f _ s).drive
  · exact .refl s

/-! ### POSITION (R18 to R33) -/

theorem acceptReport_pool (f : Frame) (r : Report) (s : State) : PoolKept s (acceptReport f r s) :=
  .of_tku rfl

theorem checkedReport_pool (f : Frame) (r : Report) (s : State) : PoolKept s (checkedReport f r s) := by
  unfold checkedReport
  exact ((acceptReport_pool f r s).trans (tripOr_records (settleReport_records f r _)).pool).trans
    (reportToTransfer_pool _ _ _ _)

theorem takeReport_pool (f : Frame) (r : Report) (s : State) : PoolKept s (takeReport f r s).1 := by
  unfold takeReport
  split
  · exact .refl s
  split
  · split
    · exact (acquire_records f r s).pool
    · exact .refl s
  · split
    · exact (acceptReport_pool f r s).trans (reportToTransfer_pool _ _ _ _)
    · exact .of_tku rfl
  · split
    · exact checkedReport_pool f r s
    · exact (rejectReport_records f s).pool

theorem position_pool (f : Frame) (e : BitVec 32) (v : BitVec 16) (m : BitVec 32) (fl : Byte) (s : State) :
    PoolKept s (position f e v m fl s).1 :=
  (takeReport_pool f (takenReport s e v m fl) s).drive

/-! ### TRANSFER (R132 to R134) -/

theorem commitMass_inventory (id b : Nat) (f : Frame) (s : State) : InventoryFrame s (commitMass id b f s) :=
  putMass_inventory _ _ _

theorem acceptTransfer_pool (f : Frame) (x : Transfer) (s : State) : PoolKept s (acceptTransfer f x s) := by
  have hcommitted := ((PoolKept.refl s).setTransfer f (some x)).trans
    (forTask_pool (commitMass_inventory x.mass x.bay f _).pool x.task)
  exact (hcommitted.trans (setPhaseAnnounced_pool x.task _ f _)).trans (saveRequest_inventory _ _).pool

theorem startTransfer_pool (f : Frame) (k : Nat) (r : Report) (kind : Kind) (task mass bay : Nat) (s : State) :
    PoolKept s (startTransfer f k r kind task mass bay s).1 := by
  unfold startTransfer
  split
  · exact .refl s
  split
  · exact .refl s
  · next hzones => exact ((reserveZones_records hzones).pool.trans (acceptTransfer_pool f _ _)).drive

theorem requestTransfer_pool (f : Frame) (s : State) : PoolKept s (requestTransfer f s).1 := by
  unfold requestTransfer
  split
  · exact .refl s
  split
  · exact .refl s
  split
  · exact .refl s
  split
  · split
    · exact .refl s
    split
    · exact .refl s
    split
    · exact .refl s
    · exact startTransfer_pool _ _ _ _ _ _ _ s
  · exact .refl s

end Sys2Proof.Machine
end

section
/-! SUPPORT. O8, part 3: the survey, the inventory requests, the store and start-up, every request and every command,
and the statement. -/

namespace Sys2Proof.Machine

/-! ### Survey and inventory requests (R6 to R12, R95 to R102) -/

theorem setSurveyItem_pool (code index value : Nat) (s : State) :
    PoolKept s (setSurveyItem code index value s).1 := by
  unfold setSurveyItem
  split
  · exact .refl s
  split
  · exact .refl s
  split
  · exact .refl s
  · exact .of_tku rfl

theorem saveSurvey_pool (s : State) : PoolKept s (saveSurvey s).1 := by
  unfold saveSurvey
  split
  · exact .refl s
  split
  · exact .refl s
  split
  · exact .refl s
  · exact .of_tku rfl

theorem declareMass_pool (id nominal kind p1 p2 : Nat) (s : State) :
    PoolKept s (declareMass id nominal kind p1 p2 s).1 := by
  unfold declareMass
  split
  · exact .refl s
  split
  · exact .refl s
  split
  · exact .refl s
  next r _ =>
  split
  · exact .refl s
  split
  · exact .refl s
  have hput := (putMass_inventory id r s).trans (setVerified_inventory false _)
  exact (hput.trans (saveRequestIf_inventory _ _)).pool.drive

theorem confirmInventory_pool (s : State) : PoolKept s (confirmInventory s).1 := by
  unfold confirmInventory
  split
  · exact .refl s
  split
  · exact .refl s
  split
  · exact .refl s
  · exact ((setVerified_inventory true s).trans (saveRequest_inventory [] _)).pool.drive

theorem startInventoryWrite_pool (ws : List Waiter) (s : State) : PoolKept s (startInventoryWrite ws s) :=
  .of_tku rfl

theorem saveInventory_pool (s : State) : PoolKept s (saveInventory s).1 := by
  unfold saveInventory saveRequestByDispatch
  simp only [answerWith]
  split
  · exact startInventoryWrite_pool [] s
  · exact (saveRequest_inventory [] s).pool

theorem setBayService_pool (b flag : Nat) (s : State) : PoolKept s (setBayService b flag s).1 := by
  unfold setBayService
  split
  · exact .refl s
  split
  · exact .refl s
  split
  · exact (setBayInService_inventory b _ s).pool
  · exact .refl s

theorem serveLanding_pool (k : Nat) (v : Bool) (s : State) : PoolKept s (serveLanding k v s) := by
  have hflag := (setLandingInService_inventory k v s).pool
  unfold serveLanding
  simp only []
  split
  · exact hflag.trans (.of_tku rfl)
  · exact hflag

theorem setLandingService_pool (k flag : Nat) (s : State) : PoolKept s (setLandingService k flag s).1 := by
  unfold setLandingService
  split
  · exact .refl s
  split
  · exact .refl s
  split
  · exact serveLanding_pool k _ s
  · exact .refl s

/-! ### Ends of store attempts (R11, R12, R93, R94, R176) -/

theorem takeOverSurvey_pool (s : State) : PoolKept s (takeOverSurvey s) := by
  unfold takeOverSurvey
  refine PoolKept.trans ?_ (saveRequest_inventory [] _).pool
  exact .of_tku rfl

theorem settleSave_pool (x : SaveState) (s : State) : PoolKept s (settleSave x s) :=
  .of_tku rfl

theorem inventoryWriteCompleted_pool (s : State) : PoolKept s (inventoryWriteCompleted s) := by
  unfold inventoryWriteCompleted
  split
  · exact (settleSave_pool _ s).trans (tellAll_pool _ _ _)
  · exact (tellAll_pool _ _ s).trans (startInventoryWrite_pool _ _)
  · exact .refl s
  · exact .refl s

theorem enterNotSaved_pool (s : State) : PoolKept s (enterNotSaved s) := by
  unfold enterNotSaved
  exact (((settleSave_pool _ s).trans (tellAll_pool _ _ _)).raiseOn _ _).trans (enterHold_records _).pool

theorem inventoryWriteFailed_pool (s : State) : PoolKept s (inventoryWriteFailed s) := by
  unfold inventoryWriteFailed
  split
  · exact enterNotSaved_pool s
  · exact enterNotSaved_pool s
  · exact .refl s
  · exact .refl s

theorem tellWriteEnd_pool (r : Region) (completed : Bool) (s : State) : PoolKept s (tellWriteEnd r completed s) := by
  unfold tellWriteEnd
  split
  · exact takeOverSurvey_pool s
  · exact .of_tku rfl
  · exact inventoryWriteCompleted_pool s
  · exact inventoryWriteFailed_pool s

theorem setSti_pool (s : State) (x : Sti) : PoolKept s (s.setSti x) :=
  .of_tku rfl

theorem attemptEnds_pool (r : Region) (slot : Slot) (g : BitVec 32) (good : Bool) (s : State) :
    PoolKept s (attemptEnds r slot g good s) := by
  unfold attemptEnds
  split
  · exact (setSti_pool s _).trans (tellWriteEnd_pool r true _)
  split
  · exact setSti_pool s _
  · exact (setSti_pool s _).trans (tellWriteEnd_pool r false _)

theorem storeAttemptEnds_pool (back : Option (List Byte)) (s : State) : PoolKept s (storeAttemptEnds back s) := by
  unfold storeAttemptEnds
  split
  · exact (attemptEnds_pool _ _ _ _ s).drive
  · exact .refl s
  · exact .refl s

/-! ### Cold reset and start-up (R177 to R180) -/

/-- Cold reset puts every record on the free list (R106). -/
theorem coldReset_partitioned (roles : List Role) (stop : Bool) (s : State) :
    PoolPartitioned (coldReset roles stop s) := by
  have htku : (coldReset roles stop s).tku = Tku.initial := by
    unfold coldReset afterStraps
    split
    · rfl
    · rfl
  have hinitial : Tku.initial.pooled = List.range 32 := by simp [Tku.pooled, Tku.initial]
  rw [poolPartitioned_iff, htku, hinitial]

theorem loadSurvey_pool (found : Option Survey) (s : State) : PoolKept s (loadSurvey found s) :=
  .of_tku rfl

theorem setStartUp_pool (x : StartUp) (s : State) : PoolKept s (setStartUp x s) :=
  .of_tku rfl

theorem surveyReadEnd_pool (a b : List (List Byte)) (s : State) : PoolKept s (surveyReadEnd a b s) := by
  unfold surveyReadEnd surveyReadEnds
  split
  · exact ((((setSti_pool s _).trans (loadSurvey_pool _ _)).trans (setSti_pool _ _)).trans (setStartUp_pool _ _)).drive
  · exact .refl s

theorem announceIf_inventory (b : Bool) (s : State) : InventoryFrame s (announceIf b s) := by
  unfold announceIf
  split
  · rfl
  · rfl

theorem adoptInventory_inventory (x : Inv) (s : State) : InventoryFrame s (adoptInventory x s) := rfl

theorem loadInventory_inventory (chosen : Option (Slot × BitVec 32 × List Byte)) (s : State) :
    InventoryFrame s (loadInventory chosen s) := by
  have hadopt (x : Inv) (b : Bool) : InventoryFrame s (announceIf b (adoptInventory x s)) :=
    (adoptInventory_inventory x s).trans (announceIf_inventory b _)
  unfold loadInventory
  split
  · exact (hadopt _ _).trans (saveRequestIf_inventory _ _)
  · exact (hadopt _ _).trans (saveRequest_inventory _ _)

theorem inventoryReadEnd_pool (a b : List (List Byte)) (s : State) : PoolKept s (inventoryReadEnd a b s) := by
  have hmode (t : State) : PoolKept t (enterMode t) := .of_tku rfl
  unfold inventoryReadEnd inventoryReadEnds
  split
  · exact (((setSti_pool s _).trans (loadInventory_inventory _ _).pool).trans (hmode _)).drive
  · exact .refl s

/-! ### The requests (R165, R166) -/

theorem forWinder_pool {p : PortId} {body : Frame → State → Answer} {s : State}
    (h : ∀ f, PoolKept s (body f s).1) : PoolKept s (forWinder p body s).1 := by
  unfold forWinder
  split
  · next f _ => exact h f
  · exact .refl s

/-- A read answers from the state and changes nothing. -/
theorem PoolKept.of_read {s t : State} (h : t = s) : PoolKept s t :=
  .of_tku (congrArg State.tku h)

/-- The block that owns a request keeps the pool (R166). -/
theorem requestBody_pool (i : Instr) (s : State) : PoolKept s (requestBody i s).1 := by
  cases i with
  | position p e v m fl => exact forWinder_pool fun f => position_pool f e v m fl s
  | requestTravel p target => exact forWinder_pool fun f => (requestTravel_records f _ s).pool
  | releaseTravel p => exact forWinder_pool fun f => (releaseTravel_records f s).pool
  | readGrant p => exact forWinder_pool fun f => .refl s
  | readTask p => exact forWinder_pool fun f => .of_read (readTask_state f s)
  | transfer p => exact forWinder_pool fun f => requestTransfer_pool f s
  | submitTask p tag mass bay frame => exact submitTask_pool _ _ _ _ s
  | cancelTask p id => exact cancelTask_pool _ s
  | redirectTask p id bay => exact redirectTask_pool _ _ s
  | takeCompletion p => exact takeCompletion_pool s
  | hold p => exact (requestHold_records s).pool
  | resume p => exact (requestResume_records s).pool
  | lockout p => exact requestLockout_pool s
  | unlock p => exact (requestUnlock_records s).pool
  | ackStop p => exact (acknowledgeStop_records s).pool
  | clearTrip p frame => exact (clearTrip_records _ s).pool
  | setTuning p present vlU legU vlL legL len entries => exact (setTuning_records _ s).pool
  | setSurveyItem p item index value => exact setSurveyItem_pool _ _ _ s
  | saveSurvey p => exact saveSurvey_pool s
  | declareMass p id nominal kind place1 place2 => exact declareMass_pool _ _ _ _ _ s
  | confirmInventory p => exact confirmInventory_pool s
  | saveInventory p => exact saveInventory_pool s
  | setBayService p bay flag => exact setBayService_pool _ _ s
  | setLandingService p landing flag => exact setLandingService_pool _ _ s
  | readFrame p frame => exact .of_read (readFrame_state _ s)
  | readMass p id => exact .of_read (readMass_state _ s)
  | readBay p bay => exact .of_read (readBay_state _ s)
  | readSurveyItem p item index copy => exact .of_read (readSurveyItem_state _ _ _ s)
  | readTaskById p id => exact .of_read (readTaskById_state _ s)
  | clearEvents p flags => exact (clearEvents_records p _ s).pool
  | setEventMask p enables => exact (setEventMask_records p _ s).pool
  | _ => exact .refl s

/-- A frame that is discarded, refused or answered keeps the pool where its block does (R163, R166). -/
theorem takeFrame_pool {p : PortId} {type : Byte} {r : Option Req} {fits : Bool} {body : State → Answer} {s : State}
    (h : PoolKept s (body s).1) : PoolKept s (takeFrame p type r fits body s) := by
  unfold takeFrame
  split
  · exact .refl s
  split
  · exact (discardFrame_records p .overflow s).pool
  refine PoolKept.trans ?_ (addReply_records p _ _).pool
  unfold answerGated
  split
  · exact .refl s
  · exact h

theorem takeBytes_pool (p : PortId) (type : Byte) (payload : List Byte) (s : State) :
    PoolKept s (takeBytes p type payload s) := by
  unfold takeBytes
  split
  · exact takeFrame_pool (.refl s)
  · split
    · exact takeFrame_pool (requestBody_pool _ s)
    · exact takeFrame_pool (.refl s)

theorem checkFrame_pool (p : PortId) (type : Byte) (payload : List Byte) (c0 c1 : Byte) (s : State) :
    PoolKept s (checkFrame p type payload c0 c1 s) := by
  unfold checkFrame
  split
  · exact (setRx_records p .hunt s).pool.trans (takeBytes_pool _ _ _ _)
  · exact (discardFrame_records _ _ s).pool

theorem receiveByte_pool (p : PortId) (b : Byte) (s : State) : PoolKept s (receiveByte p b s) := by
  unfold receiveByte
  split
  · exact .refl s
  unfold takeByte
  split
  · split
    · exact (setRx_records _ _ s).pool
    · exact .refl s
  · exact (setRx_records _ _ s).pool
  · split
    · exact (discardFrame_records _ _ s).pool
    · exact (setRx_records _ _ s).pool
  · exact (setRx_records _ _ s).pool
  · exact (setRx_records _ _ s).pool
  · exact checkFrame_pool _ _ _ _ _ s

/-! ### The step -/

theorem exec_partitioned {c : Instr} {s t : State} (hs : PoolPartitioned s) (h : exec c s = .next t) :
    PoolPartitioned t := by
  cases hreq : encodeRequest c with
  | some x =>
    obtain ⟨p, r, payload⟩ := x
    rw [exec_of_encodeRequest s hreq] at h
    cases h
    exact (takeFrame_pool (requestBody_pool c s)).partitioned hs
  | none =>
    cases c with
    | unknownRequest p type payload => cases h; exact (takeBytes_pool p type payload s).partitioned hs
    | frameDiscarded p cause => cases h; exact (frameDiscarded_records p cause s).pool.partitioned hs
    | gapExpiry p => cases h; exact (gapExpires_records p s).pool.partitioned hs
    | linkBreak p => cases h; exact (linkBreak_records p s).pool.partitioned hs
    | linkBreakEnd p => cases h; exact hs
    | replySent p => cases h; exact hs
    | linkByteReceived p b => cases h; exact (receiveByte_pool p b s).partitioned hs
    | stalenessExpiry f => cases h; exact (stalenessExpires_records f s).pool.partitioned hs
    | transferTimerExpiry f => cases h; exact (transferExpires_pool f s).partitioned hs
    | stopNAssertion => cases h; exact (stopAsserted_pool s).partitioned hs
    | stopNRelease => cases h; exact (stopReleased_records s).pool.partitioned hs
    | gdoneRising k => cases h; exact (gdoneEdge_pool k s).drive.partitioned hs
    | gfltRising k => cases h; exact (gfltEdge_pool k s).drive.partitioned hs
    | coldReset w x y z stop => cases h; exact coldReset_partitioned _ stop s
    | surveyReadEnd a b => cases h; exact (surveyReadEnd_pool a b s).partitioned hs
    | inventoryReadEnd a b => cases h; exact (inventoryReadEnd_pool a b s).partitioned hs
    | storeAttemptEnd back => cases h; exact (storeAttemptEnds_pool back s).partitioned hs
    | _ => cases hreq

theorem dueExpiries_pool {s : State} {e : State → State} (h : e ∈ dueExpiries s) : PoolKept s (e s) := by
  unfold dueExpiries at h
  rw [List.mem_append, List.mem_append] at h
  rcases h with (h | h) | h
  · obtain ⟨f, _, rfl⟩ := List.mem_map.1 h
    exact (stalenessExpires_records f s).pool
  · obtain ⟨f, _, rfl⟩ := List.mem_map.1 h
    exact transferExpires_pool f s
  · obtain ⟨p, _, rfl⟩ := List.mem_map.1 h
    exact (gapExpires_records p s).pool

theorem tick_pool (s : State) : PoolKept s (tick s) := by
  unfold tick
  split
  · next e es hdue => exact dueExpiries_pool (hdue ▸ List.mem_cons_self)
  · exact (advanceTime_records s).pool

/-- Settles O8: a record moves only from the free list to a queue, from a queue to the completion list and from there
back to the free list, and cold reset puts every record on the free list. -/
theorem taskPoolStaysPartitioned : Obligations.TaskPoolStaysPartitioned := by
  intro s t hs h
  unfold step at h
  split at h
  · next c rest _ => exact exec_partitioned (s := s.withPending rest) hs h
  · cases h
    exact (tick_pool s).partitioned hs

end Sys2Proof.Machine
end

section
/-! SUPPORT. O49: which frame a gear edge reaches, what each kind of GDONE edge does, and the statement. -/

namespace Sys2Proof.Machine

/-! ### The frame that runs a landing's gear (R130, R131) -/

theorem Frame.eq_other_of_ne {f g : Frame} (h : g ≠ f) : g = f.other := by
  cases f <;> cases g <;> simp_all [Frame.other]

theorem runsGear_iff {s : State} {k : Nat} {f : Frame} :
    runsGear s k f = true ↔ ∃ x, s.transfer f = some x ∧ x.phase = .gearRunning ∧ x.landing = k := by
  unfold runsGear
  split
  · next t ht => simp [ht]
  · next hnone => simp [hnone]

theorem gearFrame_of_runs {s : State} {k : Nat} {f : Frame} (hf : runsGear s k f = true)
    (hother : runsGear s k f.other ≠ true) : gearFrame s k = some f := by
  cases f with
  | U => simp [gearFrame, hf]
  | L =>
    have hu : ¬ runsGear s k .U = true := hother
    simp [gearFrame, hu, hf]

theorem gearFrame_eq_none {s : State} {k : Nat} (hu : runsGear s k .U ≠ true) (hl : runsGear s k .L ≠ true) :
    gearFrame s k = none := by
  simp [gearFrame, hu, hl]

/-- Only a frame that runs a landing's gear commands one of its outputs (R131). -/
theorem commandsGear_of_not_runs {s : State} {k : Nat} {f : Frame} (h : runsGear s k f ≠ true) (kind : Kind) :
    commandsGear kind k (s.transfer f) = false := by
  unfold commandsGear
  split
  · next t ht =>
    by_contra hc
    simp only [Bool.not_eq_false, Bool.and_eq_true, beq_iff_eq] at hc
    obtain ⟨⟨hphase, -⟩, hlanding⟩ := hc
    exact h (runsGear_iff.mpr ⟨t, ht, hphase, hlanding⟩)
  · rfl

theorem gearLine_of_not_runs {s : State} {k : Nat} (h : ∀ f, runsGear s k f ≠ true) (kind : Kind) :
    gearLine s kind k = false := by
  simp [gearLine, commandsGear_of_not_runs (h .U), commandsGear_of_not_runs (h .L)]

/-- Both command outputs of a landing whose gear no transfer runs are withdrawn (R131). -/
theorem drive_withdraws_gear {s : State} {k : Nat} (hk : k < 12) (h : ∀ f, runsGear s k f ≠ true) :
    s.drive.xfc.ldcmd.getD k true = false ∧ s.drive.xfc.ulcmd.getD k true = false := by
  simp [Bank.getD_ofFn, hk, gearLine_of_not_runs h]

/-- With f's transfer out of GEAR_RUNNING, only the other frame could run the landing's gear. -/
theorem setTransfer_not_runs {s : State} {k : Nat} {f : Frame} {x : Transfer} (hx : x.phase ≠ .gearRunning)
    (hother : runsGear s k f.other ≠ true) (g : Frame) : runsGear (s.setTransfer f (some x)) k g ≠ true := by
  intro hg
  obtain ⟨y, hy, hphase, hlanding⟩ := runsGear_iff.mp hg
  rw [State.transfer_setTransfer] at hy
  split at hy
  · cases hy
    exact hx hphase
  · next hne =>
    obtain rfl := Frame.eq_other_of_ne hne
    exact hother (runsGear_iff.mpr ⟨y, hy, hphase, hlanding⟩)

/-! ### The edge of GDONE (R139, R143) -/

theorem exec_gdoneRising (k : Fin 12) (s : State) : exec (.gdoneRising k) s = .next (gdoneEdge k.val s).drive := rfl

theorem gearDone_of_transfer {s : State} {f : Frame} {x : Transfer} (h : s.transfer f = some x) :
    gearDone f s = s.setTransfer f (some { x with phase := .verifying, timer := none }) := by
  simp [gearDone, h]

theorem gdoneEdge_of_runs {s : State} {k : Nat} {f : Frame} {x : Transfer} (hx : s.transfer f = some x)
    (hf : runsGear s k f = true) (hother : runsGear s k f.other ≠ true) :
    gdoneEdge k s = s.setTransfer f (some { x with phase := .verifying, timer := none }) := by
  simp only [gdoneEdge, gearFrame_of_runs hf hother, gearDone_of_transfer hx]

theorem gdoneEdge_of_not_runs {s : State} {k : Nat} (hu : runsGear s k .U ≠ true) (hl : runsGear s k .L ≠ true) :
    gdoneEdge k s = unexpectedEdge k true s := by
  simp only [gdoneEdge, gearFrame_eq_none hu hl]

/-- The late end of a gear operation that had timed out (R143). -/
theorem unexpectedEdge_late {s : State} {k : Nat} (hk : k < s.svt.working.nl)
    (hmark : s.xfc.timedOut.getD k false = true) :
    unexpectedEdge k true s = ((s.setLanding k { s.landing k with late := true }).setXfc
      { s.xfc with timedOut := s.xfc.timedOut.set k false }).raiseWatchers .gearUnexpected := by
  simp only [unexpectedEdge, hk, hmark, if_true, and_self]
  rfl

/-- An edge that is not the late GDONE of a timed-out landing (R143). -/
theorem unexpectedEdge_not_late {s : State} {k : Nat} {done : Bool} (hk : k < s.svt.working.nl)
    (hlate : ¬ (done = true ∧ s.xfc.timedOut.getD k false = true)) :
    unexpectedEdge k done s =
      (s.setLanding k { s.landing k with unexpected := true }).raiseWatchers .gearUnexpected := by
  simp only [unexpectedEdge, hk, if_true, if_neg hlate]

/-- An edge of a landing that the survey does not have only raises its event (R143). -/
theorem unexpectedEdge_beyond {s : State} {k : Nat} (done : Bool) (hk : s.svt.working.nl ≤ k) :
    unexpectedEdge k done s = s.raiseWatchers .gearUnexpected := by
  simp only [unexpectedEdge, if_neg (Nat.not_lt.mpr hk)]

/-- Settles O49: at a frame that runs the gear the edge is its end, and the outputs driven after it are withdrawn
because no frame runs that gear any more; at no frame it is one of the three unexpected edges. -/
theorem gearDoneStartsTheVerification : Obligations.GearDoneStartsTheVerification := by
  intro k s
  simp only [← runsGear_iff, exec_gdoneRising]
  refine ⟨fun f x hx hphase hlanding hother => ?_, fun hu hl hk hmark => ?_, fun hu hl hk hmark => ?_,
    fun hu hl hk => ?_⟩
  · have hf : runsGear s k.val f = true := runsGear_iff.mpr ⟨x, hx, hphase, hlanding⟩
    rw [gdoneEdge_of_runs hx hf hother]
    exact ⟨_, rfl, rfl, drive_withdraws_gear k.isLt (setTransfer_not_runs (by simp) hother)⟩
  · rw [gdoneEdge_of_not_runs hu hl, unexpectedEdge_late hk hmark]
  · rw [gdoneEdge_of_not_runs hu hl, unexpectedEdge_not_late hk (by simp [hmark])]
  · rw [gdoneEdge_of_not_runs hu hl, unexpectedEdge_beyond true hk]

end Sys2Proof.Machine
end

section
/-! SUPPORT. O22: what an admitted request command leaves, what each event request answers, and the statement. -/

namespace Sys2Proof.Machine

/-! ### An admitted request command (R166) -/

/-- An admitted request command leaves the state its block answers from, with the block's payload in the reply. -/
theorem exec_of_admitted {i : Instr} {s u : State} {p : PortId} {r : Req} {sent payload : List Byte}
    (hi : encodeRequest i = some (p, r, sent)) (h : Admitted s p r) (hb : requestBody i s = (u, payload)) :
    exec i s = .next (replied p r payload u) := by
  rw [exec_of_encodeRequest s hi, takeRequest_eq h hb]

/-! ### The event requests (R171, R172) -/

theorem ownFlags_iff {s : State} {p : PortId} {set : BitVec 16} :
    ownFlags s p set = true ↔ set &&& ~~~(roleFlags (s.port p).role) = 0 := by
  rw [ownFlags, beq_iff_eq]

theorem readEvents_eq (p : PortId) (s : State) :
    readEvents p s = (s, [0x00] ++ u16 (s.port p).flags.toNat ++ u16 (s.port p).mask.toNat) := rfl

theorem setEventMask_own {s : State} {p : PortId} {set : BitVec 16}
    (h : set &&& ~~~(roleFlags (s.port p).role) = 0) :
    setEventMask p set s =
      ((s.setPort p { s.port p with mask := set }).drive, [0x00] ++ u16 set.toNat ++ u16 (s.port p).flags.toNat) :=
  if_pos (ownFlags_iff.mpr h)

theorem setEventMask_foreign {s : State} {p : PortId} {set : BitVec 16}
    (h : set &&& ~~~(roleFlags (s.port p).role) ≠ 0) : setEventMask p set s = (s, [0x13]) :=
  if_neg (mt ownFlags_iff.mp h)

theorem clearEvents_own {s : State} {p : PortId} {set : BitVec 16}
    (h : set &&& ~~~(roleFlags (s.port p).role) = 0) :
    clearEvents p set s =
      ((s.setPort p { s.port p with flags := (s.port p).flags &&& ~~~set }).drive,
        [0x00] ++ u16 ((s.port p).flags &&& ~~~set).toNat) :=
  if_pos (ownFlags_iff.mpr h)

theorem clearEvents_foreign {s : State} {p : PortId} {set : BitVec 16}
    (h : set &&& ~~~(roleFlags (s.port p).role) ≠ 0) : clearEvents p set s = (s, [0x13]) :=
  if_neg (mt ownFlags_iff.mp h)

/-- Settles O22: each clause is one case of the block's answer, a set of the role's own flags or one that names a
foreign flag, put into the reply of an admitted request. -/
theorem eventRequestsActOnTheirPort : Obligations.EventRequestsActOnTheirPort := by
  intro p set s
  refine ⟨fun h => ?read, fun h hown => ?mask, fun h hforeign => ?maskRefused, fun h hown => ?clear,
    fun h hforeign => ?clearRefused⟩
  case read => exact exec_of_admitted rfl h (readEvents_eq p s)
  case mask => exact exec_of_admitted rfl h (setEventMask_own hown)
  case maskRefused => exact exec_of_admitted rfl h (setEventMask_foreign hforeign)
  case clear => exact exec_of_admitted rfl h (clearEvents_own hown)
  case clearRefused => exact exec_of_admitted rfl h (clearEvents_foreign hforeign)

end Sys2Proof.Machine
end

section
/-! SUPPORT. What every operation of the blocks leaves alone: shaft time, queue, start-up, strap fault, the surveys, the
current slots, and of each port all but flags of its own role that are raised and ATTN. -/

namespace Sys2Proof.Machine

/-! ### Ports that only take up flags (R169, R170) -/

/-- From `x` to `y` a port has at most taken up flags of its own role and driven ATTN. -/
def PortState.RaisedTo (x y : PortState) : Prop :=
  ∃ (e : BitVec 16) (a : Bool), e &&& ~~~(roleFlags x.role) = 0 ∧ y = { x with flags := x.flags ||| e, attn := a }

theorem PortState.RaisedTo.refl (x : PortState) : x.RaisedTo x :=
  ⟨0, x.attn, by simp, by simp⟩

theorem PortState.RaisedTo.trans {x y z : PortState} (h1 : x.RaisedTo y) (h2 : y.RaisedTo z) : x.RaisedTo z := by
  obtain ⟨d, a, hd, rfl⟩ := h1
  obtain ⟨e, b, he, rfl⟩ := h2
  refine ⟨d ||| e, b, ?_, by simp [BitVec.or_assoc]⟩
  have hor : (d ||| e) &&& ~~~(roleFlags x.role) = d &&& ~~~(roleFlags x.role) ||| e &&& ~~~(roleFlags x.role) := by
    ext i; simp; grind
  rw [hor, hd, he]; rfl

theorem PortState.RaisedTo.raise {x : PortState} {e : Event} (h : e.bit &&& ~~~(roleFlags x.role) = 0) :
    x.RaisedTo (x.raise e) :=
  ⟨e.bit, x.attn, h, rfl⟩

theorem PortState.RaisedTo.role {x y : PortState} (h : x.RaisedTo y) : y.role = x.role := by
  obtain ⟨e, a, -, rfl⟩ := h; rfl

theorem PortState.RaisedTo.replies {x y : PortState} (h : x.RaisedTo y) : y.replies = x.replies := by
  obtain ⟨e, a, -, rfl⟩ := h; rfl

theorem PortState.RaisedTo.mask {x y : PortState} (h : x.RaisedTo y) : y.mask = x.mask := by
  obtain ⟨e, a, -, rfl⟩ := h; rfl

theorem PortState.RaisedTo.flag {x y : PortState} (h : x.RaisedTo y) {i : Nat} (hi : x.flags.getLsbD i = true) :
    y.flags.getLsbD i = true := by
  obtain ⟨e, a, -, rfl⟩ := h; simp [hi]

/-! ### What a part of the manual's blocks leaves alone -/

/-- What every request but the event requests leaves alone, besides what its own block holds. -/
structure PartKept (s t : State) : Prop where
  time : t.time = s.time
  pending : t.pending = s.pending
  startUp : t.startUp = s.startUp
  strapFault : t.mdc.strapFault = s.mdc.strapFault
  working : t.svt.working = s.svt.working
  current : t.sti.current = s.sti.current
  port : ∀ p, (s.port p).RaisedTo (t.port p)

/-- What the operations of the blocks leave alone: besides the part, the edit survey stays, RUN is not entered, the latch
is not cleared and the inventory does not become VERIFIED. -/
structure Steady (s t : State) : Prop extends PartKept s t where
  edit : t.svt.edit = s.svt.edit
  mode : t.mdc.mode = .run → s.mdc.mode = .run
  latch : s.mdc.latch = true → t.mdc.latch = true
  verified : t.inv.verified = true → s.inv.verified = true

theorem PartKept.refl (s : State) : PartKept s s := ⟨rfl, rfl, rfl, rfl, rfl, rfl, fun _ => .refl _⟩

theorem PartKept.trans {s t u : State} (h1 : PartKept s t) (h2 : PartKept t u) : PartKept s u :=
  ⟨h2.time.trans h1.time, h2.pending.trans h1.pending, h2.startUp.trans h1.startUp, h2.strapFault.trans h1.strapFault,
    h2.working.trans h1.working, h2.current.trans h1.current, fun p => (h1.port p).trans (h2.port p)⟩

theorem Steady.refl (s : State) : Steady s s := ⟨.refl s, rfl, id, id, id⟩

theorem Steady.trans {s t u : State} (h1 : Steady s t) (h2 : Steady t u) : Steady s u :=
  ⟨h1.toPartKept.trans h2.toPartKept, h2.edit.trans h1.edit, h1.mode ∘ h2.mode, h2.latch ∘ h1.latch,
    h1.verified ∘ h2.verified⟩

/-- A change of blocks that names none of the items the part keeps. -/
theorem Steady.of_blocks {s t : State}
    (h : t = { s with
      svt := { t.svt with working := s.svt.working, edit := s.svt.edit }, ftk := t.ftk, gru := t.gru, arb := t.arb
      inv := { t.inv with verified := s.inv.verified }, tku := t.tku, xfc := t.xfc
      sti := { t.sti with current := s.sti.current } }) : Steady s t := by
  rw [h]
  exact ⟨⟨rfl, rfl, rfl, rfl, rfl, rfl, fun _ => .refl _⟩, rfl, id, id, id⟩

/-- Raising a flag on ports of roles that have it (R169). -/
theorem Steady.raiseOn {s t : State} (h : Steady s t) {who : Role → Bool} {e : Event}
    (he : ∀ r, who r = true → e.bit &&& ~~~(roleFlags r) = 0) : Steady s (t.raiseOn who e) := by
  refine h.trans ⟨⟨rfl, rfl, rfl, rfl, rfl, rfl, fun p => ?_⟩, rfl, id, id, id⟩
  rw [State.port_raiseOn]
  split
  · next hw => exact .raise (he _ hw)
  · exact .refl _

theorem Steady.raiseWinder {s t : State} (h : Steady s t) (f : Frame) (e : Event)
    (he : e.bit &&& ~~~(roleFlags .winderU) = 0 := by decide) : Steady s (t.raiseWinder f e) :=
  h.raiseOn fun r hr => by cases f <;> rw [beq_iff_eq.1 hr] <;> exact he

theorem Steady.raiseWatchers {s t : State} (h : Steady s t) (e : Event)
    (he : e.bit &&& ~~~(roleFlags .dispatch) = 0 := by decide) : Steady s (t.raiseWatchers e) :=
  h.raiseOn fun r hr => by cases r <;> first | exact he | cases hr

theorem Steady.raiseFrame {s t : State} (h : Steady s t) (f : Frame) (e : Event)
    (hw : e.bit &&& ~~~(roleFlags .winderU) = 0 := by decide)
    (hd : e.bit &&& ~~~(roleFlags .dispatch) = 0 := by decide) : Steady s (t.raiseFrame f e) :=
  h.raiseOn fun r _ => by cases r <;> assumption

theorem Steady.raiseAll {s t : State} (h : Steady s t) (e : Event)
    (hw : e.bit &&& ~~~(roleFlags .winderU) = 0 := by decide)
    (hd : e.bit &&& ~~~(roleFlags .dispatch) = 0 := by decide) : Steady s (t.raiseAll e) :=
  h.raiseOn fun r _ => by cases r <;> assumption

/-- The driven lines change ATTN of a port and nothing that the part keeps (R170). -/
theorem Steady.drive {s t : State} (h : Steady s t) : Steady s t.drive := by
  refine h.trans ⟨⟨rfl, rfl, rfl, rfl, rfl, rfl, fun p => ?_⟩, rfl, id, id, id⟩
  rw [State.port_drive]
  exact ⟨0, attnLine (t.port p), by simp, by simp⟩

theorem Steady.setTransfer {s t : State} (h : Steady s t) (f : Frame) (x : Option Transfer) :
    Steady s (t.setTransfer f x) := h.trans (.of_blocks rfl)

theorem Steady.setArb {s t : State} (h : Steady s t) (x : Arb) : Steady s (t.setArb x) := h.trans (.of_blocks rfl)

theorem Steady.setTask {s t : State} (h : Steady s t) (id : Nat) (x : Task) : Steady s (t.setTask id x) :=
  h.trans (.of_blocks rfl)

theorem ReservationFrame.steady {s t : State} (h : ReservationFrame s t) : Steady s t := by
  unfold ReservationFrame at h
  rw [h]
  exact .of_blocks rfl

/-! ### Modes and trips (R32, R149) -/

theorem changeMode_steady {m : Mode} (hm : m ≠ .run) (s : State) : Steady s (changeMode m s) := by
  have hset : Steady s (setMode m s) :=
    ⟨⟨rfl, rfl, rfl, rfl, rfl, rfl, fun _ => .refl _⟩, rfl, fun h => absurd h hm, id, id⟩
  exact hset.raiseAll .modeChanged

theorem enterHold_steady (s : State) : Steady s (enterHold s) := by
  unfold enterHold
  split
  · exact changeMode_steady (by decide) s
  · exact .refl s

theorem moveTracker_steady (f : Frame) (n : Tracker) (s : State) : Steady s (moveTracker f n s) := by
  have hset : Steady s (s.setTracker f n) := .of_blocks rfl
  unfold moveTracker
  simp only []
  split
  · exact hset
  · exact hset.raiseFrame f .frameState

theorem trip_steady (f : Frame) (r : BitVec 16) (s : State) : Steady s (trip f r s) :=
  (moveTracker_steady _ _ s).trans (enterHold_steady _)

/-! ### Grants and rounds (R50 to R66, R75 to R81) -/

theorem trimTo_steady (f : Frame) (n : Run) (d : Option Dir) (s : State) : Steady s (trimTo f n d s) := by
  unfold trimTo
  split
  · next g _ =>
    have hset : Steady s (s.setGrant f (some (g.clip n))) := .of_blocks rfl
    simp only []
    split
    · exact hset.raiseWinder f .grantChanged
    · exact hset
  · exact .refl s

theorem trim_steady (f : Frame) (s : State) : Steady s (trim f s) := by
  unfold trim
  split
  · split
    · exact trimTo_steady _ _ _ s
    · exact .refl s
  · exact .refl s

theorem takePendingTuning_steady (f : Frame) (s : State) : Steady s (takePendingTuning f s) := by
  rw [takePendingTuning_frame]
  exact .of_blocks rfl

theorem clearRequest_steady (f : Frame) (why : EndReason) (s : State) : Steady s (clearRequest f why s) := by
  have hended : Steady s (((s.setRequest f none).setGru { (s.setRequest f none).gru with
      lastEnd := (s.setRequest f none).gru.lastEnd.set f why }).raiseWinder f .requestEnded) :=
    Steady.raiseWinder (.of_blocks rfl) f .requestEnded
  have hcleared := (hended.trans (.of_blocks (t := State.setBlocked _ f false) rfl)).trans
    (takePendingTuning_steady f _)
  unfold clearRequest
  simp only []
  split
  · exact hcleared
  · exact hcleared.trans (trim_steady f _)

theorem setGrantAnnounced_steady (f : Frame) (g : Option Run) (s : State) :
    Steady s ((s.setGrant f g).raiseWinder f .grantChanged) :=
  Steady.raiseWinder (.of_blocks rfl) f .grantChanged

theorem reserveZones_steady {f : Frame} {r : Run} {s t : State} (h : reserveZones f r s = some t) : Steady s t := by
  unfold reserveZones at h
  split at h
  · simp only [] at h
    split at h
    · cases h
      split
      · exact .refl s
      · exact setGrantAnnounced_steady _ _ s
    · cases h
  · cases h

theorem reformGrant_steady (f : Frame) (e : Run) (s : State) : Steady s (reformGrant f e s) := by
  unfold reformGrant
  split
  · exact .refl s
  · exact setGrantAnnounced_steady _ _ s

theorem releaseGrant_steady (f : Frame) (s : State) : Steady s (releaseGrant f s) := by
  have hcleared : Steady s (if (s.request f).isSome then clearRequest f .cleared s else s) := by
    split
    · exact clearRequest_steady _ _ s
    · exact .refl s
  unfold releaseGrant
  simp only []
  generalize (if (s.request f).isSome then clearRequest f .cleared s else s) = t at hcleared ⊢
  split
  · exact hcleared.trans (setGrantAnnounced_steady _ _ t)
  · exact hcleared

theorem applyServed_steady (f : Frame) (x : Option Run) (s : State) : Steady s (applyServed f x s) := by
  unfold applyServed
  split
  · exact setGrantAnnounced_steady _ _ s
  · exact .refl s

theorem deadlockStep_steady (s : State) : Steady s (deadlockStep s) := by
  unfold deadlockStep
  split
  · exact ((clearRequest_steady _ .yield s).setArb _).raiseWatchers .deadlock
  · exact .refl s

theorem serviceStep_steady (s : State) : Steady s (serviceStep s).1 := by
  unfold serviceStep
  split
  · exact ((applyServed_steady _ _ s).trans (applyServed_steady _ _ _)).setArb _
  · exact (applyServed_steady _ _ s).trans (applyServed_steady _ _ _)

theorem reportBlocked_steady (f : Frame) (x : Bool) (s : State) : Steady s (reportBlocked f x s) := by
  unfold reportBlocked
  split
  · exact Steady.raiseFrame (.of_blocks (t := s.setBlocked f true) rfl) f .blocked
  · exact .refl s

theorem holdRound_steady (s : State) : Steady s (holdRound s) :=
  (((deadlockStep_steady s).trans (serviceStep_steady _)).trans (reportBlocked_steady _ _ _)).trans
    (reportBlocked_steady _ _ _)

theorem askRound_steady (s : State) : Steady s (askRound s) := by
  unfold askRound
  split
  · exact holdRound_steady s
  · exact .refl s

theorem askRoundIf_steady (b : Bool) (s : State) : Steady s (askRoundIf b s) := by
  unfold askRoundIf
  split
  · exact askRound_steady s
  · exact .refl s

/-! ### Inventory and store (R86 to R95, R175) -/

theorem Sti.beginWrite_current (x : Sti) (r : Region) (items : List Byte) :
    (x.beginWrite r items).current = x.current := rfl

theorem Sti.handOver_current (x : Sti) (r : Region) (items : List Byte) :
    (x.handOver r items).current = x.current := by
  unfold Sti.handOver
  split
  · exact x.beginWrite_current r items
  · rfl

theorem handOver_steady (r : Region) (items : List Byte) (s : State) : Steady s (handOver r items s) :=
  ⟨⟨rfl, rfl, rfl, rfl, rfl, s.sti.handOver_current r items, fun _ => .refl _⟩, rfl, id, id, id⟩

theorem startInventoryWrite_steady (ws : List Waiter) (s : State) : Steady s (startInventoryWrite ws s) :=
  (handOver_steady .inventory _ s).trans (.of_blocks (t := State.setInv _ _) rfl)

theorem saveRequest_steady (ws : List Waiter) (s : State) : Steady s (saveRequest ws s) := by
  unfold saveRequest
  split
  · exact startInventoryWrite_steady ws s
  · exact .of_blocks rfl
  · exact .of_blocks rfl
  · exact .refl s

theorem saveRequestIf_steady (b : Bool) (s : State) : Steady s (saveRequestIf b s) := by
  unfold saveRequestIf
  split
  · exact saveRequest_steady [] s
  · exact .refl s

theorem saveRequestByDispatch_steady (s : State) : Steady s (saveRequestByDispatch s) := by
  unfold saveRequestByDispatch
  split
  · exact startInventoryWrite_steady [] s
  · exact saveRequest_steady [] s

theorem setUnverified_steady (s : State) : Steady s (setVerified false s) := by
  have hset : Steady s (s.setInv { s.inv with verified := false }) :=
    ⟨⟨rfl, rfl, rfl, rfl, rfl, rfl, fun _ => .refl _⟩, rfl, id, id, fun h => by cases h⟩
  unfold setVerified
  split
  · exact .refl s
  · exact hset.raiseWatchers .inventoryState

theorem putMass_steady (id : Nat) (r : Mass) (s : State) : Steady s (putMass id r s) := by
  rw [putMass_frame]
  exact .of_blocks rfl

theorem loseMass_steady (id : Nat) (s : State) : Steady s (loseMass id s) :=
  ((putMass_steady _ _ s).trans (setUnverified_steady _)).trans (saveRequest_steady [] _)

theorem restoreMass_steady (id : Nat) (p : ReturnPlace) (s : State) : Steady s (restoreMass id p s) := by
  cases p with
  | bay b => exact putMass_steady _ _ s
  | frame f k => exact putMass_steady _ _ s

theorem verifiedMass_steady (f : Frame) (x : Transfer) (s : State) : Steady s (verifiedMass f x s) := by
  unfold verifiedMass
  split
  · exact putMass_steady _ _ s
  · exact putMass_steady _ _ s

theorem setLandingInService_steady (k : Nat) (v : Bool) (s : State) : Steady s (setLandingInService k v s) :=
  Steady.trans (t := s.setLanding k _) (.of_blocks rfl) (saveRequestIf_steady _ _)

theorem setBayInService_steady (b : Nat) (v : Bool) (s : State) : Steady s (setBayInService b v s) :=
  Steady.trans (t := s.setBay b _) (.of_blocks rfl) (saveRequestIf_steady _ _)

/-! ### Tasks (R115 to R126) -/

theorem setPhaseAnnounced_steady (id : Nat) (p : Phase) (f : Frame) (s : State) :
    Steady s ((setPhase id p s).raiseWinder f .taskChanged) :=
  ((Steady.refl s).setTask _ _).raiseWinder f .taskChanged

theorem activateHead_steady (f : Frame) (s : State) : Steady s (activateHead f s) := by
  unfold activateHead
  split
  · exact (Steady.refl s).setTask _ _
  · exact .refl s

theorem endTask_steady (id : Nat) (p : Phase) (next : Bool) (s : State) : Steady s (endTask id p next s) := by
  unfold endTask
  split
  · exact .refl s
  next f _ =>
  simp only []
  have hreleased := (releaseTask_frame id s).steady.setTask id
    (endedRecord (releaseTask id s) ((releaseTask id s).task id) p)
  generalize (releaseTask id s).setTask id (endedRecord (releaseTask id s) ((releaseTask id s).task id) p) = t
    at hreleased ⊢
  have hlisted := (hreleased.trans (.of_blocks (t := t.setTku { t.tku with
      queues := t.tku.queues.set f ((t.tku.queues.get f).erase id)
      completion := t.tku.completion ++ [id] }) rfl)).raiseWatchers .completionReady
  split
  · split
    · exact (hlisted.trans (activateHead_steady f _)).raiseWinder f .taskChanged
    · exact hlisted.raiseWinder f .taskChanged
  · exact hlisted

theorem endWithReasons_steady (id : Nat) (r : BitVec 16) (p : Phase) (next : Bool) (s : State) :
    Steady s (endTask id p next (addTaskReasons id r s)) :=
  ((Steady.refl s).setTask id _).trans (endTask_steady id p next _)

theorem endQueue_steady (f : Frame) (s : State) : Steady s (endQueue f s) := by
  unfold endQueue
  generalize s.tku.queues.get f = ids
  induction ids generalizing s with
  | nil => exact .refl s
  | cons id ids ih => exact (endWithReasons_steady id _ _ _ s).trans (ih _)

theorem restoreTask_steady (id : Nat) (f : Frame) (s : State) : Steady s (restoreTask id f s) := by
  unfold restoreTask
  split
  · simp only []
    split
    · exact (setPhaseAnnounced_steady _ _ _ s).trans (endWithReasons_steady _ _ _ _ _)
    · exact setPhaseAnnounced_steady _ _ _ s
  · exact setPhaseAnnounced_steady _ _ _ s
  · exact .refl s

theorem failTask_steady (id : Nat) (c : BitVec 16) (s : State) : Steady s (failTask id c s) :=
  endWithReasons_steady id _ _ _ s

theorem releaseBayUnless_steady (c : Prop) [Decidable c] (b n : Nat) (s : State) :
    Steady s (if c then s else releaseBay b n s) := by
  split
  · exact .refl s
  · exact (releaseBay_frame b n s).steady

theorem returnTask_steady (id : Nat) (f : Frame) (s : State) : Steady s (returnTask id f s) := by
  unfold returnTask
  exact ((releaseBayUnless_steady _ (s.task id).dest id s).setTask _ _).raiseWinder f .taskChanged

theorem advanceTask_steady (id : Nat) (f : Frame) (s : State) : Steady s (advanceTask id f s) := by
  unfold advanceTask
  split
  · split
    · exact returnTask_steady id f s
    · exact setPhaseAnnounced_steady _ _ _ s
  · exact endTask_steady _ _ _ s
  · exact .refl s

theorem acceptTask_steady (n : Nat) (tag : BitVec 16) (id b : Nat) (f : Frame) (s : State) :
    Steady s (acceptTask n tag id b f s) := by
  have hqueued : Steady s (queuedWith n (newTask s tag id b f) f s) := by
    have hlisted : Steady s ((s.setTask n (newTask s tag id b f)).setTku
        { (s.setTask n (newTask s tag id b f)).tku with
          free := (s.setTask n (newTask s tag id b f)).tku.free.erase n }) := .of_blocks rfl
    have hreserved := hlisted.trans ((reserveMass_frame id n _).trans (reserveBayOf_frame
      (newTask s tag id b f).source n _) |>.trans (reserveBay_frame b n _)).steady
    exact hreserved.trans (.of_blocks (t := State.setTku _ _) rfl)
  rw [acceptTask_eq]
  split
  · exact (hqueued.trans (activateHead_steady f _)).raiseWinder f .taskChanged
  · exact hqueued

theorem submitTask_steady (tag : BitVec 16) (id b frame : Nat) (s : State) :
    Steady s (submitTask tag id b frame s).1 := by
  unfold submitTask
  split
  · exact .refl s
  split
  · exact .refl s
  split
  · exact .refl s
  split
  · exact .refl s
  split
  · exact .refl s
  split
  · exact .refl s
  split
  · exact .refl s
  · exact (acceptTask_steady _ _ _ _ _ s).drive

theorem cancelTask_steady (id : Nat) (s : State) : Steady s (cancelTask id s).1 := by
  unfold cancelTask
  split
  · exact .refl s
  split
  · exact .refl s
  split
  · exact (endWithReasons_steady _ _ _ _ s).drive
  · exact (endWithReasons_steady _ _ _ _ s).drive
  · exact (Steady.refl s).setTask _ _
  · exact .refl s

theorem moveDestination_steady (id b : Nat) (s : State) : Steady s (moveDestination id b s) := by
  unfold moveDestination
  exact ((releaseBayUnless_steady _ (s.task id).dest id s).trans (reserveBay_frame b id _).steady).setTask _ _

theorem redirectTask_steady (id b : Nat) (s : State) : Steady s (redirectTask id b s).1 := by
  unfold redirectTask
  split
  · exact .refl s
  split
  · exact .refl s
  split
  · exact .refl s
  split
  · exact .refl s
  split
  · exact .refl s
  simp only []
  split
  · exact ((moveDestination_steady id b s).raiseWinder _ .taskChanged).drive
  · exact moveDestination_steady id b s

theorem takeCompletion_steady (s : State) : Steady s (takeCompletion s).1 := by
  unfold takeCompletion
  split
  · exact .refl s
  · exact .of_blocks rfl

/-! ### Transfers (R130 to R147) -/

theorem endAbandoned_steady (f : Frame) (saved : Bool) (s : State) : Steady s (endAbandoned f saved s) := by
  unfold endAbandoned
  split
  · exact Steady.raiseWinder (.of_blocks (t := clearContext f _ s) rfl) f .transferEnded
  · exact .refl s

theorem endCompleted_steady (f : Frame) (saved : Bool) (s : State) : Steady s (endCompleted f saved s) := by
  unfold endCompleted
  split
  · exact (Steady.trans (.of_blocks (t := clearContext f _ s) rfl) (advanceTask_steady _ f _)).raiseWinder
      f .transferEnded
  · exact .refl s

theorem tripForCause_steady (f : Frame) (c : Cause) (s : State) : Steady s (tripForCause f c s) := by
  unfold tripForCause
  split
  · exact trip_steady _ _ s
  · exact .refl s

theorem endFailed_steady (f : Frame) (x : Transfer) (c : Cause) (s : State) : Steady s (endFailed f x c s) := by
  have hcleared : Steady s (clearContext f (x.result .failed c false) s) := .of_blocks rfl
  unfold endFailed
  exact ((hcleared.trans (tripForCause_steady f c _)).trans (failTask_steady _ _ _)).raiseWinder f .transferEnded

theorem forTask_steady {s : State} {change : State → State} (h : Steady s (change s)) (id : Nat) :
    Steady s (forTask id change s) :=
  h.setTask _ _

theorem failRunning_steady (f : Frame) (c : Cause) (s : State) : Steady s (failRunning f c s) := by
  unfold failRunning
  split
  · next x _ =>
    have hlost := (forTask_steady (loseMass_steady x.mass s) x.task).trans
      (setLandingInService_steady x.landing false _)
    simp only []
    split
    · exact (hlost.trans (.of_blocks (t := setTimedOut _ _ _) rfl)).trans (endFailed_steady f x c _)
    · exact hlost.trans (endFailed_steady f x c _)
  · exact .refl s

theorem failVerifying_steady (f : Frame) (c : Cause) (s : State) : Steady s (failVerifying f c s) := by
  unfold failVerifying
  split
  · next x _ => exact (forTask_steady (loseMass_steady x.mass s) x.task).trans (endFailed_steady f x c _)
  · exact .refl s

theorem saveFor_steady (f : Frame) (c : Change) {told : State → State} {s : State} (h : Steady s (told s)) :
    Steady s (saveFor f c told s) := by
  unfold saveFor
  split
  · exact h
  · exact saveRequest_steady _ s

theorem enterAbandoning_steady (f : Frame) (c : Cause) (s : State) : Steady s (enterAbandoning f c s) := by
  unfold enterAbandoning
  split
  · next x _ =>
    have hcontext := (Steady.refl s).setTransfer f (some { x with phase := .abandoning, cause := c })
    have hrestored := (hcontext.trans (forTask_steady (restoreMass_steady x.mass x.ret _) x.task)).trans
      (restoreTask_steady x.task f _)
    exact hrestored.trans (saveFor_steady f .restore (endAbandoned_steady f false _))
  · exact .refl s

theorem verify_steady (f : Frame) (r : Report) (s : State) : Steady s (verify f r s) := by
  unfold verify
  split
  · next x _ =>
    split
    · have hverified := (forTask_steady (verifiedMass_steady f x s) x.task).setTransfer f
        (some { x with phase := .finishing })
      exact hverified.trans (saveFor_steady f .verified (endCompleted_steady f false _))
    · exact failVerifying_steady f _ s
  · exact .refl s

theorem brakeReleased_steady (f : Frame) (p : XPhase) (s : State) : Steady s (brakeReleased f p s) := by
  cases p with
  | committing => exact enterAbandoning_steady f _ s
  | gearRunning => exact failRunning_steady f _ s
  | abandoning => exact .refl s
  | verifying => exact failVerifying_steady f _ s
  | finishing => exact .refl s

theorem askBrakeTrip_steady (f : Frame) (s : State) : Steady s (askBrakeTrip f s) := by
  unfold askBrakeTrip
  split
  · exact .refl s
  · exact trip_steady _ _ s

theorem reportToTransfer_steady (f : Frame) (r : Report) (tripped : Bool) (s : State) :
    Steady s (reportToTransfer f r tripped s) := by
  unfold reportToTransfer
  split
  · split
    · exact (askBrakeTrip_steady f s).trans (brakeReleased_steady f _ _)
    · split
      · exact verify_steady f r s
      · exact .refl s
  · exact .refl s

theorem commitAnswered_steady (f : Frame) (x : Transfer) (saved : Bool) (s : State) :
    Steady s (commitAnswered f x saved s) := by
  unfold commitAnswered
  split
  · exact (Steady.refl s).setTransfer f _
  · exact enterAbandoning_steady f _ s

theorem saveAnswered_steady (w : Waiter) (saved : Bool) (s : State) : Steady s (saveAnswered w saved s) := by
  unfold saveAnswered
  split
  · split
    · exact commitAnswered_steady _ _ _ s
    · exact endAbandoned_steady _ _ s
    · exact endCompleted_steady _ _ s
    · exact .refl s
  · exact .refl s

theorem tellAll_steady (ws : List Waiter) (saved : Bool) (s : State) : Steady s (tellAll ws saved s) := by
  unfold tellAll
  induction ws generalizing s with
  | nil => exact .refl s
  | cons w ws ih => exact (saveAnswered_steady w saved s).trans (ih _)

theorem stopNotice_steady (f : Frame) (s : State) : Steady s (stopNotice f s) := by
  unfold stopNotice
  split
  · split
    · exact enterAbandoning_steady f _ s
    · exact failRunning_steady f _ s
    · exact .refl s
  · exact .refl s

theorem unexpectedEdge_steady (k : Nat) (done : Bool) (s : State) : Steady s (unexpectedEdge k done s) := by
  unfold unexpectedEdge
  refine Steady.raiseWatchers ?_ .gearUnexpected
  split
  · split
    · exact .of_blocks rfl
    · exact .of_blocks rfl
  · exact .refl s

theorem gearDone_steady (f : Frame) (s : State) : Steady s (gearDone f s) := by
  unfold gearDone
  split
  · exact (Steady.refl s).setTransfer f _
  · exact .refl s

theorem gdoneEdge_steady (k : Nat) (s : State) : Steady s (gdoneEdge k s) := by
  unfold gdoneEdge
  split
  · exact gearDone_steady _ s
  · exact unexpectedEdge_steady k true s

theorem gfltEdge_steady (k : Nat) (s : State) : Steady s (gfltEdge k s) := by
  unfold gfltEdge
  split
  · exact failRunning_steady _ _ s
  · exact unexpectedEdge_steady k false s

theorem transferExpires_steady (f : Frame) (s : State) : Steady s (transferExpires f s) := by
  unfold transferExpires
  split
  · exact (failRunning_steady f _ s).drive
  · exact .refl s

theorem acceptTransfer_steady (f : Frame) (x : Transfer) (s : State) : Steady s (acceptTransfer f x s) := by
  have hcommitted := ((Steady.refl s).setTransfer f (some x)).trans
    (forTask_steady (change := commitMass x.mass x.bay f) (putMass_steady x.mass _ _) x.task)
  exact (hcommitted.trans (setPhaseAnnounced_steady x.task _ f _)).trans (saveRequest_steady _ _)

theorem startTransfer_steady (f : Frame) (k : Nat) (r : Report) (kind : Kind) (task mass bay : Nat) (s : State) :
    Steady s (startTransfer f k r kind task mass bay s).1 := by
  unfold startTransfer
  split
  · exact .refl s
  split
  · exact .refl s
  · next hzones => exact ((reserveZones_steady hzones).trans (acceptTransfer_steady f _ _)).drive

theorem requestTransfer_steady (f : Frame) (s : State) : Steady s (requestTransfer f s).1 := by
  unfold requestTransfer
  split
  · exact .refl s
  split
  · exact .refl s
  split
  · exact .refl s
  split
  · split
    · exact .refl s
    split
    · exact .refl s
    split
    · exact .refl s
    · exact startTransfer_steady _ _ _ _ _ _ _ s
  · exact .refl s

/-! ### Reports, expiries and travel requests (R18 to R61) -/

theorem acceptReport_steady (f : Frame) (r : Report) (s : State) : Steady s (acceptReport f r s) := .of_blocks rfl

theorem countRejection_steady (f : Frame) (s : State) : Steady s (countRejection f s) := .of_blocks rfl

theorem rejectReport_steady (f : Frame) (s : State) : Steady s (rejectReport f s) := by
  unfold rejectReport
  simp only []
  split
  · exact (countRejection_steady f s).trans (trip_steady _ _ _)
  · exact countRejection_steady f s

theorem tripOr_steady {f : Frame} {x : BitVec 16} {next : State → State} {s : State} (h : Steady s (next s)) :
    Steady s (tripOr f x next s) := by
  unfold tripOr
  split
  · exact h
  · exact trip_steady _ _ s

theorem acquire_steady (f : Frame) (r : Report) (s : State) : Steady s (acquire f r s) := by
  have haccepted := acceptReport_steady f r s
  unfold acquire
  simp only []
  split
  · exact ((haccepted.trans (setGrantAnnounced_steady f _ _)).trans (moveTracker_steady f _ _)).trans
      (tripOr_steady (askRound_steady _))
  · exact haccepted.trans (trip_steady _ _ _)

theorem arrive_steady (f : Frame) (s : State) : Steady s (arrive f s) := by
  unfold arrive
  split
  · exact clearRequest_steady _ _ s
  · exact .refl s

theorem reportToGrants_steady (f : Frame) (b : Bool) (s : State) : Steady s (reportToGrants f b s) :=
  ((trim_steady f s).trans (arrive_steady f _)).trans (askRoundIf_steady _ _)

theorem settleReport_steady (f : Frame) (r : Report) (s : State) : Steady s (settleReport f r s) := by
  unfold settleReport
  split
  · exact reportToGrants_steady _ _ s
  · split
    · exact (moveTracker_steady f _ s).trans (reportToGrants_steady _ _ _)
    · exact .refl s
  · exact .refl s

theorem checkedReport_steady (f : Frame) (r : Report) (s : State) : Steady s (checkedReport f r s) := by
  unfold checkedReport
  exact ((acceptReport_steady f r s).trans (tripOr_steady (settleReport_steady f r _))).trans
    (reportToTransfer_steady _ _ _ _)

theorem takeReport_steady (f : Frame) (r : Report) (s : State) : Steady s (takeReport f r s).1 := by
  unfold takeReport
  split
  · exact .refl s
  split
  · split
    · exact acquire_steady f r s
    · exact .refl s
  · split
    · exact (acceptReport_steady f r s).trans (reportToTransfer_steady _ _ _ _)
    · exact countRejection_steady f s
  · split
    · exact checkedReport_steady f r s
    · exact rejectReport_steady f s

theorem position_steady (f : Frame) (e : BitVec 32) (v : BitVec 16) (m : BitVec 32) (fl : Byte) (s : State) :
    Steady s (position f e v m fl s).1 :=
  (takeReport_steady f (takenReport s e v m fl) s).drive

theorem stalenessEnds_steady (f : Frame) (s : State) : Steady s (stalenessEnds f s) := by
  have hstopped : Steady s (s.setTracker f { s.tracker f with timer := none }) := .of_blocks rfl
  unfold stalenessEnds
  simp only []
  split
  · exact hstopped.trans (moveTracker_steady f _ _)
  · exact hstopped

theorem stalenessExpires_steady (f : Frame) (s : State) : Steady s (stalenessExpires f s) := by
  unfold stalenessExpires
  split
  · exact (stalenessEnds_steady f s).drive
  · exact .refl s

theorem storeTravel_steady (f : Frame) (x : Travel) (s : State) : Steady s (storeTravel f x s) :=
  Steady.trans (t := placeRequest f x s) (.of_blocks rfl) ((trim_steady _ _).trans (askRound_steady _))

theorem reverseTravel_steady (f : Frame) (x : Travel) (r : Report) (d : Dir) (s : State) :
    Steady s (reverseTravel f x r d s) :=
  (trimTo_steady f _ (some d) s).trans (Steady.trans (t := placeRequest f x _) (.of_blocks rfl) (askRound_steady _))

theorem takeTravel_steady (f : Frame) (x : Travel) (r : Report) (s : State) : Steady s (takeTravel f x r s).1 := by
  unfold takeTravel
  split
  · exact (storeTravel_steady f x s).drive
  · split
    · exact (storeTravel_steady f x s).drive
    · split
      · exact (reverseTravel_steady _ _ _ _ s).drive
      · exact .refl s

theorem requestTravel_steady (f : Frame) (target : Nat) (s : State) : Steady s (requestTravel f target s).1 := by
  unfold requestTravel
  split
  · exact .refl s
  split
  · exact .refl s
  split
  · exact .refl s
  split
  · exact .refl s
  split
  · exact .refl s
  split
  · exact .refl s
  exact takeTravel_steady _ _ _ s

theorem releaseTravel_steady (f : Frame) (s : State) : Steady s (releaseTravel f s).1 := by
  unfold releaseTravel
  split
  · exact .refl s
  · exact ((clearRequest_steady f _ s).trans (askRoundIf_steady _ _)).drive

/-! ### Modes, tuning and the stop chain (R14 to R17, R149 to R157) -/

theorem requestHold_steady (s : State) : Steady s (requestHold s).1 := by
  unfold requestHold
  split
  · exact (enterHold_steady s).drive
  · exact .refl s
  · exact .refl s

theorem enterLockout_steady (s : State) : Steady s (enterLockout s) := by
  have hmode : Steady s (setMode .lockout s) :=
    ⟨⟨rfl, rfl, rfl, rfl, rfl, rfl, fun _ => .refl _⟩, rfl, (by cases ·), id, id⟩
  have hgrants := (hmode.trans (releaseGrant_steady .U _)).trans (releaseGrant_steady .L _)
  have htrackers := (hgrants.trans (moveTracker_steady .U Tracker.initial _)).trans
    (moveTracker_steady .L Tracker.initial _)
  exact ((htrackers.trans (endQueue_steady .U _)).trans (endQueue_steady .L _)).raiseAll .modeChanged

theorem requestLockout_steady (s : State) : Steady s (requestLockout s).1 := by
  unfold requestLockout
  split
  · exact .refl s
  split
  · exact .refl s
  split
  · exact .refl s
  · exact (enterLockout_steady s).drive

theorem requestUnlock_steady (s : State) : Steady s (requestUnlock s).1 := by
  unfold requestUnlock
  split
  · exact .refl s
  split
  · exact .refl s
  split
  · exact .refl s
  split
  · exact .refl s
  · exact (changeMode_steady (by decide) s).drive

theorem assertStop_steady (s : State) : Steady s (assertStop s) := by
  have hlatched : Steady s (s.setMdc { s.mdc with stopN := true, latch := true }) :=
    ⟨⟨rfl, rfl, rfl, rfl, rfl, rfl, fun _ => .refl _⟩, rfl, id, fun _ => rfl, id⟩
  have hheld := (hlatched.raiseWatchers .stopSeen).trans (enterHold_steady _)
  exact (hheld.trans (stopNotice_steady .U _)).trans (stopNotice_steady .L _)

theorem stopAsserted_steady (s : State) : Steady s (stopAsserted s) := by
  unfold stopAsserted
  split
  · exact .refl s
  · exact (assertStop_steady s).drive

theorem stopReleased_steady (s : State) : Steady s (stopReleased s) := by
  have hreleased : Steady s (releaseStop s) :=
    ⟨⟨rfl, rfl, rfl, rfl, rfl, rfl, fun _ => .refl _⟩, rfl, id, id, id⟩
  unfold stopReleased
  split
  · exact hreleased.drive
  · exact .refl s

theorem clearTripOf_steady (f : Frame) (s : State) : Steady s (clearTripOf f s).1 := by
  unfold clearTripOf
  split
  · exact .refl s
  split
  · exact .refl s
  split
  · exact .refl s
  split
  · exact .refl s
  split
  · exact .refl s
  generalize firstMass s (barsClearing f) = barring
  cases barring with
  | some id => exact .refl s
  | none =>
  simp only []
  split
  · exact (((moveTracker_steady f _ s).trans (reformGrant_steady f _ _)).trans (askRound_steady _)).drive
  · exact .refl s

theorem clearTrip_steady (frame : Nat) (s : State) : Steady s (clearTrip frame s).1 := by
  unfold clearTrip
  split
  · exact .refl s
  split
  · exact .refl s
  split
  · exact .refl s
  · exact .refl s
  · exact .refl s
  · exact clearTripOf_steady _ s

theorem setTuning_steady (x : TuningParts) (s : State) : Steady s (setTuning x s).1 := by
  have happlied : Steady s (applyTuning x s) := .of_blocks rfl
  unfold setTuning
  split
  · exact .refl s
  · exact (happlied.trans (askRoundIf_steady _ _)).drive

/-! ### Survey and inventory requests (R8, R95 to R102) -/

theorem saveSurvey_steady (s : State) : Steady s (saveSurvey s).1 := by
  unfold saveSurvey
  split
  · exact .refl s
  split
  · exact .refl s
  split
  · exact .refl s
  · have hset : Steady s (s.setSvt { s.svt with saveOutstanding := true }) := .of_blocks rfl
    exact hset.trans (handOver_steady .survey (surveyBody s.svt.edit) _)

theorem declareMass_steady (id nominal kind p1 p2 : Nat) (s : State) :
    Steady s (declareMass id nominal kind p1 p2 s).1 := by
  unfold declareMass
  split
  · exact .refl s
  split
  · exact .refl s
  split
  · exact .refl s
  next r _ =>
  split
  · exact .refl s
  split
  · exact .refl s
  exact (((putMass_steady id r s).trans (setUnverified_steady _)).trans (saveRequestIf_steady _ _)).drive

theorem setBayService_steady (b flag : Nat) (s : State) : Steady s (setBayService b flag s).1 := by
  unfold setBayService
  split
  · exact .refl s
  split
  · exact .refl s
  split
  · exact setBayInService_steady b _ s
  · exact .refl s

theorem setLandingService_steady (k flag : Nat) (s : State) : Steady s (setLandingService k flag s).1 := by
  unfold setLandingService
  split
  · exact .refl s
  split
  · exact .refl s
  split
  · unfold serveLanding
    simp only [answerWith]
    split
    · exact (setLandingInService_steady k _ s).trans (.of_blocks rfl)
    · exact setLandingInService_steady k _ s
  · exact .refl s

/-! ### Ends of inventory writes (R93, R94) -/

theorem inventoryWriteCompleted_steady (s : State) : Steady s (inventoryWriteCompleted s) := by
  unfold inventoryWriteCompleted
  split
  · exact Steady.trans (.of_blocks (t := settleSave .clean s) rfl) (tellAll_steady _ _ _)
  · exact (tellAll_steady _ _ s).trans (startInventoryWrite_steady _ _)
  · exact .refl s
  · exact .refl s

theorem enterNotSaved_steady (s : State) : Steady s (enterNotSaved s) := by
  have hsettled : Steady s (settleSave .notSaved s) := .of_blocks rfl
  exact ((hsettled.trans (tellAll_steady _ _ _)).raiseWatchers .storeFault).trans (enterHold_steady _)

theorem inventoryWriteFailed_steady (s : State) : Steady s (inventoryWriteFailed s) := by
  unfold inventoryWriteFailed
  split
  · exact enterNotSaved_steady s
  · exact enterNotSaved_steady s
  · exact .refl s
  · exact .refl s

theorem surveySaveFailed_steady (s : State) : Steady s (surveySaveFailed s) :=
  Steady.raiseWatchers (.of_blocks (t := s.setSvt _) rfl) .storeFault

end Sys2Proof.Machine
end

section
/-! SUPPORT. O3, O12, O15: what a taken request, a byte and a plant command leave alone, and the three statements. -/

namespace Sys2Proof.Machine

/-! ### The few changes that requests make beside the steady operations -/

/-- What a request may change that no steady operation does: the mode, the latch, the inventory state, an item of the edit
survey, or a port's own mask or flags. -/
inductive Opens (s : State) : Instr → State → Prop where
  | nothing (i : Instr) : Opens s i s
  | resume (p : PortId) : Opens s (.resume p) (setMode .run s)
  | ackStop (p : PortId) : Opens s (.ackStop p) (s.setMdc { s.mdc with latch := false })
  | confirm (p : PortId) : Opens s (.confirmInventory p) (s.setInv { s.inv with verified := true })
  | surveyItem (p : PortId) (item index : Byte) (value : BitVec 32) (edit : Survey) :
      Opens s (.setSurveyItem p item index value) (s.setSvt { s.svt with edit := edit })
  | mask (p : PortId) (x : BitVec 16) (h : x &&& ~~~(roleFlags (s.port p).role) = 0) :
      Opens s (.setEventMask p x) (s.setPort p { s.port p with mask := x })
  | clear (p : PortId) (x : BitVec 16) :
      Opens s (.clearEvents p x) (s.setPort p { s.port p with flags := (s.port p).flags &&& ~~~x })

/-- A request's answer is steady after what the request opens. -/
def OpenedSteady (i : Instr) (s t : State) : Prop := ∃ u, Opens s i u ∧ Steady u t

theorem Steady.opened {s t : State} (h : Steady s t) (i : Instr) : OpenedSteady i s t := ⟨s, .nothing i, h⟩

/-- A read answers from the state and changes nothing. -/
theorem Steady.of_read {s t : State} (h : t = s) : Steady s t := h ▸ .refl s

theorem forWinder_steady {p : PortId} {body : Frame → State → Answer} {s : State}
    (h : ∀ f, Steady s (body f s).1) : Steady s (forWinder p body s).1 := by
  unfold forWinder
  split
  · next f _ => exact h f
  · exact .refl s

theorem requestResume_opened (p : PortId) (s : State) : OpenedSteady (.resume p) s (requestResume s).1 := by
  unfold requestResume
  split
  · exact (Steady.refl s).opened _
  split
  · exact (Steady.refl s).opened _
  split
  · exact (Steady.refl s).opened _
  split
  · exact (Steady.refl s).opened _
  split
  · exact (Steady.refl s).opened _
  split
  · exact (Steady.refl s).opened _
  split
  · exact (Steady.refl s).opened _
  · exact ⟨_, .resume p, (((Steady.refl _).raiseAll .modeChanged).trans (askRound_steady _)).drive⟩

theorem acknowledgeStop_opened (p : PortId) (s : State) : OpenedSteady (.ackStop p) s (acknowledgeStop s).1 := by
  unfold acknowledgeStop
  split
  · exact (Steady.refl s).opened _
  · exact ⟨_, .ackStop p, (Steady.refl _).drive⟩

theorem confirmInventory_opened (p : PortId) (s : State) :
    OpenedSteady (.confirmInventory p) s (confirmInventory s).1 := by
  unfold confirmInventory
  split
  · exact (Steady.refl s).opened _
  generalize firstMass s barsConfirming = barring
  cases barring with
  | some id => exact (Steady.refl s).opened _
  | none =>
    simp only []
    split
    · exact (Steady.refl s).opened _
    · next hnot =>
      have hset : setVerified true s = (s.setInv { s.inv with verified := true }).raiseWatchers .inventoryState := by
        simp [setVerified, hnot]
      rw [hset]
      exact ⟨_, .confirm p, (((Steady.refl _).raiseWatchers .inventoryState).trans (saveRequest_steady [] _)).drive⟩

theorem setSurveyItem_opened (p : PortId) (item index : Byte) (value : BitVec 32) (s : State) :
    OpenedSteady (.setSurveyItem p item index value) s (setSurveyItem item.toNat index.toNat value.toNat s).1 := by
  unfold setSurveyItem
  split
  · exact (Steady.refl s).opened _
  split
  · exact (Steady.refl s).opened _
  split
  · exact (Steady.refl s).opened _
  · exact ⟨_, .surveyItem p item index value (s.svt.edit.setItem item.toNat index.toNat value.toNat), .of_blocks rfl⟩

theorem setEventMask_opened (p : PortId) (x : BitVec 16) (s : State) :
    OpenedSteady (.setEventMask p x) s (setEventMask p x s).1 := by
  by_cases h : x &&& ~~~(roleFlags (s.port p).role) = 0
  · rw [setEventMask_own h]
    exact ⟨_, .mask p x h, (Steady.refl _).drive⟩
  · rw [setEventMask_foreign h]
    exact (Steady.refl s).opened _

theorem clearEvents_opened (p : PortId) (x : BitVec 16) (s : State) :
    OpenedSteady (.clearEvents p x) s (clearEvents p x s).1 := by
  by_cases h : x &&& ~~~(roleFlags (s.port p).role) = 0
  · rw [clearEvents_own h]
    exact ⟨_, .clear p x, (Steady.refl _).drive⟩
  · rw [clearEvents_foreign h]
    exact (Steady.refl s).opened _

/-- The block that owns a request is steady but for what the request opens (R166). -/
theorem requestBody_opened (i : Instr) (s : State) : OpenedSteady i s (requestBody i s).1 := by
  cases i with
  | position p e v m fl => exact (forWinder_steady fun f => position_steady f e v m fl s).opened _
  | requestTravel p target => exact (forWinder_steady fun f => requestTravel_steady f _ s).opened _
  | releaseTravel p => exact (forWinder_steady fun f => releaseTravel_steady f s).opened _
  | readGrant p => exact (forWinder_steady fun f => .refl s).opened _
  | readTask p => exact (forWinder_steady fun f => .of_read (readTask_state f s)).opened _
  | transfer p => exact (forWinder_steady fun f => requestTransfer_steady f s).opened _
  | submitTask p tag mass bay frame => exact (submitTask_steady _ _ _ _ s).opened _
  | cancelTask p id => exact (cancelTask_steady _ s).opened _
  | redirectTask p id bay => exact (redirectTask_steady _ _ s).opened _
  | takeCompletion p => exact (takeCompletion_steady s).opened _
  | hold p => exact (requestHold_steady s).opened _
  | resume p => exact requestResume_opened p s
  | lockout p => exact (requestLockout_steady s).opened _
  | unlock p => exact (requestUnlock_steady s).opened _
  | ackStop p => exact acknowledgeStop_opened p s
  | clearTrip p frame => exact (clearTrip_steady _ s).opened _
  | setTuning p present vlU legU vlL legL len entries => exact (setTuning_steady _ s).opened _
  | setSurveyItem p item index value => exact setSurveyItem_opened p item index value s
  | saveSurvey p => exact (saveSurvey_steady s).opened _
  | declareMass p id nominal kind place1 place2 => exact (declareMass_steady _ _ _ _ _ s).opened _
  | confirmInventory p => exact confirmInventory_opened p s
  | saveInventory p => exact (saveRequestByDispatch_steady s).opened _
  | setBayService p bay flag => exact (setBayService_steady _ _ s).opened _
  | setLandingService p landing flag => exact (setLandingService_steady _ _ s).opened _
  | readFrame p frame => exact (Steady.of_read (readFrame_state _ s)).opened _
  | readMass p id => exact (Steady.of_read (readMass_state _ s)).opened _
  | readBay p bay => exact (Steady.of_read (readBay_state _ s)).opened _
  | readSurveyItem p item index copy => exact (Steady.of_read (readSurveyItem_state _ _ _ s)).opened _
  | readTaskById p id => exact (Steady.of_read (readTaskById_state _ s)).opened _
  | clearEvents p flags => exact clearEvents_opened p flags s
  | setEventMask p enables => exact setEventMask_opened p enables s
  | _ => exact (Steady.refl s).opened _

/-! ### Taking a frame and a byte (R161, R163, R166) -/

/-- A frame that completes is not received, discarded, or answered: without its block, or by it where no condition of
R166 is met (R163, R164, R166). -/
theorem takeFrame_cases (p : PortId) (type : Byte) (r : Option Req) (fits : Bool) (body : State → Answer) (s : State) :
    takeFrame p type r fits body s = s ∨ takeFrame p type r fits body s = discardFrame p .overflow s ∨
      ((s.port p).replies.length < 4 ∧ ∃ x, takeFrame p type r fits body s = addReply p x s ∨
        (s.startUp = .ended ∧ takeFrame p type r fits body s = addReply p x (body s).1)) := by
  unfold takeFrame
  split
  · exact .inl rfl
  split
  · exact .inr (.inl rfl)
  next hroom =>
  refine .inr (.inr ⟨?_, ?_⟩)
  · simpa [repliesFull] using hroom
  · unfold answerGated
    split
    · exact ⟨_, .inl rfl⟩
    · next hgate => exact ⟨_, .inr ⟨startUp_of_gate hgate, rfl⟩⟩

/-- Taking a frame keeps what its block keeps, what a discard keeps and what a reply keeps. -/
theorem takeFrame_induct {P : State → Prop} {p : PortId} {type : Byte} {r : Option Req} {fits : Bool}
    {body : State → Answer} {s : State} (same : P s) (discarded : P (discardFrame p .overflow s))
    (refused : ∀ x, (s.port p).replies.length < 4 → P (addReply p x s))
    (answered : ∀ x, (s.port p).replies.length < 4 → s.startUp = .ended → P (addReply p x (body s).1)) :
    P (takeFrame p type r fits body s) := by
  obtain h | h | ⟨hroom, x, h | ⟨hstart, h⟩⟩ := takeFrame_cases p type r fits body s
  · rwa [h]
  · rwa [h]
  · rw [h]; exact refused x hroom
  · rw [h]; exact answered x hroom hstart

/-! ### What a command on a port leaves (R161 to R172) -/

/-- What a command on port p leaves alone, a request it completes among it: the part, every role, and the other ports'
masks. -/
structure PortCommandKept (p : PortId) (s t : State) : Prop where
  time : t.time = s.time
  pending : t.pending = s.pending
  startUp : t.startUp = s.startUp
  strapFault : t.mdc.strapFault = s.mdc.strapFault
  working : t.svt.working = s.svt.working
  current : t.sti.current = s.sti.current
  role : ∀ q, (t.port q).role = (s.port q).role
  mask : ∀ q, q ≠ p → (t.port q).mask = (s.port q).mask

theorem PartKept.portCommand {s t : State} (h : PartKept s t) (p : PortId) : PortCommandKept p s t :=
  ⟨h.time, h.pending, h.startUp, h.strapFault, h.working, h.current, fun q => (h.port q).role,
    fun q _ => (h.port q).mask⟩

theorem PortCommandKept.trans {p : PortId} {s t u : State} (h1 : PortCommandKept p s t) (h2 : PortCommandKept p t u) :
    PortCommandKept p s u :=
  ⟨h2.time.trans h1.time, h2.pending.trans h1.pending, h2.startUp.trans h1.startUp,
    h2.strapFault.trans h1.strapFault, h2.working.trans h1.working, h2.current.trans h1.current,
    fun q => (h2.role q).trans (h1.role q), fun q hq => (h2.mask q hq).trans (h1.mask q hq)⟩

/-- A port that keeps its role may change in anything else. -/
theorem setPort_portCommand {p : PortId} {s : State} {x : PortState} (h : x.role = (s.port p).role) :
    PortCommandKept p s (s.setPort p x) := by
  refine ⟨rfl, rfl, rfl, rfl, rfl, rfl, fun q => ?_, fun q hq => ?_⟩
  · by_cases hq : q = p
    · rw [hq, State.port_setPort, h]
    · rw [State.port_setPort_ne _ _ _ _ hq]
  · rw [State.port_setPort_ne _ _ _ _ hq]

theorem discardFrame_portCommand (p : PortId) (c : LinkCause) (s : State) :
    PortCommandKept p s (discardFrame p c s) :=
  (setPort_portCommand (x := ((s.port p).discard c).raise .linkError) rfl).trans
    ((Steady.refl _).drive.toPartKept.portCommand p)

theorem addReply_portCommand (p : PortId) (x : Reply) (s : State) : PortCommandKept p s (addReply p x s) :=
  setPort_portCommand rfl

theorem Opens.portCommand {i : Instr} {s u : State} (h : Opens s i u) {p : PortId} {r : Req} {payload : List Byte}
    (hi : encodeRequest i = some (p, r, payload)) : PortCommandKept p s u := by
  cases h with
  | nothing => exact (PartKept.refl s).portCommand p
  | resume q => exact ⟨rfl, rfl, rfl, rfl, rfl, rfl, fun _ => rfl, fun _ _ => rfl⟩
  | ackStop q => exact ⟨rfl, rfl, rfl, rfl, rfl, rfl, fun _ => rfl, fun _ _ => rfl⟩
  | confirm q => exact ⟨rfl, rfl, rfl, rfl, rfl, rfl, fun _ => rfl, fun _ _ => rfl⟩
  | surveyItem q item index value edit => exact ⟨rfl, rfl, rfl, rfl, rfl, rfl, fun _ => rfl, fun _ _ => rfl⟩
  | mask q x hown => cases hi; exact setPort_portCommand rfl
  | clear q x => cases hi; exact setPort_portCommand rfl

theorem requestBody_portCommand {i : Instr} {p : PortId} {r : Req} {payload : List Byte} (s : State)
    (hi : encodeRequest i = some (p, r, payload)) : PortCommandKept p s (requestBody i s).1 := by
  obtain ⟨u, hopen, hsteady⟩ := requestBody_opened i s
  exact (hopen.portCommand hi).trans (hsteady.toPartKept.portCommand p)

theorem takeFrame_portCommand {p : PortId} {type : Byte} {r : Option Req} {fits : Bool} {body : State → Answer}
    {s : State} (h : PortCommandKept p s (body s).1) : PortCommandKept p s (takeFrame p type r fits body s) :=
  takeFrame_induct ((PartKept.refl s).portCommand p) (discardFrame_portCommand p _ s)
    (fun x _ => addReply_portCommand p x s) (fun x _ _ => h.trans (addReply_portCommand p x _))

/-- A payload that spells a request has the length of its type, and the request is one of the port and the type it came
with (R182). -/
theorem encodeRequest_of_decodeRequest {p : PortId} {r : Req} {payload : List Byte} {i : Instr}
    (h : decodeRequest p r payload = some i) :
    (∃ sent, encodeRequest i = some (p, r, sent)) ∧ payload.length = r.payloadLength := by
  cases r
  all_goals repeat' first
    | exact absurd (show none = some i from h) nofun
    | exact ⟨⟨_, by cases h; rfl⟩, rfl⟩
    | rcases payload with _ | ⟨_, payload⟩

theorem takeBytes_portCommand (p : PortId) (type : Byte) (payload : List Byte) (s : State) :
    PortCommandKept p s (takeBytes p type payload s) := by
  unfold takeBytes
  split
  · exact takeFrame_portCommand ((PartKept.refl s).portCommand p)
  · split
    · next hdecode =>
      obtain ⟨⟨sent, hi⟩, -⟩ := encodeRequest_of_decodeRequest hdecode
      exact takeFrame_portCommand (requestBody_portCommand s hi)
    · exact takeFrame_portCommand ((PartKept.refl s).portCommand p)

theorem setRx_portCommand (p : PortId) (x : Rx) (s : State) : PortCommandKept p s (setRx p x s) :=
  setPort_portCommand rfl

/-- A byte keeps what a change of the receive state, a discard and the taking of a frame keep (R161). -/
theorem receiveByte_induct {P : State → Prop} {p : PortId} {b : Byte} {s : State} (same : P s)
    (moved : ∀ x, P (setRx p x s)) (discarded : ∀ c, P (discardFrame p c s))
    (taken : ∀ type payload, P (takeBytes p type payload (setRx p .hunt s))) : P (receiveByte p b s) := by
  unfold receiveByte
  split
  · exact same
  unfold takeByte
  split
  · split
    · exact moved _
    · exact same
  · exact moved _
  · split
    · exact discarded _
    · exact moved _
  · exact moved _
  · exact moved _
  · unfold checkFrame
    split
    · exact taken _ _
    · exact discarded _

theorem receiveByte_portCommand (p : PortId) (b : Byte) (s : State) : PortCommandKept p s (receiveByte p b s) :=
  receiveByte_induct ((PartKept.refl s).portCommand p) (fun x => setRx_portCommand p x s)
    (fun c => discardFrame_portCommand p c s)
    (fun _ _ => (setRx_portCommand p .hunt s).trans (takeBytes_portCommand p _ _ _))

/-! ### Store operations and start-up (R175 to R180) -/

/-- What the ends of store operations leave alone: shaft time, the queue, strap fault, the ports but for raised flags;
RUN is not entered and the latch is not cleared. -/
structure StoreKept (s t : State) : Prop where
  time : t.time = s.time
  pending : t.pending = s.pending
  strapFault : t.mdc.strapFault = s.mdc.strapFault
  port : ∀ p, (s.port p).RaisedTo (t.port p)
  mode : t.mdc.mode = .run → s.mdc.mode = .run
  latch : s.mdc.latch = true → t.mdc.latch = true

theorem Steady.store {s t : State} (h : Steady s t) : StoreKept s t :=
  ⟨h.time, h.pending, h.strapFault, h.port, h.mode, h.latch⟩

theorem StoreKept.trans {s t u : State} (h1 : StoreKept s t) (h2 : StoreKept t u) : StoreKept s u :=
  ⟨h2.time.trans h1.time, h2.pending.trans h1.pending, h2.strapFault.trans h1.strapFault,
    fun p => (h1.port p).trans (h2.port p), h1.mode ∘ h2.mode, h2.latch ∘ h1.latch⟩

theorem StoreKept.of_blocks {s t : State}
    (h : t = { s with
      startUp := t.startUp, svt := t.svt, gru := t.gru, arb := t.arb, inv := t.inv, sti := t.sti }) :
    StoreKept s t := by
  rw [h]
  exact ⟨rfl, rfl, rfl, fun _ => .refl _, id, id⟩

/-- Besides, start-up stays where it stands and the inventory does not become VERIFIED. -/
structure AttemptKept (s t : State) : Prop extends StoreKept s t where
  startUp : t.startUp = s.startUp
  verified : t.inv.verified = true → s.inv.verified = true

theorem Steady.attempt {s t : State} (h : Steady s t) : AttemptKept s t := ⟨h.store, h.startUp, h.verified⟩

theorem AttemptKept.trans {s t u : State} (h1 : AttemptKept s t) (h2 : AttemptKept t u) : AttemptKept s u :=
  ⟨h1.toStoreKept.trans h2.toStoreKept, h2.startUp.trans h1.startUp, h1.verified ∘ h2.verified⟩

theorem setSti_attempt (s : State) (x : Sti) : AttemptKept s (s.setSti x) := ⟨.of_blocks rfl, rfl, id⟩

theorem takeOverSurvey_attempt (s : State) : AttemptKept s (takeOverSurvey s) := by
  refine AttemptKept.trans ?_ (saveRequest_steady [] _).attempt
  exact ⟨.of_blocks rfl, rfl, id⟩

theorem tellWriteEnd_attempt (r : Region) (completed : Bool) (s : State) :
    AttemptKept s (tellWriteEnd r completed s) := by
  unfold tellWriteEnd
  split
  · exact takeOverSurvey_attempt s
  · exact (surveySaveFailed_steady s).attempt
  · exact (inventoryWriteCompleted_steady s).attempt
  · exact (inventoryWriteFailed_steady s).attempt

theorem storeAttemptEnds_attempt (back : Option (List Byte)) (s : State) :
    AttemptKept s (storeAttemptEnds back s) := by
  unfold storeAttemptEnds
  split
  · refine AttemptKept.trans ?_ (Steady.refl _).drive.attempt
    unfold attemptEnds
    split
    · exact (setSti_attempt s _).trans (tellWriteEnd_attempt _ true _)
    split
    · exact setSti_attempt s _
    · exact (setSti_attempt s _).trans (tellWriteEnd_attempt _ false _)
  · exact (Steady.refl s).attempt
  · exact (Steady.refl s).attempt

theorem surveyReadEnd_store (a b : List (List Byte)) (s : State) : StoreKept s (surveyReadEnd a b s) := by
  unfold surveyReadEnd
  split
  · exact StoreKept.trans (.of_blocks rfl) (Steady.refl _).drive.store
  · exact (Steady.refl s).store

theorem startMode_ne_run (s : State) : startMode s ≠ .run := by
  unfold startMode
  split <;> decide

theorem announceIf_steady (b : Bool) (s : State) : Steady s (announceIf b s) := by
  unfold announceIf
  split
  · exact (Steady.refl s).raiseWatchers .inventoryState
  · exact .refl s

theorem adoptInventory_store (x : Inv) (s : State) : StoreKept s (adoptInventory x s) := .of_blocks rfl

theorem loadInventory_store (chosen : Option (Slot × BitVec 32 × List Byte)) (s : State) :
    StoreKept s (loadInventory chosen s) := by
  unfold loadInventory
  split
  · exact ((adoptInventory_store _ s).trans (announceIf_steady _ _).store).trans (saveRequestIf_steady _ _).store
  · exact ((adoptInventory_store _ s).trans (announceIf_steady _ _).store).trans (saveRequest_steady _ _).store

theorem enterMode_store (s : State) : StoreKept s (enterMode s) :=
  (changeMode_steady (startMode_ne_run s) s).store.trans (.of_blocks (t := setStartUp .ended _) rfl)

theorem inventoryReadEnd_store (a b : List (List Byte)) (s : State) : StoreKept s (inventoryReadEnd a b s) := by
  unfold inventoryReadEnd
  split
  · have hread : StoreKept s (endRead .inventory (chooseSlot (slotImage .inventory a) (slotImage .inventory b)) s) :=
      .of_blocks rfl
    exact ((hread.trans (loadInventory_store _ _)).trans (enterMode_store _)).trans (Steady.refl _).drive.store
  · exact (Steady.refl s).store

end Sys2Proof.Machine
end

section
/-! SUPPORT. O3, O15: the effect of a command by its kind, and what changes by its own commands alone. -/

namespace Sys2Proof.Machine

/-- What each command's effect is, by its kind: a request of R165 is taken, every other command acts by its own
operation. -/
theorem exec_induct {P : Instr → State → Prop} {s : State}
    (request : ∀ i p r payload, encodeRequest i = some (p, r, payload) → P i (takeRequest p r (requestBody i) s))
    (unknown : ∀ p type payload, P (.unknownRequest p type payload) (takeBytes p type payload s))
    (discarded : ∀ p c, P (.frameDiscarded p c) (frameDiscarded p c s))
    (gap : ∀ p, P (.gapExpiry p) (gapExpires p s))
    (broken : ∀ p, P (.linkBreak p) (linkBreak p s))
    (ended : ∀ p, P (.linkBreakEnd p) (linkBreakEnd p s))
    (sent : ∀ p, P (.replySent p) (replySent p s))
    (byte : ∀ p b, P (.linkByteReceived p b) (receiveByte p b s))
    (staleness : ∀ f, P (.stalenessExpiry f) (stalenessExpires f s))
    (timer : ∀ f, P (.transferTimerExpiry f) (transferExpires f s))
    (stop : P .stopNAssertion (stopAsserted s))
    (release : P .stopNRelease (stopReleased s))
    (done : ∀ k : Fin 12, P (.gdoneRising k) (gdoneEdge k.val s).drive)
    (fault : ∀ k : Fin 12, P (.gfltRising k) (gfltEdge k.val s).drive)
    (reset : ∀ w x y z a, P (.coldReset w x y z a) (coldReset ([w, x, y, z].map roleOfStrap) a s))
    (survey : ∀ a b, P (.surveyReadEnd a b) (surveyReadEnd a b s))
    (inventory : ∀ a b, P (.inventoryReadEnd a b) (inventoryReadEnd a b s))
    (attempt : ∀ back, P (.storeAttemptEnd back) (storeAttemptEnds back s)) (c : Instr) :
    ∃ t, exec c s = .next t ∧ P c t := by
  cases c with
  | unknownRequest p type payload => exact ⟨_, rfl, unknown p type payload⟩
  | frameDiscarded p c => exact ⟨_, rfl, discarded p c⟩
  | gapExpiry p => exact ⟨_, rfl, gap p⟩
  | linkBreak p => exact ⟨_, rfl, broken p⟩
  | linkBreakEnd p => exact ⟨_, rfl, ended p⟩
  | replySent p => exact ⟨_, rfl, sent p⟩
  | linkByteReceived p b => exact ⟨_, rfl, byte p b⟩
  | stalenessExpiry f => exact ⟨_, rfl, staleness f⟩
  | transferTimerExpiry f => exact ⟨_, rfl, timer f⟩
  | stopNAssertion => exact ⟨_, rfl, stop⟩
  | stopNRelease => exact ⟨_, rfl, release⟩
  | gdoneRising k => exact ⟨_, rfl, done k⟩
  | gfltRising k => exact ⟨_, rfl, fault k⟩
  | coldReset w x y z a => exact ⟨_, rfl, reset w x y z a⟩
  | surveyReadEnd a b => exact ⟨_, rfl, survey a b⟩
  | inventoryReadEnd a b => exact ⟨_, rfl, inventory a b⟩
  | storeAttemptEnd back => exact ⟨_, rfl, attempt back⟩
  | _ => exact ⟨_, exec_of_encodeRequest s rfl, request _ _ _ _ rfl⟩

theorem takeRequest_portCommand {i : Instr} {p : PortId} {r : Req} {payload : List Byte} (s : State)
    (hi : encodeRequest i = some (p, r, payload)) : PortCommandKept p s (takeRequest p r (requestBody i) s) :=
  takeFrame_portCommand (requestBody_portCommand s hi)

theorem frameDiscarded_portCommand (p : PortId) (c : DiscardCause) (s : State) :
    PortCommandKept p s (frameDiscarded p c s) := by
  unfold frameDiscarded
  split
  · exact discardFrame_portCommand p _ s
  · exact (PartKept.refl s).portCommand p

theorem gapExpires_portCommand (p : PortId) (s : State) : PortCommandKept p s (gapExpires p s) := by
  unfold gapExpires
  split
  · exact discardFrame_portCommand p _ s
  · exact (PartKept.refl s).portCommand p

theorem linkBreak_portCommand (p : PortId) (s : State) : PortCommandKept p s (linkBreak p s) := by
  unfold linkBreak
  split
  · exact (PartKept.refl s).portCommand p
  · exact (setPort_portCommand (x := (s.port p).break) rfl).trans ((Steady.refl _).drive.toPartKept.portCommand p)

theorem linkBreakEnd_portCommand (p : PortId) (s : State) : PortCommandKept p s (linkBreakEnd p s) :=
  setPort_portCommand rfl

theorem replySent_portCommand (p : PortId) (s : State) : PortCommandKept p s (replySent p s) :=
  setPort_portCommand rfl

theorem gdoneCommand_steady (k : Nat) (s : State) : Steady s (gdoneEdge k s).drive := (gdoneEdge_steady k s).drive

theorem gfltCommand_steady (k : Nat) (s : State) : Steady s (gfltEdge k s).drive := (gfltEdge_steady k s).drive

theorem coldReset_pending (roles : List Role) (stop : Bool) (s : State) :
    (coldReset roles stop s).pending = s.pending := by
  have hafter : (afterStraps (soundRoles roles) (sampled roles stop s.pending)).pending = s.pending := by
    unfold afterStraps
    split <;> rfl
  exact ((Steady.refl _).drive.pending).trans hafter

/-! ### O3 -/

/-- Settles O3: each kind of command answers a next state with the queue as it was. -/
theorem everyCommandCompletesAndKeepsTheQueue : Obligations.EveryCommandCompletesAndKeepsTheQueue := by
  intro c s
  exact exec_induct (P := fun _ t => t.pending = s.pending)
    (fun _ _ _ _ hi => (takeRequest_portCommand s hi).pending)
    (fun p type payload => (takeBytes_portCommand p type payload s).pending)
    (fun p c => (frameDiscarded_portCommand p c s).pending)
    (fun p => (gapExpires_portCommand p s).pending)
    (fun p => (linkBreak_portCommand p s).pending)
    (fun p => (linkBreakEnd_portCommand p s).pending)
    (fun p => (replySent_portCommand p s).pending)
    (fun p b => (receiveByte_portCommand p b s).pending)
    (fun f => (stalenessExpires_steady f s).pending)
    (fun f => (transferExpires_steady f s).pending)
    (stopAsserted_steady s).pending
    (stopReleased_steady s).pending
    (fun k => (gdoneCommand_steady k s).pending)
    (fun k => (gfltCommand_steady k s).pending)
    (fun _ _ _ _ a => coldReset_pending _ a s)
    (fun a b => (surveyReadEnd_store a b s).pending)
    (fun a b => (inventoryReadEnd_store a b s).pending)
    (fun back => (storeAttemptEnds_attempt back s).pending) c

/-! ### O15 -/

/-- A cold reset. -/
def Resets (c : Instr) : Prop := ∃ w x y z stop, c = .coldReset w x y z stop

/-- The end of one of the two reads of start-up. -/
def Reads (c : Instr) : Prop := ∃ a b, c = .surveyReadEnd a b ∨ c = .inventoryReadEnd a b

/-- The end of a write attempt. -/
def Attempts (c : Instr) : Prop := ∃ back, c = .storeAttemptEnd back

/-- A byte received on port p. -/
def ByteOn (c : Instr) (p : PortId) : Prop := ∃ b, c = .linkByteReceived p b

/-- Shaft time, straps, roles, start-up, survey, RUN, the latch, VERIFIED, the masks and the current slots change by
their own commands alone. -/
structure ChangedByItsCommand (c : Instr) (s t : State) : Prop where
  reset : t.time ≠ s.time ∨ t.mdc.strapFault ≠ s.mdc.strapFault ∨ (∃ p, (t.port p).role ≠ (s.port p).role) → Resets c
  startUp : t.startUp ≠ s.startUp → Resets c ∨ Reads c
  working : t.svt.working ≠ s.svt.working → Resets c ∨ Reads c ∨ Attempts c
  edit : t.svt.edit ≠ s.svt.edit →
    Resets c ∨ Reads c ∨ Attempts c ∨ (∃ p, ByteOn c p) ∨ ∃ p i j v, c = .setSurveyItem p i j v
  mode : s.mdc.mode ≠ .run → t.mdc.mode = .run → (∃ p, ByteOn c p) ∨ ∃ p, c = .resume p
  latch : s.mdc.latch = true → t.mdc.latch = false → Resets c ∨ (∃ p, ByteOn c p) ∨ ∃ p, c = .ackStop p
  verified : s.inv.verified = false → t.inv.verified = true →
    Reads c ∨ (∃ p, ByteOn c p) ∨ ∃ p, c = .confirmInventory p
  mask : ∀ p, (t.port p).mask ≠ (s.port p).mask →
    Resets c ∨ ByteOn c p ∨ c = .linkBreak p ∨ ∃ set, c = .setEventMask p set
  current : t.sti.current ≠ s.sti.current → Resets c ∨ Reads c ∨ Attempts c

/-- What a command on a port may change besides the port's own records. -/
structure ByPortCommand (c : Instr) (p : PortId) (s t : State) : Prop extends PortCommandKept p s t where
  edit : t.svt.edit ≠ s.svt.edit → (∃ p, ByteOn c p) ∨ ∃ p i j v, c = .setSurveyItem p i j v
  mode : s.mdc.mode ≠ .run → t.mdc.mode = .run → (∃ p, ByteOn c p) ∨ ∃ p, c = .resume p
  latch : s.mdc.latch = true → t.mdc.latch = false → (∃ p, ByteOn c p) ∨ ∃ p, c = .ackStop p
  verified : s.inv.verified = false → t.inv.verified = true → (∃ p, ByteOn c p) ∨ ∃ p, c = .confirmInventory p
  ownMask : (t.port p).mask ≠ (s.port p).mask → ByteOn c p ∨ c = .linkBreak p ∨ ∃ set, c = .setEventMask p set

theorem ByPortCommand.changed {c : Instr} {p : PortId} {s t : State} (h : ByPortCommand c p s t) :
    ChangedByItsCommand c s t where
  reset hne := by
    obtain htime | hstrap | ⟨q, hrole⟩ := hne
    · exact absurd h.time htime
    · exact absurd h.strapFault hstrap
    · exact absurd (h.role q) hrole
  startUp hne := absurd h.startUp hne
  working hne := absurd h.working hne
  edit hne := .inr (.inr (.inr (h.edit hne)))
  mode := h.mode
  latch hs ht := .inr (h.latch hs ht)
  verified hs ht := .inr (h.verified hs ht)
  mask q hne := by
    by_cases hq : q = p
    · subst hq; exact .inr (h.ownMask hne)
    · exact absurd (h.mask q hq) hne
  current hne := absurd h.current hne

theorem Steady.byPortCommand {s t : State} (h : Steady s t) (c : Instr) (p : PortId) : ByPortCommand c p s t where
  toPortCommandKept := h.toPartKept.portCommand p
  edit hne := absurd h.edit hne
  mode hs ht := absurd (h.mode ht) hs
  latch hs ht := by simp [h.latch hs] at ht
  verified hs ht := by simp [h.verified ht] at hs
  ownMask hne := absurd (h.port p).mask hne

/-- A port may change in anything but its role. -/
theorem setPort_byPortCommand {c : Instr} {p : PortId} {s : State} {x : PortState} (hrole : x.role = (s.port p).role)
    (hmask : x.mask ≠ (s.port p).mask → ByteOn c p ∨ c = .linkBreak p ∨ ∃ set, c = .setEventMask p set) :
    ByPortCommand c p s (s.setPort p x) where
  toPortCommandKept := setPort_portCommand hrole
  edit hne := absurd rfl hne
  mode hs ht := absurd ht hs
  latch hs ht := by simp_all
  verified hs ht := by simp_all
  ownMask hne := by rw [State.port_setPort] at hne; exact hmask hne

/-- Steady operations after a change of a port add nothing to it. -/
theorem ByPortCommand.steady {c : Instr} {p : PortId} {s t u : State} (h : ByPortCommand c p s t) (k : Steady t u) :
    ByPortCommand c p s u where
  toPortCommandKept := h.toPortCommandKept.trans (k.toPartKept.portCommand p)
  edit hne := h.edit (k.edit ▸ hne)
  mode hs hu := h.mode hs (k.mode hu)
  latch hs hu := h.latch hs (by
    by_contra hlatch
    simp [k.latch (by simpa using hlatch)] at hu)
  verified hs hu := h.verified hs (k.verified hu)
  ownMask hne := h.ownMask ((k.port p).mask ▸ hne)

/-- The reply to a taken frame adds nothing to what its block changed. -/
theorem ByPortCommand.addReply {c : Instr} {p : PortId} {s t : State} (h : ByPortCommand c p s t) (x : Reply) :
    ByPortCommand c p s (addReply p x t) where
  toPortCommandKept := h.toPortCommandKept.trans (addReply_portCommand p x t)
  edit := h.edit
  mode := h.mode
  latch := h.latch
  verified := h.verified
  ownMask hne := h.ownMask (by
    have hmask : ((Machine.addReply p x t).port p).mask = (t.port p).mask := by
      unfold Machine.addReply
      rw [State.port_setPort]
    rwa [hmask] at hne)

theorem discardFrame_byPortCommand (c : Instr) (p : PortId) (cause : LinkCause) (s : State) :
    ByPortCommand c p s (discardFrame p cause s) :=
  (setPort_byPortCommand (x := ((s.port p).discard cause).raise .linkError) rfl (fun hne => absurd rfl hne)).steady
    (Steady.refl _).drive

theorem takeFrame_byPortCommand {c : Instr} {p : PortId} {type : Byte} {r : Option Req} {fits : Bool}
    {body : State → Answer} {s : State} (h : ByPortCommand c p s (body s).1) :
    ByPortCommand c p s (takeFrame p type r fits body s) :=
  takeFrame_induct ((Steady.refl s).byPortCommand c p) (discardFrame_byPortCommand c p _ s)
    (fun x _ => ((Steady.refl s).byPortCommand c p).addReply x) (fun x _ _ => h.addReply x)

/-- What a request opens changes by that request alone. -/
theorem Opens.byPortCommand {i : Instr} {s u : State} (h : Opens s i u) {p : PortId} {r : Req} {payload : List Byte}
    (hi : encodeRequest i = some (p, r, payload)) : ByPortCommand i p s u := by
  have hkept := h.portCommand hi
  cases h with
  | nothing => exact (Steady.refl s).byPortCommand i p
  | resume q =>
    exact ⟨hkept, fun hne => absurd rfl hne, fun _ _ => .inr ⟨q, rfl⟩, fun hs ht => by simp_all [setMode],
      fun hs ht => by simp_all [setMode], fun hne => absurd rfl hne⟩
  | ackStop q =>
    exact ⟨hkept, fun hne => absurd rfl hne, fun hs ht => absurd ht hs, fun _ _ => .inr ⟨q, rfl⟩,
      fun hs ht => by simp_all, fun hne => absurd rfl hne⟩
  | confirm q =>
    exact ⟨hkept, fun hne => absurd rfl hne, fun hs ht => absurd ht hs, fun hs ht => by simp_all,
      fun _ _ => .inr ⟨q, rfl⟩, fun hne => absurd rfl hne⟩
  | surveyItem q item index value edit =>
    exact ⟨hkept, fun _ => .inr ⟨q, item, index, value, rfl⟩, fun hs ht => absurd ht hs, fun hs ht => by simp_all,
      fun hs ht => by simp_all, fun hne => absurd rfl hne⟩
  | mask q x hown =>
    cases hi
    exact setPort_byPortCommand rfl (fun _ => .inr (.inr ⟨x, rfl⟩))
  | clear q x =>
    cases hi
    exact setPort_byPortCommand rfl (fun hne => absurd rfl hne)

theorem takeRequest_changed {i : Instr} {p : PortId} {r : Req} {payload : List Byte} (s : State)
    (hi : encodeRequest i = some (p, r, payload)) :
    ChangedByItsCommand i s (takeRequest p r (requestBody i) s) := by
  obtain ⟨u, hopen, hsteady⟩ := requestBody_opened i s
  exact (takeFrame_byPortCommand ((hopen.byPortCommand hi).steady hsteady)).changed

/-- A byte may end any request's frame on its port. -/
theorem receiveByte_changed (p : PortId) (b : Byte) (s : State) :
    ChangedByItsCommand (.linkByteReceived p b) s (receiveByte p b s) :=
  ByPortCommand.changed (p := p)
    { receiveByte_portCommand p b s with
      edit := fun _ => .inl ⟨p, b, rfl⟩
      mode := fun _ _ => .inl ⟨p, b, rfl⟩
      latch := fun _ _ => .inl ⟨p, b, rfl⟩
      verified := fun _ _ => .inl ⟨p, b, rfl⟩
      ownMask := fun _ => .inl ⟨b, rfl⟩ }

/-- A frame of no type of R165 reaches no block. -/
theorem unknownRequest_changed {p : PortId} {type : Byte} {payload : List Byte} (s : State)
    (h : Req.ofType type = none) : ChangedByItsCommand (.unknownRequest p type payload) s (takeBytes p type payload s) := by
  unfold takeBytes
  rw [h]
  exact (takeFrame_byPortCommand ((Steady.refl s).byPortCommand _ p)).changed

theorem Steady.changed {s t : State} (h : Steady s t) (c : Instr) : ChangedByItsCommand c s t :=
  (h.byPortCommand c 0).changed

theorem frameDiscarded_changed (p : PortId) (cause : DiscardCause) (s : State) :
    ChangedByItsCommand (.frameDiscarded p cause) s (frameDiscarded p cause s) := by
  unfold frameDiscarded
  split
  · exact (discardFrame_byPortCommand _ p _ s).changed
  · exact (Steady.refl s).changed _

theorem gapExpires_changed (p : PortId) (s : State) : ChangedByItsCommand (.gapExpiry p) s (gapExpires p s) := by
  unfold gapExpires
  split
  · exact (discardFrame_byPortCommand _ p _ s).changed
  · exact (Steady.refl s).changed _

theorem linkBreak_changed (p : PortId) (s : State) : ChangedByItsCommand (.linkBreak p) s (linkBreak p s) := by
  unfold linkBreak
  split
  · exact (Steady.refl s).changed _
  · exact ((setPort_byPortCommand (x := (s.port p).break) rfl (fun _ => .inr (.inl rfl))).steady
      (Steady.refl _).drive).changed

theorem StoreKept.notReset {s t : State} (h : StoreKept s t) :
    ¬ (t.time ≠ s.time ∨ t.mdc.strapFault ≠ s.mdc.strapFault ∨ ∃ p, (t.port p).role ≠ (s.port p).role) := by
  rintro (htime | hstrap | ⟨q, hrole⟩)
  · exact htime h.time
  · exact hstrap h.strapFault
  · exact hrole (h.port q).role

/-- The end of a read moves start-up, the survey and the inventory state. -/
theorem StoreKept.changed_of_reads {c : Instr} {s t : State} (h : StoreKept s t) (hc : Reads c) :
    ChangedByItsCommand c s t where
  reset hne := absurd hne h.notReset
  startUp _ := .inr hc
  working _ := .inr (.inl hc)
  edit _ := .inr (.inl hc)
  mode hs ht := absurd (h.mode ht) hs
  latch hs ht := by simp [h.latch hs] at ht
  verified _ _ := .inl hc
  mask p hne := absurd (h.port p).mask hne
  current _ := .inr (.inl hc)

/-- The end of a write attempt moves the survey and the current slot. -/
theorem AttemptKept.changed {c : Instr} {s t : State} (h : AttemptKept s t) (hc : Attempts c) :
    ChangedByItsCommand c s t where
  reset hne := absurd hne h.notReset
  startUp hne := absurd h.startUp hne
  working _ := .inr (.inr hc)
  edit _ := .inr (.inr (.inl hc))
  mode hs ht := absurd (h.mode ht) hs
  latch hs ht := by simp [h.latch hs] at ht
  verified hs ht := by simp [h.verified ht] at hs
  mask p hne := absurd (h.port p).mask hne
  current _ := .inr (.inr hc)

/-- The straps and STOP_N decide what a cold reset leaves; the mode is LOCKOUT and the inventory UNVERIFIED in any case. -/
theorem afterStraps_fields (sound : Bool) (roles : List Role) (stop : Bool) (q : List Instr) :
    (afterStraps sound (sampled roles stop q)).mdc.mode = .lockout ∧
      (afterStraps sound (sampled roles stop q)).inv.verified = false := by
  cases sound <;> exact ⟨rfl, rfl⟩

theorem coldReset_changed {c : Instr} (roles : List Role) (stop : Bool) (s : State) (hc : Resets c) :
    ChangedByItsCommand c s (coldReset roles stop s) := by
  obtain ⟨hmode, hverified⟩ := afterStraps_fields (soundRoles roles) roles stop s.pending
  have hdrive : Steady (afterStraps (soundRoles roles) (sampled roles stop s.pending)) (coldReset roles stop s) :=
    (Steady.refl _).drive
  exact {
    reset := fun _ => hc
    startUp := fun _ => .inl hc
    working := fun _ => .inl hc
    edit := fun _ => .inl hc
    mode := fun _ ht => absurd (hmode.symm.trans (hdrive.mode ht)) (by decide)
    latch := fun _ _ => .inl hc
    verified := fun _ ht => absurd (hverified.symm.trans (hdrive.verified ht)) (by decide)
    mask := fun _ _ => .inl hc
    current := fun _ => .inl hc }

/-- Settles O15: by the kind of the command. -/
theorem onlyTheirCommandsChangeClockModeAndSurvey : Obligations.OnlyTheirCommandsChangeClockModeAndSurvey := by
  intro c s t hwf hexec
  obtain ⟨t', hnext, h⟩ := exec_induct (P := fun c t => c.WellFormed → ChangedByItsCommand c s t)
    (fun _ _ _ _ hi _ => takeRequest_changed s hi)
    (fun p type payload hwf => unknownRequest_changed s (by simp [Instr.WellFormed, Instr.wellFormed] at hwf; exact hwf.1))
    (fun p c _ => frameDiscarded_changed p c s)
    (fun p _ => gapExpires_changed p s)
    (fun p _ => linkBreak_changed p s)
    (fun p _ => (setPort_byPortCommand (x := { s.port p with lineLow := false }) rfl (absurd rfl)).changed)
    (fun p _ => (setPort_byPortCommand (x := { s.port p with replies := (s.port p).replies.tail }) rfl (absurd rfl)).changed)
    (fun p b _ => receiveByte_changed p b s)
    (fun f _ => (stalenessExpires_steady f s).changed _)
    (fun f _ => (transferExpires_steady f s).changed _)
    (fun _ => (stopAsserted_steady s).changed _)
    (fun _ => (stopReleased_steady s).changed _)
    (fun k _ => (gdoneCommand_steady k s).changed _)
    (fun k _ => (gfltCommand_steady k s).changed _)
    (fun w x y z a _ => coldReset_changed _ a s ⟨w, x, y, z, a, rfl⟩)
    (fun a b _ => (surveyReadEnd_store a b s).changed_of_reads ⟨a, b, .inl rfl⟩)
    (fun a b _ => (inventoryReadEnd_store a b s).changed_of_reads ⟨a, b, .inr rfl⟩)
    (fun back _ => (storeAttemptEnds_attempt back s).changed ⟨back, rfl⟩) c
  obtain rfl : t' = t := by simpa [hnext] using hexec
  obtain ⟨h1, h2, h3, h4, h5, h6, h7, h8, h9⟩ := h hwf
  exact ⟨h1, h2, h3, h4, h5, h6, h7, h8, h9⟩

end Sys2Proof.Machine
end

section
/-! SUPPORT. O1, O2, O4, O5, O6, O17 to O21: the step, the encoding of requests, and LKU's reception, conditions,
discards and breaks. -/

namespace Sys2Proof.Machine

/-! ### The step (R1, R2) -/

/-- Settles O1: the step takes the front of the queue by its definition. -/
theorem stepTakesTheFrontCommand : Obligations.StepTakesTheFrontCommand := fun _ _ _ => rfl

/-- The expiries that are due are the effects of the commands that stand for them (log 2). -/
theorem exec_dueCommands (s : State) :
    (dueCommands s).map (exec · s) = (dueExpiries s).map fun e => .next (e s) := by
  simp only [dueCommands, dueExpiries, List.map_append, List.map_map]
  rfl

theorem step_of_pending_nil {s : State} (h : s.pending = []) : step s = .next (tick s) := by
  unfold step
  rw [h]

/-- Settles O2: the expiries that the idle step looks at are the due commands, one for one. -/
theorem idleStepTakesAnExpiryOrAMillisecond : Obligations.IdleStepTakesAnExpiryOrAMillisecond := by
  intro s hpending
  have hdue := exec_dueCommands s
  rw [step_of_pending_nil hpending]
  refine ⟨fun c cs hc => ?_, fun hc => ?_⟩
  · rw [hc, List.map_cons] at hdue
    obtain ⟨e, es, he, hexec, -⟩ := List.map_eq_cons_iff.1 hdue.symm
    unfold tick
    rw [he, ← hexec]
  · rw [hc, List.map_nil] at hdue
    unfold tick
    rw [List.map_eq_nil_iff.1 hdue.symm]
    rfl

/-! ### Requests and their payloads (R182) -/

theorem word16_bytes16 (w : BitVec 16) : word16 (w.extractLsb' 0 8) (w.extractLsb' 8 8) = w := by
  unfold word16
  apply BitVec.eq_of_getLsbD_eq
  intro i hi
  simp only [BitVec.getLsbD_append, BitVec.getLsbD_extractLsb']
  by_cases h : i < 8
  · simp [h]
  · simp [h, show i - 8 < 8 by omega, show 8 + (i - 8) = i by omega]

theorem word32_bytes32 (w : BitVec 32) :
    word32 (w.extractLsb' 0 8) (w.extractLsb' 8 8) (w.extractLsb' 16 8) (w.extractLsb' 24 8) = w := by
  unfold word32
  apply BitVec.eq_of_getLsbD_eq
  intro i hi
  simp only [BitVec.getLsbD_append, BitVec.getLsbD_extractLsb']
  by_cases h1 : i < 8
  · simp [h1]
  by_cases h2 : i - 8 < 8
  · simp [h1, h2, show 8 + (i - 8) = i by omega]
  by_cases h3 : i - 8 - 8 < 8
  · simp [h1, h2, h3, show 16 + (i - 8 - 8) = i by omega]
  · simp [h1, h2, h3, show i - 8 - 8 - 8 < 8 by omega, show 24 + (i - 8 - 8 - 8) = i by omega]

theorem decodeRequest_encodeRequest {i : Instr} {p : PortId} {r : Req} {payload : List Byte} (hwf : i.WellFormed)
    (hi : encodeRequest i = some (p, r, payload)) : decodeRequest p r payload = some i := by
  cases i with
  | setTuning q present vlU legU vlL legL len entries =>
    obtain ⟨e0, e1, e2, e3, e4, e5, e6, e7, rfl⟩ : ∃ e0 e1 e2 e3 e4 e5 e6 e7, entries = [e0, e1, e2, e3, e4, e5, e6, e7] := by
      have hlen : entries.length = 8 := of_decide_eq_true hwf
      match entries, hlen with
      | [e0, e1, e2, e3, e4, e5, e6, e7], _ => exact ⟨e0, e1, e2, e3, e4, e5, e6, e7, rfl⟩
    cases hi
    change some (Instr.setTuning _ _ (word16 _ _) _ (word16 _ _) _ _ _) = _
    rw [word16_bytes16, word16_bytes16]
  | position q e v m flags =>
    cases hi
    change some (Instr.position _ (word32 _ _ _ _) (word16 _ _) (word32 _ _ _ _) _) = _
    rw [word32_bytes32, word16_bytes16, word32_bytes32]
  | requestTravel q target =>
    cases hi
    exact congrArg (fun w => some (Instr.requestTravel p w)) (word32_bytes32 target)
  | submitTask q tag mass bay frame =>
    cases hi
    exact congrArg (fun w => some (Instr.submitTask p w mass bay frame)) (word16_bytes16 tag)
  | setSurveyItem q item index value =>
    cases hi
    exact congrArg (fun w => some (Instr.setSurveyItem p item index w)) (word32_bytes32 value)
  | declareMass q id nominal kind a b =>
    cases hi
    exact congrArg (fun w => some (Instr.declareMass p id w kind a b)) (word16_bytes16 nominal)
  | clearEvents q flags =>
    cases hi
    exact congrArg (fun w => some (Instr.clearEvents p w)) (word16_bytes16 flags)
  | setEventMask q enables =>
    cases hi
    exact congrArg (fun w => some (Instr.setEventMask p w)) (word16_bytes16 enables)
  | _ => cases hi <;> rfl

/-- Settles O4: a payload decodes to its command, and what decodes has the length of its type. -/
theorem requestsReadBackFromTheirPayloads : Obligations.RequestsReadBackFromTheirPayloads := by
  intro i p r payload hwf hi
  have hdecode := decodeRequest_encodeRequest hwf hi
  exact ⟨hdecode, (encodeRequest_of_decodeRequest hdecode).2⟩

/-- Settles O6: by evaluation. -/
theorem payloadsFromTheLayoutsReadRight : Obligations.PayloadsFromTheLayoutsReadRight := by
  unfold Obligations.PayloadsFromTheLayoutsReadRight
  decide

theorem payloadLength_le (r : Req) : r.payloadLength ≤ 16 := by
  cases r <;> decide

theorem Req.ofType_typeByte (r : Req) : Req.ofType r.typeByte = some r := by
  cases r <;> rfl

theorem Req.ofType_of_not_mem {type : Byte} (h : type ∉ Req.list.map Req.typeByte) : Req.ofType type = none := by
  unfold Req.ofType
  rw [List.find?_eq_none]
  intro r hr heq
  exact h (List.mem_map.2 ⟨r, hr, by simpa using heq⟩)

/-! ### The bytes of a frame (R161, R162) -/

/-- Port p in a receive state, with commands that wait. -/
def receiving (p : PortId) (x : Rx) (q : List Instr) (s : State) : State :=
  (setRx p x s).withPending q

theorem receiving_port (p : PortId) (x : Rx) (q : List Instr) (s : State) :
    (receiving p x q s).port p = { s.port p with rx := x } := by
  have h := setRx_port p x s p
  rw [if_pos rfl] at h
  exact h

theorem setRx_receiving (p : PortId) (x y : Rx) (q : List Instr) (s : State) :
    setRx p y (receiving p x q s) = receiving p y q s := by
  unfold setRx
  rw [receiving_port]
  unfold receiving setRx State.withPending State.setPort
  simp

theorem receiving_hunt {p : PortId} {s : State} (h : (s.port p).rx = .hunt) (q : List Instr) :
    receiving p .hunt q s = s.withPending q := by
  unfold receiving setRx
  rw [← h]
  exact congrArg (·.withPending q) (State.setPort_port s p)

theorem run_succ {M : Host.Core} {s t : M.State} (n : Nat) (h : M.step s = .next t) : M.run (n + 1) s = M.run n t := by
  simp only [Host.Core.run, h]

/-- One byte of a frame: the step takes it by the table of R161. -/
theorem run_byte {p : PortId} {s : State} (hline : (s.port p).lineLow = false) (b : Byte) (x : Rx) (q : List Instr)
    (n : Nat) :
    Host.Core.run core (n + 1) (receiving p x (.linkByteReceived p b :: q) s) =
      Host.Core.run core n (takeByte p b (receiving p x q s)) := by
  have hlow : ((receiving p x q s).port p).lineLow = false := by rw [receiving_port]; exact hline
  refine run_succ (M := core) n ?_
  change Host.Outcome.next (receiveByte p b (receiving p x q s)) = _
  exact congrArg Host.Outcome.next (if_neg (by rw [hlow]; exact Bool.false_ne_true))

/-- A byte that only moves the receive state. -/
theorem run_move {p : PortId} {s : State} (hline : (s.port p).lineLow = false) {b : Byte} {x y : Rx} {q : List Instr}
    (n : Nat) (h : takeByte p b (receiving p x q s) = setRx p y (receiving p x q s)) :
    Host.Core.run core (n + 1) (receiving p x (.linkByteReceived p b :: q) s) =
      Host.Core.run core n (receiving p y q s) := by
  rw [run_byte hline, h, setRx_receiving]

theorem takeByte_sync (p : PortId) (q : List Instr) (s : State) :
    takeByte p 0xC3 (receiving p .hunt q s) = setRx p (.type s.time) (receiving p .hunt q s) := by
  unfold takeByte
  rw [receiving_port]
  rfl

theorem takeByte_type (p : PortId) (b : Byte) (last : BitVec 32) (q : List Instr) (s : State) :
    takeByte p b (receiving p (.type last) q s) = setRx p (.length b s.time) (receiving p (.type last) q s) := by
  unfold takeByte
  rw [receiving_port]
  rfl

theorem takeByte_length (p : PortId) (type : Byte) {b : Byte} (hb : b.toNat ≤ 60) (last : BitVec 32) (q : List Instr)
    (s : State) : takeByte p b (receiving p (.length type last) q s) =
      setRx p (lengthTaken type b s.time) (receiving p (.length type last) q s) := by
  unfold takeByte
  rw [receiving_port]
  exact if_neg (by simpa [Config.maxPayload] using hb)

theorem takeByte_payload (p : PortId) (type b : Byte) (got : List Byte) (left : Nat) (last : BitVec 32) (q : List Instr)
    (s : State) : takeByte p b (receiving p (.payload type got left last) q s) =
      setRx p (payloadTaken type b got left s.time) (receiving p (.payload type got left last) q s) := by
  unfold takeByte
  rw [receiving_port]
  rfl

theorem takeByte_firstCheck (p : PortId) (type b : Byte) (payload : List Byte) (last : BitVec 32) (q : List Instr)
    (s : State) : takeByte p b (receiving p (.check type payload none last) q s) =
      setRx p (.check type payload (some b) s.time) (receiving p (.check type payload none last) q s) := by
  unfold takeByte
  rw [receiving_port]
  rfl

theorem takeByte_secondCheck (p : PortId) (type c0 c1 : Byte) (payload : List Byte) (last : BitVec 32) (q : List Instr)
    (s : State) : takeByte p c1 (receiving p (.check type payload (some c0) last) q s) =
      checkFrame p type payload c0 c1 (receiving p (.check type payload (some c0) last) q s) := by
  unfold takeByte
  rw [receiving_port]

/-- The bytes of a payload, up to the CRC. -/
theorem run_payload {p : PortId} {s : State} (hline : (s.port p).lineLow = false) (type : Byte) (q : List Instr)
    (n : Nat) (rest : List Byte) : ∀ got b, Host.Core.run core (rest.length + 1 + n)
        (receiving p (.payload type got (rest.length + 1) s.time) ((b :: rest).map (.linkByteReceived p) ++ q) s) =
      Host.Core.run core n (receiving p (.check type (got ++ b :: rest) none s.time) q s) := by
  induction rest with
  | nil =>
    intro got b
    rw [List.length_nil, Nat.zero_add, Nat.add_comm 1 n]
    exact run_move hline n (takeByte_payload p type b got 1 s.time q s)
  | cons c rest ih =>
    intro got b
    have hmove := takeByte_payload p type b got (rest.length + 2) s.time ((c :: rest).map (.linkByteReceived p) ++ q) s
    rw [payloadTaken, if_neg (by omega)] at hmove
    rw [show (c :: rest).length + 1 + n = (rest.length + 1 + n) + 1 by rw [List.length_cons]; omega]
    refine (run_move hline _ hmove).trans ?_
    rw [show rest.length + 2 - 1 = rest.length + 1 by omega, ih (got ++ [b]) c, List.append_assoc]
    rfl

/-- The bytes of a frame up to its CRC. -/
theorem run_frame_head {p : PortId} {s : State} (hline : (s.port p).lineLow = false) (type : Byte)
    {payload : List Byte} (hlen : payload.length ≤ 60) (q : List Instr) (n : Nat) :
    Host.Core.run core (payload.length + n + 3) (receiving p .hunt
        (([0xC3, type, BitVec.ofNat 8 payload.length] ++ payload).map (.linkByteReceived p) ++ q) s) =
      Host.Core.run core n (receiving p (.check type payload none s.time) q s) := by
  have hbyte : (BitVec.ofNat 8 payload.length).toNat = payload.length := by
    rw [BitVec.toNat_ofNat]
    omega
  refine (run_move hline _ (takeByte_sync p _ s)).trans ?_
  refine (run_move hline _ (takeByte_type p type _ _ s)).trans ?_
  refine (run_move hline _ (takeByte_length p type (by rw [hbyte]; exact hlen) _ _ s)).trans ?_
  cases payload with
  | nil =>
    rw [List.length_nil, Nat.zero_add]
    rfl
  | cons b rest =>
    have hne : BitVec.ofNat 8 (b :: rest).length ≠ 0 := by
      intro h
      rw [h] at hbyte
      simp at hbyte
    rw [lengthTaken, if_neg hne, hbyte]
    exact run_payload hline type q n rest [] b

/-- The bytes of a whole frame on a port that hunts: the frame is taken (R161, R162). -/
theorem run_frame {p : PortId} {s : State} (hline : (s.port p).lineLow = false) (hhunt : (s.port p).rx = .hunt)
    (type : Byte) {payload : List Byte} (hlen : payload.length ≤ 60) :
    Host.Core.run core (linkFrame type payload).length
        (s.withPending ((linkFrame type payload).map (.linkByteReceived p))) =
      .next (takeBytes p type payload (s.withPending [])) := by
  have hlength : (linkFrame type payload).length = payload.length + 2 + 3 := by simp [linkFrame, bytes16]
  have hmap : (linkFrame type payload).map (Instr.linkByteReceived p) =
      ([0xC3, type, BitVec.ofNat 8 payload.length] ++ payload).map (.linkByteReceived p) ++
        [.linkByteReceived p ((frameCrc type payload).extractLsb' 0 8),
          .linkByteReceived p ((frameCrc type payload).extractLsb' 8 8)] := by
    simp [linkFrame, bytes16]
  rw [hlength, hmap, ← receiving_hunt hhunt, run_frame_head hline type hlen,
    run_move hline _ (takeByte_firstCheck p type _ payload _ _ s), run_byte hline, takeByte_secondCheck, checkFrame,
    if_pos (word16_bytes16 _), setRx_receiving, receiving_hunt hhunt]
  rfl

/-- No byte is taken while the line is held low (R164). -/
theorem run_bytes_low {p : PortId} {s : State} (hline : (s.port p).lineLow = true) (bs : List Byte) :
    Host.Core.run core bs.length (s.withPending (bs.map (.linkByteReceived p))) = .next (s.withPending []) := by
  induction bs with
  | nil => rfl
  | cons b bs ih =>
    refine (run_succ (M := core) (t := s.withPending (bs.map (.linkByteReceived p))) bs.length ?_).trans ih
    exact congrArg Host.Outcome.next (if_pos hline)

/-- A frame whose payload spells a request is that request taken (R182). -/
theorem takeBytes_of_decodeRequest {p : PortId} {r : Req} {payload : List Byte} {i : Instr} (s : State)
    (h : decodeRequest p r payload = some i) :
    takeBytes p r.typeByte payload s = takeRequest p r (requestBody i) s := by
  unfold takeBytes
  rw [Req.ofType_typeByte]
  dsimp only
  rw [h]
  rfl

/-- No request is received while the line is held low (R164). -/
theorem exec_line_low {i : Instr} {p : PortId} {r : Req} {payload : List Byte} {s : State}
    (hi : encodeRequest i = some (p, r, payload)) (hline : (s.port p).lineLow = true) : exec i s = .next s := by
  rw [exec_of_encodeRequest s hi, takeRequest, takeFrame, if_pos hline]

/-- Settles O5: the bytes bring the port through the receive states to the taking of the request's frame; with the line
low neither has an effect. -/
theorem bytesOfAFrameActAsTheRequest : Obligations.BytesOfAFrameActAsTheRequest := by
  intro i p r payload s hwf hi hhunt
  have hdecode := decodeRequest_encodeRequest hwf hi
  by_cases hline : (s.port p).lineLow = true
  · exact (run_bytes_low hline _).trans (exec_line_low hi (s := s.withPending []) hline).symm
  · have hlen : payload.length ≤ 60 := by
      have hreq := (encodeRequest_of_decodeRequest hdecode).2
      have hle := payloadLength_le r
      omega
    have htaken := congrArg (Host.Outcome.next (φ := Fault) (ρ := Refusal))
      (takeBytes_of_decodeRequest (s.withPending []) hdecode)
    exact (run_frame (by simpa using hline) hhunt r.typeByte hlen).trans
      (htaken.trans (exec_of_encodeRequest _ hi).symm)

/-! ### The conditions of R166 -/

/-- A taken frame that meets a condition of R166 is answered with its status and changes nothing else. -/
theorem takeFrame_refused {p : PortId} {type : Byte} {r : Option Req} {fits : Bool} {s : State} {st : Status}
    (body : State → Answer) (hline : (s.port p).lineLow = false) (hroom : (s.port p).replies.length < 4)
    (h : gate s p r fits = some st) : takeFrame p type r fits body s = repliedTo p type [st.code] s := by
  unfold takeFrame
  rw [hline, if_neg Bool.false_ne_true, if_neg (by simpa [repliesFull, Config.replyListCapacity] using hroom), h]
  rfl

theorem gate_of_strapFault {s : State} {p : PortId} (r : Option Req) (fits : Bool) (h : s.mdc.strapFault = true) :
    gate s p r fits = some .strapFault := by
  simp [gate, partGate, refusedIf, h]

theorem gate_of_starting {s : State} {p : PortId} (r : Option Req) (fits : Bool) (hstrap : s.mdc.strapFault = false)
    (h : s.startUp ≠ .ended) : gate s p r fits = some .starting := by
  simp [gate, partGate, refusedIf, hstrap, h]

/-- Past start-up the conditions look at the request alone. -/
theorem gate_of_started {s : State} {p : PortId} (r : Option Req) (fits : Bool) (hstrap : s.mdc.strapFault = false)
    (hstart : s.startUp = .ended) : gate s p r fits =
      match r with
      | none => some .unknownRequest
      | some r => requestGate s p r fits := by
  cases r <;> simp [gate, partGate, refusedIf, hstrap, hstart]

theorem requestGate_of_role {s : State} {p : PortId} {r : Req} (fits : Bool)
    (h : mayBeSent r (s.port p).role = false) : requestGate s p r fits = some .role := by
  simp [requestGate, refusedIf, h]

theorem requestGate_of_length {s : State} {p : PortId} {r : Req} (h : mayBeSent r (s.port p).role = true) :
    requestGate s p r false = some .range := by
  simp [requestGate, refusedIf, h]

theorem requestGate_of_unconfigured {s : State} {p : PortId} {r : Req} (h : mayBeSent r (s.port p).role = true)
    (hsurvey : s.svt.state = .unconfigured) (hreq : r.admittedUnconfigured = false) :
    requestGate s p r true = some .invalid := by
  simp [requestGate, refusedIf, h, hsurvey, hreq]

theorem decodeRequest_of_length {p : PortId} {r : Req} {payload : List Byte}
    (h : payload.length ≠ r.payloadLength) : decodeRequest p r payload = none :=
  Option.eq_none_iff_forall_ne_some.2 fun _ hi => h (encodeRequest_of_decodeRequest hi).2

/-- The second CRC byte of a matching frame: the port hunts, and the frame is taken. -/
theorem receiveByte_last {p : PortId} {type : Byte} {payload : List Byte} {c0 c1 : Byte} {last : BitVec 32} {s : State}
    (hline : (s.port p).lineLow = false) (hrx : (s.port p).rx = .check type payload (some c0) last)
    (hcrc : c1 ++ c0 = frameCrc type payload) :
    receiveByte p c1 s = takeBytes p type payload (setRx p .hunt s) := by
  unfold receiveByte takeByte
  rw [hline, if_neg Bool.false_ne_true, hrx]
  exact if_pos hcrc

theorem repliedTo_setRx (p : PortId) (x : Rx) (type : Byte) (payload : List Byte) (s : State) :
    repliedTo p type payload (setRx p x s) = repliedTo p type payload s := by
  unfold repliedTo setRx
  simp

/-- Settles O17: each condition is the first that the gate finds. -/
theorem conditionsOfR166AnswerBeforeTheBlock : Obligations.ConditionsOfR166AnswerBeforeTheBlock := by
  intro p s hline hroom
  refine ⟨fun i r payload hi => ?request, fun type payload htype => ?unknown,
    fun r payload c0 c1 last hrx hcrc hlen hstrap hstart => ?length⟩
  case request =>
    rw [exec_of_encodeRequest s hi]
    have hrefused {st : Status} (h : gate s p (some r) true = some st) :
        Host.Outcome.next (takeRequest p r (requestBody i) s) =
          (.next (replied p r [st.code] s) : Host.Outcome State Fault Refusal) :=
      congrArg _ (takeFrame_refused _ hline hroom h)
    refine ⟨fun hstrap => hrefused (gate_of_strapFault _ _ hstrap),
      fun hstrap hstart => hrefused (gate_of_starting _ _ hstrap hstart), fun hstrap hstart hrole => ?_,
      fun hstrap hstart hrole hsurvey hreq => ?_⟩
    · exact hrefused ((gate_of_started _ _ hstrap hstart).trans (requestGate_of_role _ hrole))
    · exact hrefused ((gate_of_started _ _ hstrap hstart).trans (requestGate_of_unconfigured hrole hsurvey hreq))
  case unknown =>
    have hrefused {st : Status} (h : gate s p none true = some st) :
        exec (.unknownRequest p type payload) s = .next (repliedTo p type [st.code] s) := by
      change Host.Outcome.next (takeBytes p type payload s) = _
      unfold takeBytes
      rw [Req.ofType_of_not_mem htype]
      exact congrArg _ (takeFrame_refused _ hline hroom h)
    exact ⟨fun hstrap => hrefused (gate_of_strapFault _ _ hstrap),
      fun hstrap hstart => hrefused (gate_of_starting _ _ hstrap hstart),
      fun hstrap hstart => hrefused (gate_of_started _ _ hstrap hstart)⟩
  case length =>
    have hport : (setRx p .hunt s).port p = { s.port p with rx := .hunt } := by
      rw [setRx_port, if_pos rfl]
    have hgate : gate (setRx p .hunt s) p (some r) false =
        some (if mayBeSent r (s.port p).role then .range else .role) := by
      refine (gate_of_started (s := setRx p .hunt s) _ _ hstrap hstart).trans ?_
      by_cases hrole : mayBeSent r (s.port p).role = true
      · rw [if_pos hrole]
        exact requestGate_of_length (by rw [hport]; exact hrole)
      · rw [if_neg hrole]
        exact requestGate_of_role _ (by rw [hport]; simpa using hrole)
    change Host.Outcome.next (receiveByte p c1 s) = _
    rw [receiveByte_last hline hrx hcrc]
    unfold takeBytes
    rw [Req.ofType_typeByte]
    dsimp only
    rw [decodeRequest_of_length hlen]
    dsimp only
    rw [takeFrame_refused _ (by rw [hport]; exact hline) (by rw [hport]; exact hroom) hgate, repliedTo_setRx]
    unfold replied
    split <;> rfl

/-- Settles O18: a full list is looked at before the conditions of R166, the line before it. -/
theorem aFullReplyListDiscardsTheRequest : Obligations.AFullReplyListDiscardsTheRequest := by
  intro i p r payload s hi
  refine ⟨exec_line_low hi, fun hline hfull => ?_⟩
  rw [exec_of_encodeRequest s hi, takeRequest, takeFrame, hline, if_neg Bool.false_ne_true,
    if_pos (by simpa [repliesFull, Config.replyListCapacity] using hfull)]
  rfl

/-! ### Discards, breaks and bytes (R161, R163, R164) -/

theorem frameDiscarded_eq {s : State} {p : PortId} {c : DiscardCause} (h : discardHappens s p c = true) :
    frameDiscarded p c s = discardFrame p (discardCause c) s := if_pos h

/-- The gap limit of 5 ms has passed within half the range of the clock (R163; log 35). -/
theorem gapDue_iff {s : State} {p : PortId} {last : BitVec 32} (h : (s.port p).rx.lastByte = some last) :
    gapDue s p = true ↔ 5 < (s.time - last).toNat ∧ (s.time - last).toNat < 2147483648 + 6 := by
  have hdue : gapDue s p = decide ((s.time - (last + 6#32)).toNat < 2147483648) := by
    unfold gapDue
    rw [h]
    rfl
  rw [hdue, decide_eq_true_iff]
  constructor
  · intro hlt
    constructor <;> bv_omega
  · rintro ⟨hgap, hhalf⟩
    bv_omega

/-- Settles O19: each discard is the same operation on its port, under its own condition. -/
theorem discardsAreCountedOnTheirPort : Obligations.DiscardsAreCountedOnTheirPort := by
  intro p s after
  refine ⟨fun hline => ⟨?_, ?_⟩, fun hline hfull => ?_, fun last hlast hgap hhalf => ?_, fun last hlast hgap => ?_,
    fun hhunt => ?_⟩
  · exact congrArg Host.Outcome.next (frameDiscarded_eq (c := .length) (by simp [discardHappens, hline]))
  · exact congrArg Host.Outcome.next (frameDiscarded_eq (c := .crc) (by simp [discardHappens, hline]))
  · exact congrArg Host.Outcome.next
      (frameDiscarded_eq (c := .overflow) (by simp [discardHappens, hline, repliesFull, hfull, Config.replyListCapacity]))
  · exact congrArg Host.Outcome.next (if_pos ((gapDue_iff hlast).2 ⟨hgap, by omega⟩))
  · exact congrArg Host.Outcome.next (if_neg fun hdue => by have := ((gapDue_iff hlast).1 hdue).1; omega)
  · exact congrArg Host.Outcome.next (if_neg (by simp [gapDue, hhunt, Rx.lastByte, timerDue]))

theorem receiveByte_low {p : PortId} {s : State} (h : (s.port p).lineLow = true) (b : Byte) :
    receiveByte p b s = s := if_pos h

/-- Settles O20: by the two conditions of the line, and the front of the list dropped. -/
theorem aLinkBreakClearsItsPortAndSentRepliesLeave : Obligations.ALinkBreakClearsItsPortAndSentRepliesLeave := by
  intro p s
  refine ⟨fun hline => ⟨_, rfl, ?_, ?_, ?_⟩, fun hline => ⟨?_, fun b => ?_⟩, rfl, ?_⟩
  · unfold linkBreak
    rw [hline, if_neg Bool.false_ne_true]
    rfl
  · unfold linkBreak
    rw [hline, if_neg Bool.false_ne_true, State.port_drive, State.port_setPort]
    simp [attnLine, PortState.break]
  · unfold linkBreak
    rw [hline, if_neg Bool.false_ne_true, State.port_drive, State.port_setPort]
    rfl
  · exact congrArg Host.Outcome.next (if_pos hline)
  · exact congrArg Host.Outcome.next (receiveByte_low hline b)
  · change Host.Outcome.next (replySent p s) = _
    unfold replySent
    rw [List.drop_one]

/-- A byte taken with the line high goes by the receive state (R161). -/
theorem exec_byte {p : PortId} {s : State} (hline : (s.port p).lineLow = false) (b : Byte) :
    exec (.linkByteReceived p b) s = .next (takeByte p b s) := by
  change Host.Outcome.next (receiveByte p b s) = _
  unfold receiveByte
  rw [hline, if_neg Bool.false_ne_true]

/-- A frame discarded with a cause that does not ask for a full list, with the line high (R163). -/
theorem exec_frameDiscarded {p : PortId} {s : State} {c : DiscardCause} (hline : (s.port p).lineLow = false)
    (hc : c ≠ .overflow) : exec (.frameDiscarded p c) s = .next (discardFrame p (discardCause c) s) :=
  congrArg Host.Outcome.next (frameDiscarded_eq (by simp [discardHappens, hline, hc]))

/-- Settles O21: each clause is one row of the receive state's table. -/
theorem bytesMoveTheReceiveState : Obligations.BytesMoveTheReceiveState := by
  intro p b s hline rx
  rw [exec_byte hline, exec_frameDiscarded hline (by decide : DiscardCause.length ≠ .overflow),
    exec_frameDiscarded hline (by decide : DiscardCause.crc ≠ .overflow)]
  unfold takeByte
  refine ⟨fun h hb => ?_, fun h hb => ?_, fun l h => ?_, fun ty l h hb => ?_, fun ty l h hpos hle => ?_,
    fun ty l h hlong => ?_, fun ty got n l h hn => ?_, fun ty got l h => ?_, fun ty pl l h => ?_,
    fun ty pl c l h hcrc => ?_⟩ <;> rw [h] <;> dsimp only
  · exact congrArg _ (if_neg hb)
  · exact congrArg _ (if_pos hb)
  · rfl
  · subst hb; rfl
  · rw [if_neg (by simpa [Config.maxPayload] using hle), lengthTaken, if_neg (fun h0 => by simp [h0] at hpos)]
    rfl
  · rw [if_pos (by simpa [Config.maxPayload] using hlong)]; rfl
  · rw [payloadTaken, if_neg (by omega)]; rfl
  · rfl
  · rfl
  · exact congrArg _ (if_neg hcrc)

end Sys2Proof.Machine
end

section
/-! SUPPORT. O12, O16: the step's cases, the bounds of the ports, and the state right after reset. -/

namespace Sys2Proof.Machine

/-! ### The step's cases -/

/-- What every command and the passing of a millisecond keep, the step keeps. -/
theorem step_keeps {I : State → Prop} (hpending : ∀ s q, I s → I (s.withPending q))
    (hcommand : ∀ c s t, I s → exec c s = .next t → I t) (htime : ∀ s, I s → I (advanceTime s)) {s t : State}
    (hs : I s) (hstep : step s = .next t) : I t := by
  unfold step at hstep
  split at hstep
  · next c rest _ => exact hcommand c _ t (hpending s rest hs) hstep
  · cases hstep
    unfold tick
    split
    · next e es hdue =>
      have hmap := exec_dueCommands s
      rw [hdue, List.map_cons] at hmap
      obtain ⟨c, cs, -, hexec, -⟩ := List.map_eq_cons_iff.1 hmap
      exact hcommand c s (e s) hs hexec
    · exact htime s hs

/-! ### The bounds of a port (R163, R168, R169, R170) -/

/-- A port within its bounds. -/
structure PortState.Bounded (x : PortState) : Prop where
  replies : x.replies.length ≤ 4
  errorCount : x.errorCount ≤ 255
  flags : x.flags &&& ~~~(roleFlags x.role) = 0
  mask : x.mask &&& ~~~(roleFlags x.role) = 0

theorem portsBounded_iff (s : State) : PortsBounded s ↔ ∀ p, (s.port p).Bounded :=
  forall_congr' fun _ => ⟨fun ⟨h1, h2, h3, h4⟩ => ⟨h1, h2, h3, h4⟩, fun ⟨h1, h2, h3, h4⟩ => ⟨h1, h2, h3, h4⟩⟩

theorem or_own {a b m : BitVec 16} (ha : a &&& ~~~m = 0) (hb : b &&& ~~~m = 0) : (a ||| b) &&& ~~~m = 0 := by
  have hdistrib : (a ||| b) &&& ~~~m = (a &&& ~~~m) ||| (b &&& ~~~m) := by ext i; simp [Bool.and_or_distrib_right]
  rw [hdistrib, ha, hb]
  decide

theorem and_own {a m : BitVec 16} (ha : a &&& ~~~m = 0) (b : BitVec 16) : (a &&& b) &&& ~~~m = 0 := by
  have hcomm : (a &&& b) &&& ~~~m = (a &&& ~~~m) &&& b := by
    rw [BitVec.and_assoc, BitVec.and_comm b, BitVec.and_assoc]
  rw [hcomm, ha]
  simp

theorem PortState.RaisedTo.bounded {x y : PortState} (h : x.RaisedTo y) (hx : x.Bounded) : y.Bounded := by
  obtain ⟨e, a, he, rfl⟩ := h
  exact ⟨hx.replies, hx.errorCount, or_own hx.flags he, hx.mask⟩

theorem linkError_own (r : Role) : Event.linkError.bit &&& ~~~(roleFlags r) = 0 := by
  cases r <;> decide

theorem discard_bounded {x : PortState} (h : x.Bounded) (c : LinkCause) :
    ((x.discard c).raise .linkError).Bounded :=
  ⟨h.replies, by simp [PortState.raise, PortState.discard], or_own h.flags (linkError_own x.role), h.mask⟩

theorem break_bounded {x : PortState} (h : x.Bounded) : x.break.Bounded :=
  ⟨h.replies, by simp [PortState.break], by simp [PortState.break], by simp [PortState.break]⟩

theorem PortsBounded.raised {s t : State} (hs : PortsBounded s) (h : ∀ p, (s.port p).RaisedTo (t.port p)) :
    PortsBounded t :=
  (portsBounded_iff t).2 fun p => (h p).bounded ((portsBounded_iff s).1 hs p)

theorem PortsBounded.steady {s t : State} (hs : PortsBounded s) (h : Steady s t) : PortsBounded t := hs.raised h.port

theorem PortsBounded.setPort {s : State} (hs : PortsBounded s) {p : PortId} {x : PortState} (hx : x.Bounded) :
    PortsBounded (s.setPort p x) := by
  rw [portsBounded_iff] at hs ⊢
  intro q
  by_cases hq : q = p
  · subst hq; rwa [State.port_setPort]
  · rw [State.port_setPort_ne _ _ _ _ hq]; exact hs q

theorem PortsBounded.discardFrame {s : State} (hs : PortsBounded s) (p : PortId) (c : LinkCause) :
    PortsBounded (discardFrame p c s) :=
  (hs.setPort (discard_bounded ((portsBounded_iff s).1 hs p) c)).steady (Steady.refl _).drive

theorem PortsBounded.addReply {s : State} (hs : PortsBounded s) {p : PortId} (h : (s.port p).replies.length < 4)
    (x : Reply) : PortsBounded (addReply p x s) := by
  obtain ⟨-, hcount, hflags, hmask⟩ := (portsBounded_iff s).1 hs p
  refine hs.setPort ⟨?_, hcount, hflags, hmask⟩
  rw [List.length_append]
  exact h

theorem PortsBounded.setRx {s : State} (hs : PortsBounded s) (p : PortId) (x : Rx) : PortsBounded (setRx p x s) := by
  obtain ⟨hreplies, hcount, hflags, hmask⟩ := (portsBounded_iff s).1 hs p
  exact hs.setPort ⟨hreplies, hcount, hflags, hmask⟩

/-- What a request opens keeps the bounds and the reply lists. -/
theorem Opens.bounded {i : Instr} {s u : State} (h : Opens s i u) (hs : PortsBounded s) :
    PortsBounded u ∧ ∀ p, (u.port p).replies = (s.port p).replies := by
  have hport (p : PortId) (x : PortState) (hx : x.replies = (s.port p).replies) (q : PortId) :
      ((s.setPort p x).port q).replies = (s.port q).replies := by
    by_cases hq : q = p
    · subst hq; rwa [State.port_setPort]
    · rw [State.port_setPort_ne _ _ _ _ hq]
  cases h with
  | nothing | resume | ackStop | confirm | surveyItem => exact ⟨hs, fun _ => rfl⟩
  | mask p x hown =>
    obtain ⟨hreplies, hcount, hflags, -⟩ := (portsBounded_iff s).1 hs p
    exact ⟨hs.setPort ⟨hreplies, hcount, hflags, hown⟩, hport p _ rfl⟩
  | clear p x =>
    obtain ⟨hreplies, hcount, hflags, hmask⟩ := (portsBounded_iff s).1 hs p
    exact ⟨hs.setPort ⟨hreplies, hcount, and_own hflags _, hmask⟩, hport p _ rfl⟩

theorem requestBody_bounded {s : State} (hs : PortsBounded s) (i : Instr) :
    PortsBounded (requestBody i s).1 ∧ ∀ p, ((requestBody i s).1.port p).replies = (s.port p).replies := by
  obtain ⟨u, hopen, hsteady⟩ := requestBody_opened i s
  obtain ⟨hu, hreplies⟩ := hopen.bounded hs
  exact ⟨hu.steady hsteady, fun p => ((hsteady.port p).replies).trans (hreplies p)⟩

theorem takeFrame_bounded {p : PortId} {type : Byte} {r : Option Req} {fits : Bool} {body : State → Answer} {s : State}
    (hs : PortsBounded s)
    (h : PortsBounded (body s).1 ∧ ∀ p, ((body s).1.port p).replies = (s.port p).replies) :
    PortsBounded (takeFrame p type r fits body s) :=
  takeFrame_induct hs (hs.discardFrame p _) (fun x hroom => hs.addReply hroom x)
    (fun x hroom _ => h.1.addReply (by rw [h.2 p]; exact hroom) x)

theorem takeBytes_bounded {s : State} (hs : PortsBounded s) (p : PortId) (type : Byte) (payload : List Byte) :
    PortsBounded (takeBytes p type payload s) := by
  unfold takeBytes
  split
  · exact takeFrame_bounded hs ⟨hs, fun _ => rfl⟩
  · split
    · exact takeFrame_bounded hs (requestBody_bounded hs _)
    · exact takeFrame_bounded hs ⟨hs, fun _ => rfl⟩

theorem initial_bounded (r : Role) : (PortState.initial r).Bounded := by
  cases r <;> exact ⟨by decide, by decide, by decide, by decide⟩

theorem afterStraps_ports (sound : Bool) (roles : List Role) (stop : Bool) (q : List Instr) (p : PortId) :
    (afterStraps sound (sampled roles stop q)).port p = PortState.initial (roles.getD p.val .monitor) := by
  have hports : (afterStraps sound (sampled roles stop q)).ports =
      Bank.ofFn 4 (fun i => PortState.initial (roles.getD i .monitor)) := by
    cases sound <;> rfl
  unfold State.port
  rw [hports, Bank.getD_ofFn, if_pos p.isLt]

theorem coldReset_bounded (roles : List Role) (stop : Bool) (s : State) : PortsBounded (coldReset roles stop s) := by
  refine PortsBounded.steady ((portsBounded_iff _).2 fun p => ?_) (Steady.refl _).drive
  rw [afterStraps_ports]
  exact initial_bounded _

theorem exec_bounded (c : Instr) {s t : State} (hs : PortsBounded s) (h : exec c s = .next t) : PortsBounded t := by
  obtain ⟨t', hnext, ht⟩ := exec_induct (P := fun _ t => PortsBounded t) (s := s)
    (fun i _ _ _ _ => takeFrame_bounded hs (requestBody_bounded hs i))
    (takeBytes_bounded hs)
    (fun p c => by
      unfold frameDiscarded
      split
      · exact hs.discardFrame p _
      · exact hs)
    (fun p => by
      unfold gapExpires
      split
      · exact hs.discardFrame p _
      · exact hs)
    (fun p => by
      unfold linkBreak
      split
      · exact hs
      · exact (hs.setPort (break_bounded ((portsBounded_iff s).1 hs p))).steady (Steady.refl _).drive)
    (fun p => by
      obtain ⟨hreplies, hcount, hflags, hmask⟩ := (portsBounded_iff s).1 hs p
      exact hs.setPort ⟨hreplies, hcount, hflags, hmask⟩)
    (fun p => by
      obtain ⟨hreplies, hcount, hflags, hmask⟩ := (portsBounded_iff s).1 hs p
      exact hs.setPort ⟨by rw [List.length_tail]; omega, hcount, hflags, hmask⟩)
    (fun p b => receiveByte_induct hs (hs.setRx p) (hs.discardFrame p) (takeBytes_bounded (hs.setRx p .hunt) p))
    (fun f => hs.steady (stalenessExpires_steady f s))
    (fun f => hs.steady (transferExpires_steady f s))
    (hs.steady (stopAsserted_steady s))
    (hs.steady (stopReleased_steady s))
    (fun k => hs.steady (gdoneCommand_steady k s))
    (fun k => hs.steady (gfltCommand_steady k s))
    (fun _ _ _ _ a => coldReset_bounded _ a s)
    (fun a b => hs.raised (surveyReadEnd_store a b s).port)
    (fun a b => hs.raised (inventoryReadEnd_store a b s).port)
    (fun back => hs.raised (storeAttemptEnds_attempt back s).port) c
  obtain rfl : t' = t := by simpa [hnext] using h
  exact ht

/-- Settles O12: every command keeps each port within its bounds, and the passing of time leaves the ports. -/
theorem portsStayWithinTheirBounds : Obligations.PortsStayWithinTheirBounds := fun _ _ =>
  step_keeps (fun _ _ hs => hs) (fun c _ _ hs => exec_bounded c hs) (fun _ hs => hs)

/-! ### The state right after reset -/

theorem reset_mass {id : Nat} : State.reset.mass id = Mass.unreadable := by
  unfold State.mass
  split
  · rfl
  · change (Bank.ofFn 40 fun _ => Mass.unreadable).getD (id - 1) Mass.unreadable = Mass.unreadable
    rw [Bank.getD_ofFn]
    split <;> rfl

theorem reset_port (p : PortId) : State.reset.port p = PortState.initial .monitor := by
  change (Bank.ofFn 4 fun _ => PortState.initial .monitor).getD p.val _ = _
  rw [Bank.getD_ofFn, if_pos p.isLt]

theorem reset_linesFollow : LinesFollow State.reset where
  permit f := by cases f <;> decide
  fault := by
    constructor
    · intro h; cases h
    · rintro (h | ⟨h, -⟩ | ⟨f, h⟩)
      · cases h
      · cases h
      · cases f <;> cases h
  load k hk := by
    constructor
    · intro h
      have hoff : State.reset.xfc.ldcmd.getD k false = false := by
        change (Bank.ofFn 12 fun _ => false).getD k false = false
        rw [Bank.getD_ofFn, ite_self]
      rw [hoff] at h
      cases h
    · rintro ⟨f, t, h, -⟩
      cases f <;> cases h
  unload k hk := by
    constructor
    · intro h
      have hoff : State.reset.xfc.ulcmd.getD k false = false := by
        change (Bank.ofFn 12 fun _ => false).getD k false = false
        rw [Bank.getD_ofFn, ite_self]
      rw [hoff] at h
      cases h
    · rintro ⟨f, t, h, -⟩
      cases f <;> cases h
  attn p := by rw [reset_port]; decide

theorem reset_frameQuiet (f : Frame) : FrameQuiet State.reset f := by
  cases f <;> exact ⟨rfl, rfl, rfl, rfl, rfl⟩

theorem reset_grantsApart : GrantsApart State.reset where
  run f g h := by cases f <;> cases h
  apart u l h _ := by cases h
  unknown f _ := by cases f <;> rfl

theorem reset_placesHeldOnce : PlacesHeldOnce State.reset where
  bay i _ j _ b h _ := by rw [reset_mass] at h; cases h
  frame i _ j _ f h _ := by rw [reset_mass] at h; cases h
  transfer f t h := by cases f <;> cases h
  task f id h := by cases f <;> cases h
  working := by decide
  edit h := by cases h
  saving := by decide

theorem reset_placesFollow : PlacesFollow State.reset := by
  intro b hb
  have hcontent : (State.reset.bay b).content = none := by
    change ((Bank.ofFn 40 fun _ => Bay.unreadable).getD b Bay.unreadable).content = none
    rw [Bank.getD_ofFn, ite_self]
    rfl
  rw [hcontent, bayContent_eq_find]
  exact (List.find?_eq_none.2 fun id _ => by
    rw [reset_mass]
    simp [Mass.unreadable, Mass.namedBay]).symm

/-- Settles O16: each invariant of the concrete state. -/
theorem resetMeetsTheInvariants : Obligations.ResetMeetsTheInvariants := by
  refine ⟨reset_linesFollow, ?_, reset_grantsApart, ?_, reset_placesFollow, ?_, ?_, ?_, ?_,
    ⟨fun _ => rfl, fun _ => reset_frameQuiet⟩, reset_placesHeldOnce⟩
  · exact List.Perm.of_eq (by decide)
  · exact ⟨⟨by decide, by decide⟩, by decide, nofun, ⟨by decide, by decide⟩, ⟨by decide, by decide⟩⟩
  · exact ⟨by decide, by decide⟩
  · exact (portsBounded_iff _).2 fun p => by rw [reset_port]; exact initial_bounded _
  · intro f; cases f <;> decide
  · intro h; cases h

end Sys2Proof.Machine
end

section
/-! SUPPORT. O10: an invariant of the step from the operations of the blocks, and the service pointer. -/

namespace Sys2Proof.Machine

/-! ### An invariant that looks at no line -/

/-- The property looks at no port, no output line, not at shaft time and not at the commands that wait. -/
def LineBlind (I : State → Prop) : Prop :=
  ∀ s ports time pending permit fault ldcmd ulcmd, I s → I { s with
    ports := ports, time := time, pending := pending
    gru := { s.gru with permit := permit }
    mdc := { s.mdc with fault := fault }
    xfc := { s.xfc with ldcmd := ldcmd, ulcmd := ulcmd } }

/-- The operations of the blocks keep the property, each where the part performs it. -/
structure OperationsKeep (I : State → Prop) : Prop where
  blind : LineBlind I
  request : ∀ i s, s.startUp = .ended → I s → I (requestBody i s).1
  staleness : ∀ f s, I s → I (stalenessEnds f s)
  timer : ∀ f s, transferDue s f = true → I s → I (failRunning f .transferTimeout s)
  stop : ∀ s, I s → I (assertStop s)
  release : ∀ s, I s → I (releaseStop s)
  done : ∀ k s, I s → I (gdoneEdge k s)
  fault : ∀ k s, I s → I (gfltEdge k s)
  reset : ∀ sound roles stop q, I (afterStraps sound (sampled roles stop q))
  survey : ∀ chosen s, awaitsRead s .surveyRead .survey = true → I s →
    I (setStartUp .inventoryRead (beginRead .inventory
      (loadSurvey (startSurvey chosen) (endRead .survey chosen s))))
  inventory : ∀ chosen s, awaitsRead s .inventoryRead .inventory = true → I s →
    I (enterMode (loadInventory chosen (endRead .inventory chosen s)))
  attempt : ∀ r slot g image good s, s.sti.op = .write r slot g image → I s → I (attemptEnds r slot g good s)

theorem LineBlind.setPort {I : State → Prop} (h : LineBlind I) {s : State} (hs : I s) (p : PortId) (x : PortState) :
    I (s.setPort p x) :=
  h s (s.ports.set p.val x) s.time s.pending s.gru.permit s.mdc.fault s.xfc.ldcmd s.xfc.ulcmd hs

theorem LineBlind.drive {I : State → Prop} (h : LineBlind I) {s : State} (hs : I s) : I s.drive :=
  h s s.drive.ports s.time s.pending s.drive.gru.permit s.drive.mdc.fault s.drive.xfc.ldcmd s.drive.xfc.ulcmd hs

theorem LineBlind.raiseOn {I : State → Prop} (h : LineBlind I) {s : State} (hs : I s) (who : Role → Bool) (e : Event) :
    I (s.raiseOn who e) :=
  h s (s.raiseOn who e).ports s.time s.pending s.gru.permit s.mdc.fault s.xfc.ldcmd s.xfc.ulcmd hs

theorem LineBlind.withPending {I : State → Prop} (h : LineBlind I) {s : State} (hs : I s) (q : List Instr) :
    I (s.withPending q) :=
  h s s.ports s.time q s.gru.permit s.mdc.fault s.xfc.ldcmd s.xfc.ulcmd hs

theorem LineBlind.advanceTime {I : State → Prop} (h : LineBlind I) {s : State} (hs : I s) : I (advanceTime s) :=
  h s s.ports (s.time + 1) s.pending s.gru.permit s.mdc.fault s.xfc.ldcmd s.xfc.ulcmd hs

theorem LineBlind.discardFrame {I : State → Prop} (h : LineBlind I) {s : State} (hs : I s) (p : PortId)
    (c : LinkCause) : I (discardFrame p c s) :=
  h.drive (h.setPort hs p _)

theorem OperationsKeep.takeFrame {I : State → Prop} (h : OperationsKeep I) {s : State} (hs : I s) {p : PortId}
    {type : Byte} {r : Option Req} {fits : Bool} {body : State → Answer}
    (hbody : s.startUp = .ended → I (body s).1) : I (takeFrame p type r fits body s) :=
  takeFrame_induct hs (h.blind.discardFrame hs p _) (fun _ _ => h.blind.setPort hs p _)
    (fun _ _ hstart => h.blind.setPort (hbody hstart) p _)

theorem OperationsKeep.takeBytes {I : State → Prop} (h : OperationsKeep I) {s : State} (hs : I s) (p : PortId)
    (type : Byte) (payload : List Byte) : I (takeBytes p type payload s) := by
  unfold Machine.takeBytes
  split
  · exact h.takeFrame hs fun _ => hs
  · split
    · exact h.takeFrame hs fun hstart => h.request _ s hstart hs
    · exact h.takeFrame hs fun _ => hs

/-- What the operations keep, every command keeps. -/
theorem OperationsKeep.exec {I : State → Prop} (h : OperationsKeep I) (c : Instr) {s t : State} (hs : I s)
    (hexec : exec c s = .next t) : I t := by
  obtain ⟨t', hnext, ht⟩ := exec_induct (P := fun _ t => I t) (s := s)
    (fun i _ _ _ _ => h.takeFrame hs fun hstart => h.request i s hstart hs)
    (h.takeBytes hs)
    (fun p c => by
      unfold frameDiscarded
      split
      · exact h.blind.discardFrame hs p _
      · exact hs)
    (fun p => by
      unfold gapExpires
      split
      · exact h.blind.discardFrame hs p _
      · exact hs)
    (fun p => by
      unfold linkBreak
      split
      · exact hs
      · exact h.blind.drive (h.blind.setPort hs p _))
    (fun p => h.blind.setPort hs p _)
    (fun p => h.blind.setPort hs p _)
    (fun p b => receiveByte_induct hs (fun _ => h.blind.setPort hs p _) (h.blind.discardFrame hs p)
      (h.takeBytes (h.blind.setPort hs p _) p))
    (fun f => by
      unfold stalenessExpires
      split
      · exact h.blind.drive (h.staleness f s hs)
      · exact hs)
    (fun f => by
      unfold transferExpires
      split
      · next hdue => exact h.blind.drive (h.timer f s hdue hs)
      · exact hs)
    (by
      unfold stopAsserted
      split
      · exact hs
      · exact h.blind.drive (h.stop s hs))
    (by
      unfold stopReleased
      split
      · exact h.blind.drive (h.release s hs)
      · exact hs)
    (fun k => h.blind.drive (h.done k.val s hs))
    (fun k => h.blind.drive (h.fault k.val s hs))
    (fun _ _ _ _ a => h.blind.drive (h.reset _ _ a s.pending))
    (fun a b => by
      unfold surveyReadEnd
      split
      · next hread => exact h.blind.drive (h.survey _ s hread hs)
      · exact hs)
    (fun a b => by
      unfold inventoryReadEnd
      split
      · next hread => exact h.blind.drive (h.inventory _ s hread hs)
      · exact hs)
    (fun back => by
      unfold storeAttemptEnds
      split
      · next hop => exact h.blind.drive (h.attempt _ _ _ _ _ s hop hs)
      · exact hs
      · exact hs) c
  obtain rfl : t' = t := by simpa [hnext] using hexec
  exact ht

/-- What the operations keep, every step keeps. -/
theorem OperationsKeep.step {I : State → Prop} (h : OperationsKeep I) {s t : State} (hs : I s)
    (hstep : step s = .next t) : I t :=
  step_keeps (fun _ q hs => h.blind.withPending hs q) (fun c _ _ hs => h.exec c hs) (fun _ hs => h.blind.advanceTime hs)
    hs hstep

/-! ### The requests about tasks, masses, the store and events -/

/-- What the requests about tasks, masses, the store and events may change: ports and lines, INV, TKU, STI, XFC's
timed-out markers, and the survey's save indication. -/
def DeskFrame (s t : State) : Prop :=
  t = { s with
    ports := t.ports, inv := t.inv, tku := t.tku, sti := t.sti
    gru := { s.gru with permit := t.gru.permit }
    mdc := { s.mdc with fault := t.mdc.fault }
    svt := { s.svt with saveOutstanding := t.svt.saveOutstanding }
    xfc := { s.xfc with timedOut := t.xfc.timedOut, ldcmd := t.xfc.ldcmd, ulcmd := t.xfc.ulcmd } }

theorem DeskFrame.refl (s : State) : DeskFrame s s := rfl

theorem DeskFrame.trans {s t u : State} (h1 : DeskFrame s t) (h2 : DeskFrame t u) : DeskFrame s u := by
  unfold DeskFrame at h1 h2 ⊢
  rw [h1] at h2
  exact h2

theorem DeskFrame.drive {s t : State} (h : DeskFrame s t) : DeskFrame s t.drive := h.trans rfl

theorem DeskFrame.of_eq {s t : State} (h : t = s) : DeskFrame s t := h ▸ .refl s

theorem InventoryFrame.desk {s t : State} (h : InventoryFrame s t) : DeskFrame s t := by
  unfold InventoryFrame at h
  unfold DeskFrame
  rw [h]

theorem EndFrame.desk {s t : State} (h : EndFrame s t) : DeskFrame s t := by
  unfold EndFrame at h
  unfold DeskFrame
  rw [h]

/-- A request within `DeskFrame` besides bars no RUN that goes on, and queues no task in LOCKOUT (R110, R151). -/
structure DeskStep (s t : State) : Prop where
  frame : DeskFrame s t
  verified : s.mdc.mode = .run → t.inv.verified = s.inv.verified
  save : s.mdc.mode = .run → t.inv.save = .notSaved → s.inv.save = .notSaved
  queues : s.mdc.mode = .lockout → (∀ f, s.tku.queues.get f = []) → t.tku.queues = s.tku.queues

theorem DeskStep.refl (s : State) : DeskStep s s := ⟨.refl s, fun _ => rfl, fun _ => id, fun _ _ => rfl⟩

theorem DeskStep.of_eq {s t : State} (h : t = s) : DeskStep s t := h ▸ .refl s

theorem DeskStep.drive {s t : State} (h : DeskStep s t) : DeskStep s t.drive :=
  ⟨h.frame.drive, h.verified, h.save, h.queues⟩

/-- What ends or moves tasks is within a desk step where it queues none in LOCKOUT. -/
theorem EndFrame.deskStep {s t : State} (h : EndFrame s t)
    (hqueues : s.mdc.mode = .lockout → (∀ f, s.tku.queues.get f = []) → t.tku.queues = s.tku.queues) : DeskStep s t := by
  refine ⟨h.desk, fun _ => ?_, fun _ => ?_, hqueues⟩
  · rw [h]
  · rw [h]
    exact id

/-- What changes INV outside RUN is within a desk step. -/
theorem InventoryFrame.deskStep {s t : State} (h : InventoryFrame s t) (hmode : s.mdc.mode ≠ .run) : DeskStep s t := by
  refine ⟨h.desk, fun hrun => absurd hrun hmode, fun hrun => absurd hrun hmode, fun _ _ => ?_⟩
  rw [h]

theorem not_live_of_empty {s : State} (h : ∀ f, s.tku.queues.get f = []) (id : Nat) : liveIn s id = none := by
  have hu : s.tku.queues.u = [] := h .U
  have hl : s.tku.queues.l = [] := h .L
  simp [liveIn, hu, hl]

theorem acceptTask_end (n : Nat) (tag : BitVec 16) (id b : Nat) (f : Frame) (s : State) :
    EndFrame s (acceptTask n tag id b f s) := by
  have hrecord : EndFrame s ((s.setTask n (newTask s tag id b f)).setTku
      { (s.setTask n (newTask s tag id b f)).tku with free := s.tku.free.erase n }) := rfl
  have hreserved := hrecord.trans (((reserveMass_frame id n _).trans (reserveBayOf_frame (newTask s tag id b f).source n _)).trans
    (reserveBay_frame b n _)).toEnd
  unfold acceptTask
  simp only []
  split
  · exact ((hreserved.setTku _).trans (activateHead_frame f _)).raiseOn _ _
  · exact hreserved.setTku _

theorem submitTask_desk (tag : BitVec 16) (id b frame : Nat) (s : State) : DeskStep s (submitTask tag id b frame s).1 := by
  unfold submitTask
  split
  · exact .refl s
  next hmode =>
  split
  · exact .refl s
  split
  · exact .refl s
  split
  · exact .refl s
  split
  · exact .refl s
  split
  · exact .refl s
  split
  · exact .refl s
  · exact ((acceptTask_end _ tag id b _ s).deskStep fun hlockout => absurd hlockout hmode).drive

theorem cancelTask_desk (id : Nat) (s : State) : DeskStep s (cancelTask id s).1 := by
  unfold cancelTask
  split
  · exact .refl s
  split
  · exact .refl s
  next f hlive =>
  have hend : DeskStep s (endTask id .cancelled true (addTaskReasons id TaskReason.cancelled.bit s)).drive :=
    ((EndFrame.trans (addTaskReasons_frame id _ s) (endTask_frame id _ _ _)).deskStep fun _ hempty => by
      rw [not_live_of_empty hempty] at hlive
      cases hlive).drive
  split
  · exact hend
  · exact hend
  · exact EndFrame.deskStep (t := s.setTask id { s.task id with cancelPending := true }) rfl fun _ _ => rfl
  · exact .refl s

theorem moveDestination_end (id b : Nat) (s : State) : EndFrame s (moveDestination id b s) := by
  unfold moveDestination
  simp only []
  split
  · exact (reserveBay_frame b id s).toEnd.setTask _ _
  · exact ((releaseBay_frame _ id s).trans (reserveBay_frame b id _)).toEnd.setTask _ _

theorem redirectTask_desk (id b : Nat) (s : State) : DeskStep s (redirectTask id b s).1 := by
  unfold redirectTask
  split
  · exact .refl s
  split
  · exact .refl s
  next f hlive =>
  have hempty {t : State} : s.mdc.mode = .lockout → (∀ f, s.tku.queues.get f = []) → t.tku.queues = s.tku.queues :=
    fun _ hempty => by
      rw [not_live_of_empty hempty] at hlive
      cases hlive
  split
  · exact .refl s
  split
  · exact .refl s
  split
  · exact .refl s
  · simp only []
    split
    · exact (((moveDestination_end id b s).raiseOn _ _).deskStep hempty).drive
    · exact (moveDestination_end id b s).deskStep hempty

theorem takeCompletion_desk (s : State) : DeskStep s (takeCompletion s).1 := by
  unfold takeCompletion
  split
  · exact .refl s
  · exact EndFrame.deskStep rfl fun _ _ => rfl

theorem saveSurvey_desk (s : State) : DeskStep s (saveSurvey s).1 := by
  unfold saveSurvey
  split
  · exact .refl s
  split
  · exact .refl s
  split
  · exact .refl s
  · exact ⟨rfl, fun _ => rfl, fun _ => id, fun _ _ => rfl⟩

theorem declareMass_desk (id nominal kind p1 p2 : Nat) (s : State) : DeskStep s (declareMass id nominal kind p1 p2 s).1 := by
  unfold declareMass
  split
  · exact .refl s
  next hmode =>
  split
  · exact .refl s
  split
  · exact .refl s
  split
  · exact .refl s
  split
  · exact .refl s
  · have hdeclare (r : Mass) : InventoryFrame s (declare id r s) :=
      ((putMass_inventory _ _ s).trans (setVerified_inventory _ _)).trans (saveRequestIf_inventory _ _)
    exact ((hdeclare _).deskStep fun hrun => hmode (by rw [hrun]; exact nofun)).drive

theorem confirmInventory_desk (s : State) : DeskStep s (confirmInventory s).1 := by
  unfold confirmInventory
  split
  · exact .refl s
  next hmode =>
  generalize firstMass s barsConfirming = barring
  cases barring with
  | some id => exact .refl s
  | none =>
    simp only []
    split
    · exact .refl s
    · exact (((setVerified_inventory _ s).trans (saveRequest_inventory _ _)).deskStep fun hrun =>
        hmode (by rw [hrun]; exact nofun)).drive

theorem saveRequestByDispatch_inventory (s : State) : InventoryFrame s (saveRequestByDispatch s) := by
  unfold saveRequestByDispatch
  split
  · rfl
  · exact saveRequest_inventory [] s

/-- A save request never brings NOT_SAVED (R92). -/
theorem saveRequest_notSaved {w : List Waiter} {s : State} (h : (saveRequest w s).inv.save = .notSaved) :
    s.inv.save = .notSaved := by
  rw [saveRequest_save] at h
  split at h
  · cases h
  · cases h
  · cases h
  · assumption

theorem saveInventory_desk (s : State) : DeskStep s (saveInventory s).1 := by
  refine ⟨(saveRequestByDispatch_inventory s).desk, fun _ => ?_, fun _ => ?_, fun _ _ => ?_⟩
  · change (saveRequestByDispatch s).inv.verified = _
    unfold saveRequestByDispatch
    split
    · rfl
    · rw [saveRequest_frame]
  · change (saveRequestByDispatch s).inv.save = _ → _
    unfold saveRequestByDispatch
    split
    · exact nofun
    · exact saveRequest_notSaved
  · change (saveRequestByDispatch s).tku.queues = _
    rw [saveRequestByDispatch_inventory s]

theorem setBayService_desk (b flag : Nat) (s : State) : DeskStep s (setBayService b flag s).1 := by
  unfold setBayService
  split
  · exact .refl s
  next hmode =>
  split
  · exact .refl s
  split
  · exact (setBayInService_inventory b _ s).deskStep hmode
  · exact .refl s

theorem setLandingService_desk (k flag : Nat) (s : State) : DeskStep s (setLandingService k flag s).1 := by
  unfold setLandingService
  split
  · exact .refl s
  next hmode =>
  split
  · exact .refl s
  next v _ =>
  have hset := (setLandingInService_inventory k v s).deskStep hmode
  split
  · simp only [serveLanding, answerWith]
    split
    · exact ⟨hset.frame.trans rfl, hset.verified, hset.save, hset.queues⟩
    · exact hset
  · exact .refl s

theorem setEventMask_desk (p : PortId) (x : BitVec 16) (s : State) : DeskStep s (setEventMask p x s).1 := by
  unfold setEventMask
  split
  · exact ⟨rfl, fun _ => rfl, fun _ => id, fun _ _ => rfl⟩
  · exact .refl s

theorem clearEvents_desk (p : PortId) (x : BitVec 16) (s : State) : DeskStep s (clearEvents p x s).1 := by
  unfold clearEvents
  simp only []
  split
  · exact ⟨rfl, fun _ => rfl, fun _ => id, fun _ _ => rfl⟩
  · exact .refl s

theorem forWinder_keeps {P : State → Prop} {p : PortId} {body : Frame → State → Answer} {s : State} (hs : P s)
    (h : ∀ f, P (body f s).1) : P (forWinder p body s).1 := by
  unfold forWinder
  split
  · next f _ => exact h f
  · exact hs

/-- The requests by what they touch: those of frames, modes, tuning and survey items act by their own operations, and
every other one is a `DeskStep`. -/
theorem requestBody_induct {P : State → Prop} {s : State} (desk : ∀ t, DeskStep s t → P t)
    (position : ∀ f e v m fl, P (Machine.position f e v m fl s).1)
    (requestTravel : ∀ f target, P (Machine.requestTravel f target s).1)
    (releaseTravel : ∀ f, P (Machine.releaseTravel f s).1)
    (transfer : ∀ f, P (requestTransfer f s).1)
    (hold : P (requestHold s).1) (resume : P (requestResume s).1) (lockout : P (requestLockout s).1)
    (unlock : P (requestUnlock s).1) (acknowledge : P (acknowledgeStop s).1) (clear : ∀ n, P (clearTrip n s).1)
    (tuning : ∀ x, P (setTuning x s).1) (item : ∀ c i v, P (setSurveyItem c i v s).1) (i : Instr) :
    P (requestBody i s).1 := by
  have hs : P s := desk s (.refl s)
  cases i with
  | position p e v m fl => exact forWinder_keeps hs fun f => position f e v m fl
  | requestTravel p target => exact forWinder_keeps hs fun f => requestTravel f _
  | releaseTravel p => exact forWinder_keeps hs releaseTravel
  | readGrant p => exact forWinder_keeps hs fun f => hs
  | readTask p => exact forWinder_keeps hs fun f => desk _ (.of_eq (readTask_state f s))
  | transfer p => exact forWinder_keeps hs transfer
  | submitTask p tag mass bay frame => exact desk _ (submitTask_desk _ _ _ _ s)
  | cancelTask p id => exact desk _ (cancelTask_desk _ s)
  | redirectTask p id bay => exact desk _ (redirectTask_desk _ _ s)
  | takeCompletion p => exact desk _ (takeCompletion_desk s)
  | hold p => exact hold
  | resume p => exact resume
  | lockout p => exact lockout
  | unlock p => exact unlock
  | ackStop p => exact acknowledge
  | clearTrip p frame => exact clear _
  | setTuning p present vlU legU vlL legL len entries => exact tuning _
  | setSurveyItem p n index value => exact item _ _ _
  | saveSurvey p => exact desk _ (saveSurvey_desk s)
  | declareMass p id nominal kind place1 place2 => exact desk _ (declareMass_desk _ _ _ _ _ s)
  | confirmInventory p => exact desk _ (confirmInventory_desk s)
  | saveInventory p => exact desk _ (saveInventory_desk s)
  | setBayService p bay flag => exact desk _ (setBayService_desk _ _ s)
  | setLandingService p landing flag => exact desk _ (setLandingService_desk _ _ s)
  | readFrame p frame => exact desk _ (.of_eq (readFrame_state _ s))
  | readMass p id => exact desk _ (.of_eq (readMass_state _ s))
  | readBay p bay => exact desk _ (.of_eq (readBay_state _ s))
  | readSurveyItem p n index copy => exact desk _ (.of_eq (readSurveyItem_state _ _ _ s))
  | readTaskById p id => exact desk _ (.of_eq (readTaskById_state _ s))
  | clearEvents p flags => exact desk _ (clearEvents_desk p flags s)
  | setEventMask p enables => exact desk _ (setEventMask_desk p enables s)
  | _ => exact hs

end Sys2Proof.Machine
end

section
/-! SUPPORT. O9, O10: the arbiter's table and the grants through every operation of the part. -/

namespace Sys2Proof.Machine

/-! ### ARB's table and pointer (R70) -/

/-- ARB's tables have their sizes and the pointer names an entry (R70). -/
structure Arb.Fits (a : Arb) : Prop where
  table : tableSized a.table.length
  pointer : a.pointer < a.table.length
  pending : ∀ t, a.pendingTable = some t → tableSized t.length

theorem pointerInTable_iff (s : State) : PointerInTable s ↔
    s.arb.Fits ∧ tableSized s.svt.working.tableLen ∧ tableSized s.svt.edit.tableLen :=
  ⟨fun ⟨h1, h2, h3, h4, h5⟩ => ⟨⟨h1, h2, h3⟩, h4, h5⟩, fun ⟨⟨h1, h2, h3⟩, h4, h5⟩ => ⟨h1, h2, h3, h4, h5⟩⟩

theorem takeTable_fits {a : Arb} (h : a.Fits) : a.takeTable.Fits := by
  unfold Arb.takeTable
  split
  · next t ht =>
    have hsize := h.pending t ht
    exact ⟨hsize, hsize.1, nofun⟩
  · exact h

theorem advance_fits {a : Arb} (h : a.Fits) : a.advance.Fits := by
  refine ⟨h.table, ?_, h.pending⟩
  change (if a.pointer + 1 < a.table.length then a.pointer + 1 else 0) < a.table.length
  have hpointer := h.pointer
  split <;> omega

theorem applyTable_fits {a : Arb} (h : a.Fits) (working : Bool) {t : Option (List Frame)}
    (ht : ∀ x, t = some x → tableSized x.length) : (a.applyTable working t).Fits := by
  unfold Arb.applyTable
  split
  · exact h
  · next x =>
    have hsize := ht x rfl
    split
    · exact ⟨hsize, hsize.1, nofun⟩
    · exact ⟨h.table, h.pointer, fun y hy => by cases hy; exact hsize⟩

theorem defaultTable_length (sv : Survey) : sv.defaultTable.length = min sv.tableLen 8 := by
  simp [Survey.defaultTable, sv.table.len]

theorem adopt_fits (a : Arb) {sv : Survey} (h : tableSized sv.tableLen) : (a.adopt sv).Fits := by
  have hlen : (a.adopt sv).table.length = sv.tableLen := by
    change sv.defaultTable.length = _
    rw [defaultTable_length]
    exact min_eq_left h.2
  exact ⟨hlen ▸ h, hlen ▸ h.1, nofun⟩

/-! ### Runs of zones -/

theorem hull_lo (a b : Run) : (a.hull b).lo = min a.lo b.lo := rfl

theorem hull_hi (a b : Run) : (a.hull b).hi = max a.hi b.hi := rfl

/-- A cut grant is a run within the grant (R58). -/
theorem clip_within {g : Run} (hg : g.lo ≤ g.hi) (t : Run) :
    g.lo ≤ (g.clip t).lo ∧ (g.clip t).hi ≤ g.hi ∧ (g.clip t).lo ≤ (g.clip t).hi := by
  unfold Run.clip
  split
  · next h => exact ⟨Nat.le_max_left _ _, Nat.min_le_left _ _, h⟩
  · exact ⟨le_refl _, le_refl _, hg⟩

theorem mem_zones (r : Run) (z : Nat) : z ∈ r.zones ↔ r.lo ≤ z ∧ z ≤ r.hi := by
  unfold Run.zones
  rw [List.mem_map]
  constructor
  · rintro ⟨i, hi, rfl⟩
    rw [List.mem_range] at hi
    omega
  · rintro ⟨hlo, hhi⟩
    exact ⟨z - r.lo, List.mem_range.2 (by omega), by omega⟩

theorem zoneOf_mono (sv : Survey) {x y : Nat} (h : x ≤ y) : sv.zoneOf x ≤ sv.zoneOf y := by
  unfold Survey.zoneOf
  have hdiv := Nat.div_le_div_right (c := sv.zl) h
  omega

/-- An envelope is a run (R42). -/
theorem reachZones_run (sv : Survey) (x : Int) (down up : Nat) :
    (reachZones sv x down up).lo ≤ (reachZones sv x down up).hi := by
  refine zoneOf_mono sv ?_
  unfold clampShaft
  omega

theorem reportEnvelope_run (s : State) (f : Frame) (r : Report) :
    (reportEnvelope s f r).lo ≤ (reportEnvelope s f r).hi := reachZones_run _ _ _ _

/-! ### Grants that stay apart (R46, R47) -/

theorem ownSide_iff (s : State) (f : Frame) (n : Run) : ownSide s f n = true ↔ OnOwnSide s f n := by
  unfold ownSide OnOwnSide
  cases h : s.grant f.other with
  | none => cases f <;> simp
  | some g => cases f <;> simp

/-- A frame's own grant lies on its own side. -/
theorem GrantsApart.ownSide {s : State} (h : GrantsApart s) {f : Frame} {g : Run} (hg : s.grant f = some g) :
    OnOwnSide s f g := by
  intro o ho
  cases f with
  | U => exact h.apart g o hg ho
  | L => exact h.apart o g ho hg

theorem GrantsApart.known {s : State} (h : GrantsApart s) {f : Frame} {g : Run} (hg : s.grant f = some g) :
    (s.tracker f).state ≠ .unknown := fun hunknown => by
  rw [h.unknown f hunknown] at hg
  cases hg

/-- A run that reaches past a grant on its own side. -/
theorem OnOwnSide.within {s : State} {f : Frame} {g n : Run} (h : OnOwnSide s f g) (hlo : g.lo ≤ n.lo)
    (hhi : n.hi ≤ g.hi) : OnOwnSide s f n := by
  intro o ho
  have hside := h o ho
  cases f
  · exact lt_of_lt_of_le hside hlo
  · exact lt_of_le_of_lt hhi hside

theorem zoneOwner_of_grant {s : State} (h : GrantsApart s) {f : Frame} {g : Run} (hg : s.grant f = some g) {z : Nat}
    (hlo : g.lo ≤ z) (hhi : z ≤ g.hi) : zoneOwner s z = some f := by
  have hhas : g.has z = true := by simp [Run.has, hlo, hhi]
  cases f with
  | U => simp [zoneOwner, hg, grantHas, hhas]
  | L =>
    have hu : grantHas (s.grant .U) z = false := by
      cases hgu : s.grant .U with
      | none => rfl
      | some u =>
        have hapart := h.apart u g hgu hg
        simp [grantHas, Run.has]
        omega
    have hl : grantHas (s.grant .L) z = true := by rw [hg]; exact hhas
    simp [zoneOwner, hu, hl]

/-- A grant widened over zones that are not the other frame's stays on its side (R46). -/
theorem ownSide_of_widened {s : State} (h : GrantsApart s) {f : Frame} {g n : Run} (hg : s.grant f = some g)
    (hlo : n.lo ≤ g.lo) (hhi : g.hi ≤ n.hi) (hfree : ∀ z, n.lo ≤ z → z ≤ n.hi → zoneOwner s z ≠ some f.other) :
    OnOwnSide s f n := by
  intro o ho
  have hrun := h.run _ _ ho
  have hgrun := h.run _ _ hg
  have hside := h.ownSide hg o ho
  by_contra hover
  cases f with
  | U => exact hfree o.hi (by omega) (by dsimp only at hside; omega) (zoneOwner_of_grant h ho hrun (le_refl _))
  | L => exact hfree o.lo (by dsimp only at hside; omega) (by omega) (zoneOwner_of_grant h ho (le_refl _) hrun)

/-- One grant changes to a run on the frame's own side, the frame known; the other frame stays. -/
theorem GrantsApart.of_regrant {s t : State} (h : GrantsApart s) {f : Frame} {n : Run} (hgrant : t.grant f = some n)
    (hother : t.grant f.other = s.grant f.other) (hrun : n.lo ≤ n.hi) (hside : OnOwnSide s f n)
    (hknown : (t.tracker f).state ≠ .unknown)
    (hkept : (t.tracker f.other).state = .unknown → (s.tracker f.other).state = .unknown) : GrantsApart t := by
  have hf (g : Frame) : g = f ∨ g = f.other := by cases f <;> cases g <;> simp [Frame.other]
  refine ⟨fun g r hr => ?_, fun u l hu hl => ?_, fun g hg => ?_⟩
  · obtain rfl | rfl := hf g
    · rw [hgrant] at hr
      cases hr
      exact hrun
    · exact h.run _ _ (hother ▸ hr)
  · cases f with
    | U =>
      rw [hgrant] at hu
      cases hu
      exact hside l (hother ▸ hl)
    | L =>
      rw [hgrant] at hl
      cases hl
      exact hside u (hother ▸ hu)
  · obtain rfl | rfl := hf g
    · exact absurd hg hknown
    · rw [hother]
      exact h.unknown _ (hkept hg)

theorem GrantsApart.setGrant {s : State} (h : GrantsApart s) {f : Frame} {g n : Run} (hg : s.grant f = some g)
    (hrun : n.lo ≤ n.hi) (hside : OnOwnSide s f n) : GrantsApart (s.setGrant f (some n)) :=
  h.of_regrant (Pair.get_set_self _ _ _) (Pair.get_set_other _ _ _) hrun hside (h.known hg) id

/-! ### Every operation keeps both -/

/-- What every operation keeps: ARB's tables fit, and the grants stay apart. -/
structure GridKept (s t : State) : Prop where
  arb : s.arb.Fits → t.arb.Fits
  grants : GrantsApart s → GrantsApart t

theorem GridKept.refl (s : State) : GridKept s s := ⟨id, id⟩

theorem GridKept.trans {s t u : State} (h1 : GridKept s t) (h2 : GridKept t u) : GridKept s u :=
  ⟨h2.arb ∘ h1.arb, h2.grants ∘ h1.grants⟩

/-- No grant changes, and no frame becomes UNKNOWN. -/
theorem GridKept.of_same {s t : State} (harb : t.arb = s.arb) (hgrant : ∀ f, t.grant f = s.grant f)
    (hknown : ∀ f, (t.tracker f).state = .unknown → (s.tracker f).state = .unknown) : GridKept s t :=
  ⟨fun h => harb ▸ h, fun h => ⟨fun f g hg => h.run f g (hgrant f ▸ hg),
    fun u l hu hl => h.apart u l (hgrant .U ▸ hu) (hgrant .L ▸ hl),
    fun f hf => (hgrant f).trans (h.unknown f (hknown f hf))⟩⟩

/-- Neither grant, tracker nor ARB changes. -/
theorem GridKept.of_blocks {s t : State} (harb : t.arb = s.arb) (hgrants : t.gru.grants = s.gru.grants)
    (hftk : t.ftk = s.ftk) : GridKept s t :=
  .of_same harb (fun f => by unfold State.grant; rw [hgrants]) (fun f => by unfold State.tracker; rw [hftk]; exact id)

theorem GridKept.raiseOn {s t : State} (h : GridKept s t) (who : Role → Bool) (e : Event) :
    GridKept s (t.raiseOn who e) := h.trans (.of_blocks rfl rfl rfl)

theorem GridKept.drive {s t : State} (h : GridKept s t) : GridKept s t.drive := h.trans (.of_blocks rfl rfl rfl)

theorem DeskFrame.grid {s t : State} (h : DeskFrame s t) : GridKept s t := by
  unfold DeskFrame at h
  rw [h]
  exact .of_blocks rfl rfl rfl

theorem setGrant_grid {s : State} {f : Frame} {g n : Run} (hg : s.grant f = some g) (hrun : GrantsApart s → n.lo ≤ n.hi)
    (hside : GrantsApart s → OnOwnSide s f n) : GridKept s (s.setGrant f (some n)) :=
  ⟨id, fun h => h.setGrant hg (hrun h) (hside h)⟩

theorem trimTo_grid (f : Frame) (n : Run) (d : Option Dir) (s : State) : GridKept s (trimTo f n d s) := by
  unfold trimTo
  split
  · next g hg =>
    have hcut : GridKept s (s.setGrant f (some (g.clip n))) :=
      setGrant_grid hg (fun h => (clip_within (h.run f g hg) n).2.2) fun h =>
        have hwithin := clip_within (h.run f g hg) n
        (h.ownSide hg).within hwithin.1 hwithin.2.1
    simp only []
    split
    · exact hcut.raiseOn _ _
    · exact hcut
  · exact .refl s

theorem trim_grid (f : Frame) (s : State) : GridKept s (trim f s) := by
  unfold trim
  split
  · split
    · exact trimTo_grid _ _ _ s
    · exact .refl s
  · exact .refl s

theorem setArb_grid {s : State} {a : Arb} (h : s.arb.Fits → a.Fits) : GridKept s (s.setArb a) :=
  ⟨h, fun ⟨h1, h2, h3⟩ => ⟨h1, h2, h3⟩⟩

theorem setBlocked_grid (f : Frame) (b : Bool) (s : State) : GridKept s (s.setBlocked f b) :=
  setArb_grid fun ⟨h1, h2, h3⟩ => ⟨h1, h2, h3⟩

theorem takePendingTuning_grid (f : Frame) (s : State) : GridKept s (takePendingTuning f s) := by
  have htuning : GridKept s (s.setSvt { s.svt with tuning := s.svt.tuning.set f (s.svt.tuning.get f).takeOver }) :=
    .of_blocks rfl rfl rfl
  unfold takePendingTuning
  simp only []
  split
  · exact htuning.trans (setArb_grid takeTable_fits)
  · exact htuning

theorem clearRequest_grid (f : Frame) (why : EndReason) (s : State) : GridKept s (clearRequest f why s) := by
  have hend (t : State) : GridKept t (t.setGru { t.gru with lastEnd := t.gru.lastEnd.set f why }) :=
    .of_blocks rfl rfl rfl
  have hrequest : GridKept s (s.setRequest f none) := .of_blocks rfl rfl rfl
  have htuned := (((hrequest.trans (hend _)).raiseOn (fun r => r == winderRole f) .requestEnded).trans
    (setBlocked_grid f false _)).trans (takePendingTuning_grid f _)
  unfold clearRequest
  simp only []
  split
  · exact htuned
  · exact htuned.trans (trim_grid f _)

/-! ### Rounds -/

theorem freeUp_free (s : State) : ∀ n z i, i < freeUp s z n → zoneFree s (z + i) = true := by
  intro n
  induction n with
  | zero => intro z i hi; exact absurd hi (Nat.not_lt_zero i)
  | succ n ih =>
    intro z i hi
    unfold freeUp at hi
    split at hi
    · next hfree =>
      cases i with
      | zero => exact hfree
      | succ i =>
        have hnext := ih (z + 1) i (by omega)
        rwa [Nat.add_right_comm] at hnext
    · omega

theorem freeUp_le (s : State) : ∀ n z, freeUp s z n ≤ n := by
  intro n
  induction n with
  | zero => intro z; exact le_refl _
  | succ n ih =>
    intro z
    have hn := ih (z + 1)
    unfold freeUp
    split <;> omega

theorem freeDown_free (s : State) : ∀ n z i, i < freeDown s z n → zoneFree s (z - i) = true := by
  intro n
  induction n with
  | zero => intro z i hi; exact absurd hi (Nat.not_lt_zero i)
  | succ n ih =>
    intro z i hi
    unfold freeDown at hi
    split at hi
    · next hfree =>
      cases i with
      | zero => exact hfree
      | succ i =>
        have hnext := ih (z - 1) i (by omega)
        rwa [Nat.sub_sub, Nat.add_comm 1 i] at hnext
    · omega

theorem freeDown_le (s : State) : ∀ n z, freeDown s z n ≤ n := by
  intro n
  induction n with
  | zero => intro z; exact le_refl _
  | succ n ih =>
    intro z
    have hn := ih (z - 1)
    unfold freeDown
    split <;> omega

/-- A run served to a frame: FREE zones that follow on its grant edge, up or down (R73). -/
structure Serves (s : State) (g : Run) (dir : Dir) (r : Run) : Prop where
  run : r.lo ≤ r.hi
  edge : match dir with
    | .up => r.lo = g.hi + 1
    | .down => r.hi + 1 = g.lo
  free : ∀ z, r.lo ≤ z → z ≤ r.hi → zoneFree s z = true

theorem freeExtent_within {s : State} {d r : Run} {dir : Dir} (h : freeExtent s dir d = some r) :
    d.lo ≤ r.lo ∧ r.hi ≤ d.hi := by
  cases dir with
  | up =>
    have hle := freeUp_le s (d.hi + 1 - d.lo) d.lo
    unfold freeExtent at h
    dsimp only at h
    split at h
    · cases h
    · cases h
      exact ⟨le_refl _, by dsimp only; omega⟩
  | down =>
    have hle := freeDown_le s (d.hi + 1 - d.lo) d.hi
    unfold freeExtent at h
    dsimp only at h
    split at h
    · cases h
    · cases h
      exact ⟨by dsimp only; omega, le_refl _⟩

theorem freeExtent_serves {s : State} {g d r : Run} {dir : Dir}
    (hedge : match dir with
      | .up => d.lo = g.hi + 1
      | .down => d.hi + 1 = g.lo) (h : freeExtent s dir d = some r) : Serves s g dir r := by
  cases dir with
  | up =>
    have hle := freeUp_le s (d.hi + 1 - d.lo) d.lo
    have hfree := freeUp_free s (d.hi + 1 - d.lo) d.lo
    unfold freeExtent at h
    dsimp only at h hedge
    generalize freeUp s d.lo (d.hi + 1 - d.lo) = n at h hle hfree
    split at h
    · cases h
    · cases h
      refine ⟨by dsimp only; omega, hedge, fun z hlo hhi => ?_⟩
      dsimp only at hlo hhi
      have hz := hfree (z - d.lo) (by omega)
      rwa [Nat.add_sub_cancel' hlo] at hz
  | down =>
    have hle := freeDown_le s (d.hi + 1 - d.lo) d.hi
    have hfree := freeDown_free s (d.hi + 1 - d.lo) d.hi
    unfold freeExtent at h
    dsimp only at h hedge
    generalize freeDown s d.hi (d.hi + 1 - d.lo) = n at h hle hfree
    split at h
    · cases h
    · cases h
      refine ⟨by dsimp only; omega, hedge, fun z hlo hhi => ?_⟩
      dsimp only at hlo hhi
      have hz := hfree (d.hi - z) (by omega)
      rwa [Nat.sub_sub_self hhi] at hz

/-- A demand follows on its grant's edge in the request's direction (R49). -/
theorem demand_spec {s : State} {f : Frame} {d : Run} (h : demand s f = some d) :
    ∃ t g, s.request f = some t ∧ s.grant f = some g ∧ d.lo ≤ d.hi ∧
      match t.dir with
      | .up => d.lo = g.hi + 1
      | .down => d.hi + 1 = g.lo := by
  unfold demand at h
  split at h
  · next t g r hreq hgrant hlast =>
    refine ⟨t, g, hreq, hgrant, ?_⟩
    dsimp only at h
    cases hdir : t.dir <;> rw [hdir] at h <;> dsimp only at h <;> split at h <;> cases h
    · exact ⟨by assumption, rfl⟩
    · next hlt => exact ⟨by dsimp only; omega, by dsimp only; omega⟩
  · cases h

theorem eligibleDemand_spec {s : State} {f : Frame} {dir : Dir} {d : Run} (h : eligibleDemand s f = some (dir, d)) :
    (∃ t, s.request f = some t ∧ t.dir = dir) ∧ demand s f = some d ∧ (s.tracker f).state = .tracked ∧
      (dir = towardOther f → (s.tracker f.other).state = .tracked) := by
  unfold eligibleDemand at h
  split at h
  · next t d' hreq hdemand =>
    split at h
    · next hok =>
      cases h
      exact ⟨⟨t, hreq, rfl⟩, hdemand, hok⟩
    · cases h
  · cases h

/-- A served run follows on the frame's grant over FREE zones (R73). -/
theorem servedRun_serves {s : State} {f : Frame} {r : Run} (h : servedRun s f = some r) :
    ∃ g dir d, s.grant f = some g ∧ eligibleDemand s f = some (dir, d) ∧ freeExtent s dir d = some r ∧
      Serves s g dir r := by
  unfold servedRun at h
  split at h
  · next dir d hd =>
    obtain ⟨⟨t, hreq, rfl⟩, hdemand, -, -⟩ := eligibleDemand_spec hd
    obtain ⟨t', g, hreq', hgrant, -, hedge⟩ := demand_spec hdemand
    obtain rfl : t = t' := by simpa [hreq] using hreq'
    exact ⟨g, t.dir, d, hgrant, hd, h, freeExtent_serves hedge h⟩
  · cases h

theorem zoneOwner_of_free {s : State} {z : Nat} (h : zoneFree s z = true) (f : Frame) : zoneOwner s z ≠ some f := by
  unfold zoneFree at h
  rw [Option.isNone_iff_eq_none] at h
  rw [h]
  exact nofun

theorem applyServed_some {f : Frame} {r g : Run} {s : State} (hg : s.grant f = some g) :
    applyServed f (some r) s = (s.setGrant f (some (g.hull r))).raiseWinder f .grantChanged := by
  unfold applyServed
  rw [hg]

/-- A grant with its served run stays on the frame's own side (R46, R73). -/
theorem Serves.ownSide {s : State} (hs : GrantsApart s) {f : Frame} {g r : Run} {dir : Dir} (hg : s.grant f = some g)
    (h : Serves s g dir r) : OnOwnSide s f (g.hull r) := by
  refine ownSide_of_widened hs hg (Nat.min_le_left _ _) (Nat.le_max_left _ _) fun z hlo hhi => ?_
  rw [hull_lo] at hlo
  rw [hull_hi] at hhi
  by_cases hin : r.lo ≤ z ∧ z ≤ r.hi
  · exact zoneOwner_of_free (h.free z hin.1 hin.2) _
  · have hedge := h.edge
    have hown : g.lo ≤ z ∧ z ≤ g.hi := by
      cases dir <;> dsimp only at hedge <;> omega
    rw [zoneOwner_of_grant hs hg hown.1 hown.2]
    cases f <;> exact nofun

theorem applyServed_grid {s : State} {f : Frame} {g r : Run} (hg : s.grant f = some g)
    (hside : GrantsApart s → OnOwnSide s f (g.hull r)) : GridKept s (applyServed f (some r) s) := by
  rw [applyServed_some hg]
  refine GridKept.raiseOn (setGrant_grid hg (fun h => ?_) hside) _ _
  have hrun := h.run f g hg
  rw [hull_lo, hull_hi]
  omega

/-- A frame served its free extent (R62, R73). -/
theorem serveOne_grid (f : Frame) (s : State) : GridKept s (applyServed f (servedRun s f) s) := by
  cases h : servedRun s f with
  | none =>
    unfold applyServed
    exact .refl s
  | some r =>
    obtain ⟨g, dir, d, hg, -, -, hserves⟩ := servedRun_serves h
    exact applyServed_grid hg fun hs => hserves.ownSide hs hg

/-- Where the frames do not contend, their served runs leave the grants apart (R75, R76). -/
theorem served_apart {s : State} (hs : GrantsApart s) (hcont : contended s = false) {u l gu gl : Run}
    (hgu : s.grant .U = some gu) (hgl : s.grant .L = some gl) (hu : servedRun s .U = some u)
    (hl : servedRun s .L = some l) : max gl.hi l.hi < min gu.lo u.lo := by
  obtain ⟨gu', du, demandU, hgu', hdu, hextU, hservesU⟩ := servedRun_serves hu
  obtain ⟨gl', dl, demandL, hgl', hdl, hextL, hservesL⟩ := servedRun_serves hl
  obtain rfl : gu = gu' := by simpa [hgu] using hgu'
  obtain rfl : gl = gl' := by simpa [hgl] using hgl'
  have hrunL := hs.run _ _ hgl
  have hrunU := hs.run _ _ hgu
  have hsideU : gl.hi < min gu.lo u.lo := hservesU.ownSide hs hgu gl hgl
  have hsideL : max gl.hi l.hi < gu.lo := hservesL.ownSide hs hgl gu hgu
  have hl := hservesL.run
  have hedgeU := hservesU.edge
  have hedgeL := hservesL.edge
  cases dl with
  | down => dsimp only at hedgeL; omega
  | up =>
    cases du with
    | up => dsimp only at hedgeU; omega
    | down =>
      have hwithinU := freeExtent_within hextU
      have hwithinL := freeExtent_within hextL
      obtain ⟨-, hdemandU, -, -⟩ := eligibleDemand_spec hdu
      have hmeets : demandU.meets demandL = false := by
        have hboth := hcont
        unfold contended at hboth
        rwa [hdu, hdl] at hboth
      simp only [Run.meets, Bool.and_eq_false_iff, decide_eq_false_iff_not] at hmeets
      dsimp only at hedgeU hedgeL
      omega

theorem servedRun_none_or {s : State} (f : Frame) :
    servedRun s f = none ∨ ∃ r g, servedRun s f = some r ∧ s.grant f = some g := by
  cases h : servedRun s f with
  | none => exact .inl rfl
  | some r =>
    obtain ⟨g, -, -, hg, -⟩ := servedRun_serves h
    exact .inr ⟨r, g, rfl, hg⟩

theorem applyServed_grant_other (f : Frame) (x : Option Run) (s : State) :
    (applyServed f x s).grant f.other = s.grant f.other := by
  unfold applyServed
  split
  · exact Pair.get_set_other _ _ _
  · rfl

theorem serveBoth_grid {s : State} (hcont : contended s = false) :
    GridKept s (applyServed .L (servedRun s .L) (applyServed .U (servedRun s .U) s)) := by
  obtain hl | ⟨l, gl, hl, hgl⟩ := servedRun_none_or (s := s) .L
  · rw [hl]
    unfold applyServed
    exact serveOne_grid .U s
  obtain hu | ⟨u, gu, hu, hgu⟩ := servedRun_none_or (s := s) .U
  · rw [hu]
    exact serveOne_grid .L s
  refine ⟨fun h => ?_, fun hs => ?_⟩
  · have hfirst := serveOne_grid .U s
    rw [hu] at hfirst ⊢
    rw [hl]
    have hgl' : (applyServed .U (some u) s).grant .L = some gl := (applyServed_grant_other .U _ s).trans hgl
    rw [applyServed_some hgl']
    exact hfirst.arb h
  · have hfirst := (serveOne_grid .U s).grants hs
    rw [hu] at hfirst ⊢
    rw [hl]
    have hgl' : (applyServed .U (some u) s).grant .L = some gl := (applyServed_grant_other .U _ s).trans hgl
    refine (applyServed_grid hgl' fun _ => ?_).grants hfirst
    intro g hg
    have hg' : g = gu.hull u := by
      rw [applyServed_some hgu] at hg
      have hself : (s.setGrant .U (some (gu.hull u))).grant .U = some (gu.hull u) := rfl
      exact Option.some.inj (hg.symm.trans hself)
    subst hg'
    exact served_apart hs hcont hgu hgl hu hl

theorem serviceStep_grid (s : State) : GridKept s (serviceStep s).1 := by
  unfold serviceStep
  split
  · exact ((serveOne_grid _ s).trans (serveOne_grid _ _)).trans (setArb_grid advance_fits)
  · next hcont => exact serveBoth_grid (by simpa using hcont)

theorem deadlockStep_grid (s : State) : GridKept s (deadlockStep s) := by
  unfold deadlockStep
  split
  · refine ((clearRequest_grid _ .yield s).trans (setArb_grid fun h => ?_)).raiseOn _ _
    have hadvanced := advance_fits h
    exact ⟨hadvanced.table, hadvanced.pointer, hadvanced.pending⟩
  · exact .refl s

theorem reportBlocked_grid (f : Frame) (x : Bool) (s : State) : GridKept s (reportBlocked f x s) := by
  unfold reportBlocked
  split
  · exact (setBlocked_grid f true s).raiseOn _ _
  · exact .refl s

theorem askRound_grid (s : State) : GridKept s (askRound s) := by
  unfold askRound
  split
  · exact (((deadlockStep_grid s).trans (serviceStep_grid _)).trans (reportBlocked_grid _ _ _)).trans
      (reportBlocked_grid _ _ _)
  · exact .refl s

theorem askRoundIf_grid (b : Bool) (s : State) : GridKept s (askRoundIf b s) := by
  unfold askRoundIf
  split
  · exact askRound_grid s
  · exact .refl s

end Sys2Proof.Machine
end

section
/-! SUPPORT. O9, O10, O13: what the operations of XFC do to the trackers, and the grants and the arbiter's table through
every operation. -/

namespace Sys2Proof.Machine

/-! ### Trackers through the operations of XFC (R32, R135) -/

/-- The mode stays, or goes from RUN to HOLD (R149). -/
def ModeDrops (s t : State) : Prop :=
  t.mdc.mode = s.mdc.mode ∨ (s.mdc.mode = .run ∧ t.mdc.mode = .hold)

theorem ModeDrops.refl (s : State) : ModeDrops s s := .inl rfl

theorem ModeDrops.trans {s t u : State} (h1 : ModeDrops s t) (h2 : ModeDrops t u) : ModeDrops s u := by
  obtain hsame | ⟨hrun, hhold⟩ := h2
  · obtain hsame' | ⟨hrun, hhold⟩ := h1
    · exact .inl (hsame.trans hsame')
    · exact .inr ⟨hrun, hsame.trans hhold⟩
  · obtain hsame' | ⟨-, hhold'⟩ := h1
    · exact .inr ⟨hsame' ▸ hrun, hhold⟩
    · exact absurd (hhold'.symm.trans hrun) (by decide)

theorem ModeDrops.run {s t : State} (h : ModeDrops s t) (ht : t.mdc.mode = .run) : s.mdc.mode = .run := by
  obtain hsame | ⟨hrun, -⟩ := h
  · exact hsame ▸ ht
  · exact hrun

theorem ModeDrops.lockout_iff {s t : State} (h : ModeDrops s t) : t.mdc.mode = .lockout ↔ s.mdc.mode = .lockout := by
  obtain hsame | ⟨hrun, hhold⟩ := h
  · rw [hsame]
  · rw [hrun, hhold]
    decide

theorem enterHold_drops (s : State) : ModeDrops s (enterHold s) := by
  unfold enterHold
  split
  · next hrun => exact .inr ⟨hrun, rfl⟩
  · exact .refl s

/-- Every tracker stays, or has tripped with a reason and taken the shaft out of RUN (R32). -/
structure Tripping (s t : State) : Prop where
  drops : ModeDrops s t
  tracker : ∀ f, t.tracker f = s.tracker f ∨
    ((t.tracker f).state = .tripped ∧ (t.tracker f).reasons ≠ 0 ∧ t.mdc.mode ≠ .run)

theorem Tripping.mode {s t : State} (h : Tripping s t) : t.mdc.mode = .run → s.mdc.mode = .run := h.drops.run

theorem Tripping.of_ftk {s t : State} (hftk : t.ftk = s.ftk) (hmode : t.mdc.mode = s.mdc.mode) : Tripping s t :=
  ⟨.inl hmode, fun f => .inl (by unfold State.tracker; rw [hftk])⟩

theorem Tripping.refl (s : State) : Tripping s s := .of_ftk rfl rfl

theorem Tripping.trans {s t u : State} (h1 : Tripping s t) (h2 : Tripping t u) : Tripping s u := by
  refine ⟨h1.drops.trans h2.drops, fun f => ?_⟩
  obtain hsame | htripped := h2.tracker f
  · obtain hsame' | ⟨hstate, hreasons, hmode⟩ := h1.tracker f
    · exact .inl (hsame.trans hsame')
    · exact .inr ⟨hsame ▸ hstate, hsame ▸ hreasons, mt h2.mode hmode⟩
  · exact .inr htripped

theorem InventoryFrame.tripping {s t : State} (h : InventoryFrame s t) : Tripping s t := by
  unfold InventoryFrame at h
  rw [h]
  exact .of_ftk rfl rfl

theorem EndFrame.tripping {s t : State} (h : EndFrame s t) : Tripping s t := by
  unfold EndFrame at h
  rw [h]
  exact .of_ftk rfl rfl

theorem Tripping.raiseOn {s t : State} (h : Tripping s t) (who : Role → Bool) (e : Event) :
    Tripping s (t.raiseOn who e) := h.trans (.of_ftk rfl rfl)

theorem or_ne_zero {a b : BitVec 16} (h : b ≠ 0) : a ||| b ≠ 0 := by
  intro hor
  exact h (BitVec.or_eq_zero_iff.1 hor).2

theorem trip_drops (f : Frame) (r : BitVec 16) (s : State) : ModeDrops s (trip f r s) := by
  have hmoved : ModeDrops s (moveTracker f ((s.tracker f).trip r) s) := .inl (by rw [moveTracker_frame])
  exact hmoved.trans (enterHold_drops _)

theorem trip_tripping (f : Frame) {r : BitVec 16} (hr : r ≠ 0) (s : State) : Tripping s (trip f r s) := by
  obtain ⟨hself, hother, hmode⟩ := trip_tracker f r s
  refine ⟨trip_drops f r s, fun g => ?_⟩
  obtain rfl | rfl : g = f ∨ g = f.other := by cases f <;> cases g <;> simp [Frame.other]
  · exact .inr ⟨by rw [hself], by rw [hself]; exact or_ne_zero hr, hmode⟩
  · exact .inl hother

theorem TripReason.bit_ne_zero (r : TripReason) : r.bit ≠ 0 := by
  cases r <;> decide

theorem endAbandoned_tripping (f : Frame) (b : Bool) (s : State) : Tripping s (endAbandoned f b s) := by
  unfold endAbandoned
  split
  · next t _ =>
    have hclear : Tripping s (clearContext f (t.result .abandoned t.cause b) s) := .of_ftk rfl rfl
    exact hclear.raiseOn _ _
  · exact .refl s

theorem endCompleted_tripping (f : Frame) (b : Bool) (s : State) : Tripping s (endCompleted f b s) := by
  unfold endCompleted
  split
  · next t _ =>
    have hclear : Tripping s (clearContext f (t.result .completed .none b) s) := .of_ftk rfl rfl
    exact (hclear.trans (advanceTask_frame _ _ _).tripping).raiseOn _ _
  · exact .refl s

theorem tripForCause_tripping (f : Frame) (c : Cause) (s : State) : Tripping s (tripForCause f c s) := by
  unfold tripForCause
  split
  · exact trip_tripping f (TripReason.bit_ne_zero _) s
  · exact .refl s

theorem endFailed_tripping (f : Frame) (t : Transfer) (c : Cause) (s : State) : Tripping s (endFailed f t c s) := by
  have hclear : Tripping s (clearContext f (t.result .failed c false) s) := .of_ftk rfl rfl
  unfold endFailed
  exact ((hclear.trans (tripForCause_tripping f c _)).trans (failTask_frame _ _ _).tripping).raiseOn _ _

theorem forTask_tripping {s : State} (id : Nat) (change : State → State) (h : Tripping s (change s)) :
    Tripping s (forTask id change s) :=
  h.trans (.of_ftk rfl rfl)

theorem setTimedOut_tripping (k : Nat) (v : Bool) (s : State) : Tripping s (setTimedOut k v s) := .of_ftk rfl rfl

theorem failRunning_tripping (f : Frame) (c : Cause) (s : State) : Tripping s (failRunning f c s) := by
  unfold failRunning
  split
  · next t _ =>
    have hlost := (forTask_tripping t.task (loseMass t.mass) (loseMass_inventory t.mass s).tripping).trans
      (setLandingInService_inventory t.landing false _).tripping
    simp only []
    split
    · exact (hlost.trans (setTimedOut_tripping _ true _)).trans (endFailed_tripping f t c _)
    · exact hlost.trans (endFailed_tripping f t c _)
  · exact .refl s

theorem failVerifying_tripping (f : Frame) (c : Cause) (s : State) : Tripping s (failVerifying f c s) := by
  unfold failVerifying
  split
  · next t _ =>
    exact (forTask_tripping t.task (loseMass t.mass) (loseMass_inventory t.mass s).tripping).trans
      (endFailed_tripping f t c _)
  · exact .refl s

theorem saveFor_tripping (f : Frame) (c : Change) {told : State → State} {s : State} (h : Tripping s (told s)) :
    Tripping s (saveFor f c told s) := by
  unfold saveFor
  split
  · exact h
  · exact (saveRequest_inventory _ s).tripping

theorem enterAbandoning_tripping (f : Frame) (c : Cause) (s : State) : Tripping s (enterAbandoning f c s) := by
  unfold enterAbandoning
  split
  · next t _ =>
    have habandon : Tripping s (s.setTransfer f (some { t with phase := .abandoning, cause := c })) := .of_ftk rfl rfl
    exact ((habandon.trans (forTask_tripping _ _ (restoreMass_inventory _ _ _).tripping)).trans
      (restoreTask_frame _ _ _).tripping).trans (saveFor_tripping _ _ (endAbandoned_tripping _ _ _))
  · exact .refl s

theorem verify_tripping (f : Frame) (r : Report) (s : State) : Tripping s (verify f r s) := by
  unfold verify
  split
  · next t _ =>
    split
    · have hfinish : Tripping s ((forTask t.task (verifiedMass f t) s).setTransfer f
          (some { t with phase := .finishing })) :=
        (forTask_tripping t.task (verifiedMass f t) (verifiedMass_inventory f t s).tripping).trans (.of_ftk rfl rfl)
      exact hfinish.trans (saveFor_tripping _ _ (endCompleted_tripping _ _ _))
    · exact failVerifying_tripping _ _ _
  · exact .refl s

theorem brakeReleased_tripping (f : Frame) (x : XPhase) (s : State) : Tripping s (brakeReleased f x s) := by
  cases x
  · exact enterAbandoning_tripping _ _ _
  · exact failRunning_tripping _ _ _
  · exact .refl s
  · exact failVerifying_tripping _ _ _
  · exact .refl s

theorem askBrakeTrip_tripping (f : Frame) (s : State) : Tripping s (askBrakeTrip f s) := by
  unfold askBrakeTrip
  split
  · exact .refl s
  · exact trip_tripping f (TripReason.bit_ne_zero _) s

theorem reportToTransfer_tripping (f : Frame) (r : Report) (b : Bool) (s : State) :
    Tripping s (reportToTransfer f r b s) := by
  unfold reportToTransfer
  split
  · split
    · exact (askBrakeTrip_tripping f s).trans (brakeReleased_tripping _ _ _)
    · split
      · exact verify_tripping _ _ _
      · exact .refl s
  · exact .refl s

theorem saveAnswered_tripping (w : Waiter) (b : Bool) (s : State) : Tripping s (saveAnswered w b s) := by
  unfold saveAnswered
  split
  · split
    · unfold commitAnswered
      split
      · exact .of_ftk rfl rfl
      · exact enterAbandoning_tripping _ _ _
    · exact endAbandoned_tripping _ _ _
    · exact endCompleted_tripping _ _ _
    · exact .refl s
  · exact .refl s

theorem tellAll_tripping (ws : List Waiter) (b : Bool) (s : State) : Tripping s (tellAll ws b s) := by
  unfold tellAll
  induction ws generalizing s with
  | nil => exact .refl s
  | cons w ws ih => exact (saveAnswered_tripping w b s).trans (ih _)

theorem stopNotice_tripping (f : Frame) (s : State) : Tripping s (stopNotice f s) := by
  unfold stopNotice
  split
  · split
    · exact enterAbandoning_tripping _ _ _
    · exact failRunning_tripping _ _ _
    · exact .refl s
  · exact .refl s

theorem unexpectedEdge_tripping (k : Nat) (b : Bool) (s : State) : Tripping s (unexpectedEdge k b s) := by
  unfold unexpectedEdge
  simp only []
  refine Tripping.raiseOn ?_ _ _
  split
  · split <;> exact .of_ftk rfl rfl
  · exact .refl s

theorem gdoneEdge_tripping (k : Nat) (s : State) : Tripping s (gdoneEdge k s) := by
  unfold gdoneEdge
  split
  · unfold gearDone
    split
    · exact .of_ftk rfl rfl
    · exact .refl s
  · exact unexpectedEdge_tripping _ _ _

theorem gfltEdge_tripping (k : Nat) (s : State) : Tripping s (gfltEdge k s) := by
  unfold gfltEdge
  split
  · exact failRunning_tripping _ _ _
  · exact unexpectedEdge_tripping _ _ _

/-! ### Grants and ARB through the operations of FTK, MDC and XFC -/

/-- An operation of XFC leaves grants and ARB, and makes no frame UNKNOWN. -/
theorem TransferFrame.grid {s t : State} (h : TransferFrame s t) (htrip : Tripping s t) : GridKept s t := by
  refine .of_same (by rw [h]) (fun f => by rw [h]; rfl) fun f hf => ?_
  obtain hsame | ⟨hstate, -, -⟩ := htrip.tracker f
  · exact hsame ▸ hf
  · rw [hstate] at hf
    cases hf

theorem changeMode_grid (m : Mode) (s : State) : GridKept s (changeMode m s) := .of_blocks rfl rfl rfl

theorem enterHold_grid (s : State) : GridKept s (enterHold s) := by
  unfold enterHold
  split
  · exact changeMode_grid .hold s
  · exact .refl s

theorem setTracker_grid {f : Frame} {n : Tracker} {s : State}
    (h : n.state = .unknown → (s.tracker f).state = .unknown) : GridKept s (s.setTracker f n) :=
  .of_same rfl (fun _ => rfl) fun g hg => by
    have htracker : (s.setTracker f n).tracker g = if g = f then n else s.tracker g := Pair.get_set _ _ _ _
    rw [htracker] at hg
    split at hg
    · next hgf => subst hgf; exact h hg
    · exact hg

theorem moveTracker_grid {f : Frame} {n : Tracker} {s : State}
    (h : n.state = .unknown → (s.tracker f).state = .unknown) : GridKept s (moveTracker f n s) := by
  unfold moveTracker
  split
  · exact setTracker_grid h
  · exact (setTracker_grid h).raiseOn _ _

theorem trip_grid (f : Frame) (r : BitVec 16) (s : State) : GridKept s (trip f r s) :=
  (moveTracker_grid (n := (s.tracker f).trip r) nofun).trans (enterHold_grid _)

theorem tripOr_grid {f : Frame} {r : BitVec 16} {next : State → State} {s : State} (h : GridKept s (next s)) :
    GridKept s (tripOr f r next s) := by
  unfold tripOr
  split
  · exact h
  · exact trip_grid f r s

theorem reportToTransfer_grid (f : Frame) (r : Report) (b : Bool) (s : State) : GridKept s (reportToTransfer f r b s) :=
  (reportToTransfer_transfer f r b s).grid (reportToTransfer_tripping f r b s)

theorem reportToGrants_grid (f : Frame) (recovery : Bool) (s : State) : GridKept s (reportToGrants f recovery s) := by
  have harrive (t : State) : GridKept t (arrive f t) := by
    unfold arrive
    split
    · exact clearRequest_grid f .arrived t
    · exact .refl t
  exact ((trim_grid f s).trans (harrive _)).trans (askRoundIf_grid _ _)

theorem settleReport_grid (f : Frame) (r : Report) (s : State) : GridKept s (settleReport f r s) := by
  unfold settleReport
  split
  · exact reportToGrants_grid f false s
  · split
    · exact (moveTracker_grid (n := { s.tracker f with state := .tracked }) nofun).trans (reportToGrants_grid f true _)
    · exact .refl s
  · exact .refl s

theorem acceptReport_grid (f : Frame) (r : Report) (s : State) : GridKept s (acceptReport f r s) :=
  setTracker_grid id

theorem countRejection_grid (f : Frame) (s : State) : GridKept s (countRejection f s) := setTracker_grid id

theorem acquire_grid (f : Frame) (r : Report) (s : State) : GridKept s (acquire f r s) := by
  refine (acceptReport_grid f r s).trans ?_
  unfold acquire
  dsimp only
  generalize acceptReport f r s = t
  split
  · next hfree =>
    rw [canAcquire, Bool.and_eq_true, ownSide_iff] at hfree
    have htracker := moveTracker_tracker f
    refine GridKept.trans (t := setTracking f .tracked ((t.setGrant f (some (reportEnvelope t f r))).raiseWinder f
      .grantChanged)) ⟨fun ha => ?_, fun ht => ?_⟩ (tripOr_grid (askRound_grid _))
    · unfold setTracking
      rw [moveTracker_frame]
      exact ha
    unfold setTracking
    refine ht.of_regrant (n := reportEnvelope t f r) ?_ ?_ (reportEnvelope_run t f r) hfree.2 ?_ ?_
    · rw [moveTracker_frame]
      exact Pair.get_set_self _ _ _
    · rw [moveTracker_frame]
      exact Pair.get_set_other _ _ _
    · rw [htracker, if_pos rfl]
      exact nofun
    · rw [htracker, if_neg (by cases f <;> exact nofun)]
      exact id
  · exact trip_grid f _ t

theorem takeReport_grid (f : Frame) (r : Report) (s : State) : GridKept s (takeReport f r s).1 := by
  unfold takeReport
  split
  · exact .refl s
  split
  · split
    · exact acquire_grid f r s
    · exact .refl s
  · split
    · exact (acceptReport_grid f r s).trans (reportToTransfer_grid f r false _)
    · exact countRejection_grid f s
  · split
    · exact ((acceptReport_grid f r s).trans (tripOr_grid (settleReport_grid f r _))).trans
        (reportToTransfer_grid f r _ _)
    · refine (countRejection_grid f s).trans ?_
      unfold rejectReport
      dsimp only
      split
      · exact trip_grid f _ _
      · exact .refl _

theorem placeRequest_grid (f : Frame) (t : Travel) (s : State) : GridKept s (placeRequest f t s) := by
  have hrequest : GridKept s (s.setRequest f (some t)) := .of_blocks rfl rfl rfl
  exact hrequest.trans (setBlocked_grid f false _)

theorem requestTravel_grid (f : Frame) (target : Nat) (s : State) : GridKept s (requestTravel f target s).1 := by
  have hstore (t : Travel) : GridKept s (storeTravel f t s).drive :=
    (((placeRequest_grid f t s).trans (trim_grid f _)).trans (askRound_grid _)).drive
  unfold requestTravel
  split
  · exact .refl s
  split
  · exact .refl s
  split
  · exact .refl s
  split
  · exact .refl s
  split
  · exact .refl s
  split
  · exact .refl s
  unfold takeTravel
  split
  · exact hstore _
  split
  · exact hstore _
  split
  · exact (((trimTo_grid f _ _ s).trans (placeRequest_grid f _ _)).trans (askRound_grid _)).drive
  · exact .refl s

theorem releaseTravel_grid (f : Frame) (s : State) : GridKept s (releaseTravel f s).1 := by
  unfold releaseTravel
  split
  · exact .refl s
  · exact ((clearRequest_grid f .released s).trans (askRoundIf_grid _ _)).drive

/-! ### TRANSFER -/

theorem reserveZones_grid {f : Frame} {r : Run} {s t : State} (h : reserveZones f r s = some t) : GridKept s t := by
  unfold reserveZones at h
  split at h
  · next g hg =>
    dsimp only at h
    split at h
    · next hzones =>
      cases h
      split
      · exact .refl s
      · refine GridKept.raiseOn (setGrant_grid hg (fun hs => ?_) fun hs => ?_) _ _
        · have hrun := hs.run f g hg
          rw [hull_lo, hull_hi]
          omega
        · refine ownSide_of_widened hs hg (Nat.min_le_left _ _) (Nat.le_max_left _ _) fun z hlo hhi => ?_
          have hz := List.all_eq_true.1 hzones z ((mem_zones _ z).2 ⟨hlo, hhi⟩)
          simpa [zoneFreeOrOwn] using hz
    · cases h
  · cases h

theorem acceptTransfer_grid (f : Frame) (t : Transfer) (s : State) : GridKept s (acceptTransfer f t s) := by
  have hcontext : TransferFrame s (s.setTransfer f (some t)) := rfl
  have hcommit (u : State) : InventoryFrame u (commitMass t.mass t.bay f u) := putMass_inventory _ _ u
  have htransfer : TransferFrame s (acceptTransfer f t s) :=
    ((hcontext.trans (forTask_transfer _ _ (hcommit _).toTransfer)).trans (commitTask_frame _ _ _ _).toTransfer).trans
      (saveRequest_inventory _ _).toTransfer
  have hcontext' : Tripping s (s.setTransfer f (some t)) := .of_ftk rfl rfl
  exact htransfer.grid (((hcontext'.trans (forTask_tripping _ _ (hcommit _).tripping)).trans
    (commitTask_frame _ _ _ _).tripping).trans (saveRequest_inventory _ _).tripping)

theorem requestTransfer_grid (f : Frame) (s : State) : GridKept s (requestTransfer f s).1 := by
  unfold requestTransfer
  split
  · exact .refl s
  split
  · exact .refl s
  split
  · exact .refl s
  split
  · split
    · exact .refl s
    split
    · exact .refl s
    split
    · exact .refl s
    · unfold startTransfer
      split
      · exact .refl s
      · split
        · exact .refl s
        · next hreserved => exact ((reserveZones_grid hreserved).trans (acceptTransfer_grid f _ _)).drive
  · exact .refl s

/-! ### Modes, trips and tuning -/

theorem reformGrant_apart {s : State} (hs : GrantsApart s) {f : Frame} {e : Run} (hrun : e.lo ≤ e.hi)
    (hside : OnOwnSide s f e) (hknown : (s.tracker f).state ≠ .unknown) : GrantsApart (reformGrant f e s) := by
  rw [reformGrant_frame]
  exact hs.of_regrant (Pair.get_set_self _ _ _) (Pair.get_set_other _ _ _) hrun hside hknown id

theorem clearTripped_grid {f : Frame} {e : Run} {s : State} (hrun : e.lo ≤ e.hi) (hside : OnOwnSide s f e) :
    GridKept s (clearTripped f e s) := by
  refine GridKept.trans ?_ (askRound_grid _)
  have hmoved : GridKept s (moveTracker f { s.tracker f with state := .tracked, reasons := 0 } s) :=
    moveTracker_grid nofun
  refine ⟨fun h => ?_, fun h => ?_⟩
  · rw [reformGrant_frame]
    exact hmoved.arb h
  · refine reformGrant_apart (hmoved.grants h) hrun ?_ ?_
    · rw [moveTracker_frame]
      exact hside
    · rw [moveTracker_tracker, if_pos rfl]
      exact nofun

theorem clearTripOf_grid (f : Frame) (s : State) : GridKept s (clearTripOf f s).1 := by
  unfold clearTripOf
  split
  · exact .refl s
  split
  · exact .refl s
  split
  · exact .refl s
  split
  · exact .refl s
  split
  · exact .refl s
  generalize firstMass s (barsClearing f) = barring
  cases barring with
  | some id => exact .refl s
  | none =>
    simp only []
    split
    · next hreform =>
      rw [mayReform, Bool.and_eq_true, ownSide_iff] at hreform
      exact (clearTripped_grid (reportEnvelope_run s _ _) hreform.2).drive
    · exact .refl s

theorem clearTrip_grid (n : Nat) (s : State) : GridKept s (clearTrip n s).1 := by
  unfold clearTrip
  split
  · exact .refl s
  split
  · exact .refl s
  split
  · exact .refl s
  · exact .refl s
  · exact .refl s
  · exact clearTripOf_grid _ s

theorem releaseGrant_grid (f : Frame) (s : State) : GridKept s (releaseGrant f s) := by
  have hcleared : GridKept s (if (s.request f).isSome then clearRequest f .cleared s else s) := by
    split
    · exact clearRequest_grid f .cleared s
    · exact .refl s
  have hnone (t : State) : GridKept t (t.setGrant f none) := by
    refine ⟨id, fun h => ?_⟩
    have hgrant (g : Frame) : (t.setGrant f none).grant g = if g = f then none else t.grant g := Pair.get_set _ _ _ _
    refine ⟨fun g r hr => ?_, fun u l hu hl => ?_, fun g hg => ?_⟩
    · rw [hgrant] at hr
      split at hr
      · cases hr
      · exact h.run g r hr
    · rw [hgrant] at hu hl
      split at hu
      · cases hu
      split at hl
      · cases hl
      exact h.apart u l hu hl
    · rw [hgrant]
      split
      · rfl
      · exact h.unknown g hg
  unfold releaseGrant
  dsimp only
  generalize (if (s.request f).isSome then clearRequest f .cleared s else s) = t at hcleared ⊢
  split
  · exact (hcleared.trans (hnone _)).raiseOn _ _
  · exact hcleared

theorem releaseGrant_grant (f : Frame) (s : State) : (releaseGrant f s).grant f = none := by
  unfold releaseGrant
  dsimp only
  generalize (if (s.request f).isSome then clearRequest f .cleared s else s) = t
  split
  · exact Pair.get_set_self t.gru.grants f none
  · next h => simpa using h

theorem releaseGrant_grant_other (f : Frame) {s : State} (h : s.grant f.other = none) :
    (releaseGrant f s).grant f.other = none := by
  have hcleared : (if (s.request f).isSome then clearRequest f .cleared s else s).grant f.other = none := by
    split
    · unfold clearRequest
      dsimp only
      rw [if_pos rfl, takePendingTuning_frame]
      exact h
    · exact h
  unfold releaseGrant
  dsimp only
  generalize (if (s.request f).isSome then clearRequest f .cleared s else s) = t at hcleared ⊢
  split
  · exact (Pair.get_set_other t.gru.grants f none).trans hcleared
  · exact hcleared

theorem endQueue_end (f : Frame) (s : State) : EndFrame s (endQueue f s) := by
  unfold endQueue
  generalize s.tku.queues.get f = q
  induction q generalizing s with
  | nil => rfl
  | cons id q ih => exact (EndFrame.trans (addTaskReasons_frame id _ s) (endTask_frame id _ _ _)).trans (ih _)

/-- Where no frame holds a grant, the trackers may go back to UNKNOWN. -/
theorem resetTracker_grid {s : State} (h : ∀ g, s.grant g = none) (f : Frame) : GridKept s (resetTracker f s) := by
  have hgrant (g : Frame) : (resetTracker f s).grant g = none := by
    unfold resetTracker
    rw [moveTracker_frame]
    exact h g
  refine ⟨fun ha => ?_, fun _ => ⟨fun g r hr => ?_, fun u l hu _ => ?_, fun g _ => hgrant g⟩⟩
  · unfold resetTracker
    rw [moveTracker_frame]
    exact ha
  · rw [hgrant] at hr
    cases hr
  · rw [hgrant] at hu
    cases hu

theorem enterLockout_grid (s : State) : GridKept s (enterLockout s) := by
  have hmode : GridKept s (setMode .lockout s) := .of_blocks rfl rfl rfl
  have hreleased := (hmode.trans (releaseGrant_grid .U _)).trans (releaseGrant_grid .L _)
  have hnone : ∀ g, (releaseGrant .L (releaseGrant .U (setMode .lockout s))).grant g = none := fun g => by
    cases g with
    | U => exact releaseGrant_grant_other .L (releaseGrant_grant .U _)
    | L => exact releaseGrant_grant .L _
  have hreset : ∀ g, (resetTracker .U (releaseGrant .L (releaseGrant .U (setMode .lockout s)))).grant g = none :=
    fun g => by
      unfold resetTracker
      rw [moveTracker_frame]
      exact hnone g
  unfold enterLockout
  dsimp only
  exact ((((hreleased.trans (resetTracker_grid hnone .U)).trans (resetTracker_grid hreset .L)).trans
    (endQueue_end .U _).desk.grid).trans (endQueue_end .L _).desk.grid).raiseOn _ _

theorem requestHold_grid (s : State) : GridKept s (requestHold s).1 := by
  unfold requestHold
  split
  · exact (enterHold_grid s).drive
  · exact .refl s
  · exact .refl s

theorem requestResume_grid (s : State) : GridKept s (requestResume s).1 := by
  unfold requestResume
  split
  · exact .refl s
  split
  · exact .refl s
  split
  · exact .refl s
  split
  · exact .refl s
  split
  · exact .refl s
  split
  · exact .refl s
  split
  · exact .refl s
  · exact ((changeMode_grid .run s).trans (askRound_grid _)).drive

theorem requestLockout_grid (s : State) : GridKept s (requestLockout s).1 := by
  unfold requestLockout
  split
  · exact .refl s
  split
  · exact .refl s
  split
  · exact .refl s
  · exact (enterLockout_grid s).drive

theorem requestUnlock_grid (s : State) : GridKept s (requestUnlock s).1 := by
  unfold requestUnlock
  split
  · exact .refl s
  split
  · exact .refl s
  split
  · exact .refl s
  split
  · exact .refl s
  · exact (changeMode_grid .hold s).drive

theorem acknowledgeStop_grid (s : State) : GridKept s (acknowledgeStop s).1 := by
  unfold acknowledgeStop
  split <;> exact .of_blocks rfl rfl rfl

theorem setSurveyItem_grid (c i v : Nat) (s : State) : GridKept s (setSurveyItem c i v s).1 := by
  unfold setSurveyItem
  split
  · exact .refl s
  split
  · exact .refl s
  split <;> exact .of_blocks rfl rfl rfl

theorem tableFits_sized {x : TuningParts} (h : x.tableFits = true) :
    tableSized (x.tableEntries.map entryFrame).length := by
  rw [TuningParts.tableFits, Bool.and_eq_true, Bool.and_eq_true, decide_eq_true_iff, decide_eq_true_iff] at h
  obtain ⟨⟨hlow, hlen⟩, -⟩ := h
  rw [List.length_map]
  refine ⟨hlow, ?_⟩
  have htake : x.tableEntries.length ≤ x.len := by
    unfold TuningParts.tableEntries
    rw [List.length_take]
    exact Nat.min_le_left _ _
  omega

theorem setTuning_grid (x : TuningParts) (s : State) : GridKept s (setTuning x s).1 := by
  unfold setTuning
  split
  · exact .refl s
  · next hfits =>
    have htuning : GridKept s (s.setSvt { s.svt with tuning := ⟨tunedFrame s x .U, tunedFrame s x .L⟩ }) :=
      .of_blocks rfl rfl rfl
    have happly : GridKept s (applyTuning x s) := htuning.trans (setArb_grid fun h => applyTable_fits h _ fun t ht => by
      unfold tuningTable TuningParts.part at ht
      split at ht
      · next hpresent =>
        cases ht
        exact tableFits_sized (by simpa [hpresent] using hfits)
      · cases ht)
    exact (happly.trans (askRoundIf_grid _ _)).drive

theorem requestBody_grid (i : Instr) (s : State) : GridKept s (requestBody i s).1 :=
  requestBody_induct (fun _ h => h.frame.grid) (fun f _ _ _ _ => (takeReport_grid f _ s).drive)
    (fun f target => requestTravel_grid f target s) (fun f => releaseTravel_grid f s)
    (fun f => requestTransfer_grid f s) (requestHold_grid s) (requestResume_grid s) (requestLockout_grid s)
    (requestUnlock_grid s) (acknowledgeStop_grid s) (fun n => clearTrip_grid n s) (fun x => setTuning_grid x s)
    (fun c i v => setSurveyItem_grid c i v s) i

/-! ### Expiries, the stop chain and the store -/

theorem stalenessEnds_grid (f : Frame) (s : State) : GridKept s (stalenessEnds f s) := by
  have htimer : GridKept s (s.setTracker f { s.tracker f with timer := none }) := setTracker_grid id
  unfold stalenessEnds
  dsimp only
  split
  · exact htimer.trans (moveTracker_grid nofun)
  · exact htimer

theorem assertStop_grid (s : State) : GridKept s (assertStop s) := by
  have hstop : GridKept s ((s.setMdc { s.mdc with stopN := true, latch := true }).raiseWatchers .stopSeen) :=
    .of_blocks rfl rfl rfl
  exact ((hstop.trans (enterHold_grid _)).trans ((stopNotice_transfer .U _).grid (stopNotice_tripping .U _))).trans
    ((stopNotice_transfer .L _).grid (stopNotice_tripping .L _))

theorem tellAll_transfer (ws : List Waiter) (b : Bool) (s : State) : TransferFrame s (tellAll ws b s) := by
  unfold tellAll
  induction ws generalizing s with
  | nil => rfl
  | cons w ws ih => exact (saveAnswered_transfer w b s).trans (ih _)

theorem tellAll_grid (ws : List Waiter) (b : Bool) (s : State) : GridKept s (tellAll ws b s) :=
  (tellAll_transfer ws b s).grid (tellAll_tripping ws b s)

theorem inventoryWriteCompleted_grid (s : State) : GridKept s (inventoryWriteCompleted s) := by
  have hsettle : GridKept s (settleSave .clean s) := .of_blocks rfl rfl rfl
  unfold inventoryWriteCompleted
  split
  · exact hsettle.trans (tellAll_grid _ _ _)
  · exact (tellAll_grid _ _ s).trans (.of_blocks rfl rfl rfl)
  · exact .refl s
  · exact .refl s

theorem inventoryWriteFailed_grid (s : State) : GridKept s (inventoryWriteFailed s) := by
  have hsettle : GridKept s (settleSave .notSaved s) := .of_blocks rfl rfl rfl
  have hfailed : GridKept s (enterNotSaved s) :=
    ((hsettle.trans (tellAll_grid _ false _)).raiseOn isWatcher .storeFault).trans (enterHold_grid _)
  unfold inventoryWriteFailed
  split
  · exact hfailed
  · exact hfailed
  · exact .refl s
  · exact .refl s

end Sys2Proof.Machine
end

section
/-! SUPPORT. O9, O10: the ends of store operations, start-up, and the two statements. -/

namespace Sys2Proof.Machine

/-! ### The grants (O9) -/

/-- Grants on no frame stay apart. -/
theorem grantsApart_of_none {s : State} (h : ∀ f, s.grant f = none) : GrantsApart s :=
  ⟨fun f _ hg => absurd (hg.symm.trans (h f)) nofun, fun _ _ hu _ => absurd (hu.symm.trans (h .U)) nofun, fun f _ => h f⟩

theorem grantsApart_blind : LineBlind GrantsApart :=
  fun _ _ _ _ _ _ _ _ ⟨h1, h2, h3⟩ => ⟨h1, h2, h3⟩

theorem setSti_grid (s : State) (x : Sti) : GridKept s (s.setSti x) := .of_blocks rfl rfl rfl

theorem takeOverSurvey_grants (s : State) : GrantsApart (takeOverSurvey s) := by
  unfold takeOverSurvey
  dsimp only
  rw [saveRequest_frame]
  exact grantsApart_of_none fun f => by cases f <;> rfl

theorem loadSurvey_grants (found : Option Survey) (s : State) : GrantsApart (loadSurvey found s) :=
  grantsApart_of_none fun f => by cases f <;> rfl

theorem surveySaveFailed_grid (s : State) : GridKept s (surveySaveFailed s) := .of_blocks rfl rfl rfl

/-- The end of a write attempt is a new attempt, or the end of the write with its block told (R176). -/
theorem attemptEnds_induct {P : State → Prop} {r : Region} {slot : Slot} {g : BitVec 32} {good : Bool} {s : State}
    (again : P (s.setSti { s.sti with attempts := s.sti.attempts + 1 }))
    (ended : ∀ x completed, P (tellWriteEnd r completed (s.setSti x))) : P (attemptEnds r slot g good s) := by
  unfold attemptEnds
  split
  · exact ended _ true
  split
  · exact again
  · exact ended _ false

theorem tellWriteEnd_grants (r : Region) (completed : Bool) {s : State} (hs : GrantsApart s) :
    GrantsApart (tellWriteEnd r completed s) := by
  unfold tellWriteEnd
  split
  · exact takeOverSurvey_grants s
  · exact (surveySaveFailed_grid s).grants hs
  · exact (inventoryWriteCompleted_grid s).grants hs
  · exact (inventoryWriteFailed_grid s).grants hs

theorem enterMode_grid (s : State) : GridKept s (enterMode s) :=
  (changeMode_grid (startMode s) s).trans (.of_blocks (t := enterMode s) rfl rfl rfl)

theorem inventoryRead_grid (chosen : Option (Slot × BitVec 32 × List Byte)) (s : State) :
    GridKept s (enterMode (loadInventory chosen (endRead .inventory chosen s))) := by
  have hread : GridKept s (endRead .inventory chosen s) := .of_blocks rfl rfl rfl
  exact (hread.trans (loadInventory_inventory chosen _).desk.grid).trans (enterMode_grid _)

theorem afterStraps_grants (sound : Bool) (roles : List Role) (stop : Bool) (q : List Instr) (f : Frame) :
    (afterStraps sound (sampled roles stop q)).grant f = none := by
  cases sound <;> cases f <;> rfl

theorem grantsApart_kept : OperationsKeep GrantsApart where
  blind := grantsApart_blind
  request i s _ := (requestBody_grid i s).grants
  staleness f s := (stalenessEnds_grid f s).grants
  timer f s _ := ((failRunning_transfer f .transferTimeout s).grid (failRunning_tripping f _ s)).grants
  stop s := (assertStop_grid s).grants
  release _ := GridKept.grants (.of_blocks rfl rfl rfl)
  done k s := ((gdoneEdge_transfer k s).grid (gdoneEdge_tripping k s)).grants
  fault k s := ((gfltEdge_transfer k s).grid (gfltEdge_tripping k s)).grants
  reset sound roles stop q := grantsApart_of_none (afterStraps_grants sound roles stop q)
  survey chosen s _ _ :=
    GridKept.grants (s := loadSurvey (startSurvey chosen) (endRead .survey chosen s)) (.of_blocks rfl rfl rfl)
      (loadSurvey_grants _ _)
  inventory chosen s _ := (inventoryRead_grid chosen s).grants
  attempt r _ _ _ _ s _ hs := attemptEnds_induct ((setSti_grid s _).grants hs)
    fun _ completed => tellWriteEnd_grants r completed ((setSti_grid s _).grants hs)

/-- Settles O9: every operation keeps the grants apart: a trim cuts within the grant, a round and a reservation widen it
over zones that are not the other frame's, and a frame gains its first grant on its own side. -/
theorem grantsStayApart : Obligations.GrantsStayApart := fun _ _ hs => grantsApart_kept.step hs

/-! ### The service pointer (O10) -/

theorem pointerInTable_blind : LineBlind PointerInTable :=
  fun _ _ _ _ _ _ _ _ ⟨h1, h2, h3, h4, h5⟩ => ⟨h1, h2, h3, h4, h5⟩

theorem PointerInTable.of_grid {s t : State} (hs : PointerInTable s) (h : GridKept s t)
    (hworking : t.svt.working = s.svt.working) (hedit : t.svt.edit = s.svt.edit) : PointerInTable t := by
  rw [pointerInTable_iff] at hs ⊢
  obtain ⟨harb, hw, he⟩ := hs
  exact ⟨h.arb harb, hworking ▸ hw, hedit ▸ he⟩

theorem PointerInTable.steady {s t : State} (hs : PointerInTable s) (h : GridKept s t) (hsteady : Steady s t) :
    PointerInTable t :=
  hs.of_grid h hsteady.working hsteady.edit

theorem setItem_tableLen {sv : Survey} {code index value : Nat} (h : itemAccepts code index value = true)
    (hs : tableSized sv.tableLen) : tableSized (sv.setItem code index value).tableLen := by
  unfold Survey.setItem
  split
  case h_12 =>
    simp [itemAccepts, itemIndices, itemRange] at h
    exact ⟨h.1.2, h.2⟩
  all_goals exact hs

theorem setSurveyItem_pointer {s : State} (hs : PointerInTable s) (c i v : Nat) :
    PointerInTable (setSurveyItem c i v s).1 := by
  unfold setSurveyItem
  split
  · exact hs
  split
  · exact hs
  split
  · exact hs
  · next haccepts =>
    rw [pointerInTable_iff] at hs ⊢
    obtain ⟨harb, hw, he⟩ := hs
    exact ⟨harb, hw, setItem_tableLen (by simpa using haccepts) he⟩

theorem requestBody_pointer {s : State} (hs : PointerInTable s) (i : Instr) : PointerInTable (requestBody i s).1 := by
  have hgrid := requestBody_grid i s
  obtain ⟨u, hopen, hsteady⟩ := requestBody_opened i s
  cases hopen with
  | nothing | resume | ackStop | confirm | mask | clear => exact hs.of_grid hgrid hsteady.working hsteady.edit
  | surveyItem p item index value edit => exact setSurveyItem_pointer hs _ _ _

theorem saveRequest_grid (w : List Waiter) (s : State) : GridKept s (saveRequest w s) :=
  (saveRequest_inventory w s).desk.grid

/-- The survey taken over has a service table of its size. -/
theorem takeOverSurvey_pointer {s : State} (hs : PointerInTable s) : PointerInTable (takeOverSurvey s) := by
  have hsaved : PointerInTable (takeOverSurvey s) ↔ PointerInTable (((s.setSvt
      { working := s.svt.edit, edit := s.svt.edit, state := .valid, saveOutstanding := false,
        tuning := s.svt.edit.tuning }).setArb (s.arb.adopt s.svt.edit))) := by
    unfold takeOverSurvey
    dsimp only
    rw [saveRequest_frame]
    exact ⟨fun ⟨h1, h2, h3, h4, h5⟩ => ⟨h1, h2, h3, h4, h5⟩, fun ⟨h1, h2, h3, h4, h5⟩ => ⟨h1, h2, h3, h4, h5⟩⟩
  rw [hsaved, pointerInTable_iff]
  exact ⟨adopt_fits _ hs.edit, hs.edit, hs.edit⟩

theorem passes_tableLen {sv : Survey} (h : sv.passes = true) : tableSized sv.tableLen := by
  rw [Survey.passes, Bool.and_eq_true, Survey.inRange, Bool.and_eq_true, List.all_eq_true] at h
  have haccepts : itemAccepts 0x30 0 sv.tableLen = true := h.1.1 (0x30, 0) (by decide)
  simp [itemAccepts, itemIndices, itemRange] at haccepts
  exact haccepts

theorem startSurvey_tableLen (chosen : Option (Slot × BitVec 32 × List Byte)) :
    tableSized ((startSurvey chosen).getD Survey.factory).tableLen := by
  cases h : startSurvey chosen with
  | none => exact ⟨by decide, by decide⟩
  | some sv => exact passes_tableLen (Option.mem_filter_iff.1 (h : sv ∈ startSurvey chosen)).2

theorem loadSurvey_pointer (chosen : Option (Slot × BitVec 32 × List Byte)) (s : State) :
    PointerInTable (loadSurvey (startSurvey chosen) s) := by
  have hlen := startSurvey_tableLen chosen
  exact (pointerInTable_iff _).2 ⟨adopt_fits _ hlen, hlen, hlen⟩

theorem afterStraps_pointer (sound : Bool) (roles : List Role) (stop : Bool) (q : List Instr) :
    PointerInTable (afterStraps sound (sampled roles stop q)) := by
  obtain ⟨-, -, -, hreset, -⟩ := resetMeetsTheInvariants
  obtain ⟨h1, h2, h3, h4, h5⟩ := hreset
  cases sound <;> exact ⟨h1, h2, h3, h4, h5⟩

theorem tellWriteEnd_pointer (r : Region) (completed : Bool) {s : State} (hs : PointerInTable s) :
    PointerInTable (tellWriteEnd r completed s) := by
  unfold tellWriteEnd
  split
  · exact takeOverSurvey_pointer hs
  · exact hs.steady (surveySaveFailed_grid s) (surveySaveFailed_steady s)
  · exact hs.steady (inventoryWriteCompleted_grid s) (inventoryWriteCompleted_steady s)
  · exact hs.steady (inventoryWriteFailed_grid s) (inventoryWriteFailed_steady s)

theorem pointerInTable_kept : OperationsKeep PointerInTable where
  blind := pointerInTable_blind
  request i s _ hs := requestBody_pointer hs i
  staleness f s hs := hs.steady (stalenessEnds_grid f s) (stalenessEnds_steady f s)
  timer f s _ hs := hs.steady ((failRunning_transfer f _ s).grid (failRunning_tripping f _ s)) (failRunning_steady f _ s)
  stop s hs := hs.steady (assertStop_grid s) (assertStop_steady s)
  release s hs := hs.of_grid (.of_blocks rfl rfl rfl) rfl rfl
  done k s hs := hs.steady ((gdoneEdge_transfer k s).grid (gdoneEdge_tripping k s)) (gdoneEdge_steady k s)
  fault k s hs := hs.steady ((gfltEdge_transfer k s).grid (gfltEdge_tripping k s)) (gfltEdge_steady k s)
  reset := afterStraps_pointer
  survey chosen s _ _ := (loadSurvey_pointer chosen _).of_grid (.of_blocks rfl rfl rfl) rfl rfl
  inventory chosen s _ hs := by
    have hsvt : (enterMode (loadInventory chosen (endRead .inventory chosen s))).svt = s.svt := by
      change (loadInventory chosen (endRead .inventory chosen s)).svt = s.svt
      rw [loadInventory_inventory chosen]
      rfl
    exact hs.of_grid (inventoryRead_grid chosen s) (congrArg Svt.working hsvt) (congrArg Svt.edit hsvt)
  attempt r _ _ _ _ s _ hs := attemptEnds_induct (hs.of_grid (setSti_grid s _) rfl rfl)
    fun _ completed => tellWriteEnd_pointer r completed (hs.of_grid (setSti_grid s _) rfl rfl)

/-- Settles O10: a pending table, a tuned table and a survey's default table have their sizes, and the pointer goes to 0
with each new table and cyclically in the present one. -/
theorem servicePointerStaysInItsTable : Obligations.ServicePointerStaysInItsTable :=
  fun _ _ hs => pointerInTable_kept.step hs

end Sys2Proof.Machine
end

section
/-! SUPPORT. O13: what bars RUN and the trip reasons, through every operation. -/

namespace Sys2Proof.Machine

/-! ### What every operation keeps -/

/-- A tracker with trip reasons exactly while it is TRIPPED (R32). -/
def Tracker.Reasoned (t : Tracker) : Prop := t.reasons ≠ 0 ↔ t.state = .tripped

/-- What the operations keep on their own: RUN is not entered, trip reasons stay with TRIPPED frames, and while RUN goes
on nothing comes up that bars it (R32, R149, R151). -/
structure Guarded (s t : State) : Prop where
  drops : ModeDrops s t
  reasons : TripsHaveReasons s → TripsHaveReasons t
  clear : t.mdc.mode = .run → ∀ f, (t.tracker f).state = .tripped → (s.tracker f).state = .tripped
  stop : t.mdc.mode = .run → t.mdc.stopN = s.mdc.stopN ∧ t.mdc.latch = s.mdc.latch
  inventory : t.mdc.mode = .run →
    t.inv.verified = s.inv.verified ∧ (t.inv.save = .notSaved → s.inv.save = .notSaved)

theorem Guarded.mode {s t : State} (h : Guarded s t) : t.mdc.mode = .run → s.mdc.mode = .run := h.drops.run

theorem Guarded.refl (s : State) : Guarded s s := ⟨.refl s, id, fun _ _ => id, fun _ => ⟨rfl, rfl⟩, fun _ => ⟨rfl, id⟩⟩

theorem Guarded.trans {s t u : State} (h1 : Guarded s t) (h2 : Guarded t u) : Guarded s u where
  drops := h1.drops.trans h2.drops
  reasons := h2.reasons ∘ h1.reasons
  clear hmode f := h1.clear (h2.mode hmode) f ∘ h2.clear hmode f
  stop hmode := by
    obtain ⟨hstop1, hlatch1⟩ := h1.stop (h2.mode hmode)
    obtain ⟨hstop2, hlatch2⟩ := h2.stop hmode
    exact ⟨hstop2.trans hstop1, hlatch2.trans hlatch1⟩
  inventory hmode := by
    obtain ⟨hverified1, hsave1⟩ := h1.inventory (h2.mode hmode)
    obtain ⟨hverified2, hsave2⟩ := h2.inventory hmode
    exact ⟨hverified2.trans hverified1, hsave1 ∘ hsave2⟩

/-- The two invariants of O13. -/
def TripSound (s : State) : Prop := TripsHaveReasons s ∧ RunIsClear s

theorem Guarded.sound {s t : State} (h : Guarded s t) (hs : TripSound s) : TripSound t := by
  refine ⟨h.reasons hs.1, fun hmode => ?_⟩
  obtain ⟨hstop, hlatch, hverified, hsave, htripped⟩ := hs.2 (h.mode hmode)
  obtain ⟨hstopN, hlatched⟩ := h.stop hmode
  obtain ⟨hv, hsv⟩ := h.inventory hmode
  exact ⟨hstopN.trans hstop, hlatched.trans hlatch, hv.trans hverified, fun hnot => hsave (hsv hnot),
    fun f hf => htripped f (h.clear hmode f hf)⟩

/-- Neither trackers, mode, stop chain, VERIFIED nor the save state change. -/
theorem Guarded.of_blocks {s t : State}
    (h : t = { s with
      startUp := t.startUp, ports := t.ports, svt := t.svt, gru := t.gru, arb := t.arb, tku := t.tku, xfc := t.xfc
      sti := t.sti
      mdc := { t.mdc with mode := s.mdc.mode, stopN := s.mdc.stopN, latch := s.mdc.latch }
      inv := { t.inv with verified := s.inv.verified, save := s.inv.save } }) : Guarded s t := by
  rw [h]
  exact ⟨.inl rfl, id, fun _ _ => id, fun _ => ⟨rfl, rfl⟩, fun _ => ⟨rfl, id⟩⟩

theorem Guarded.raiseOn {s t : State} (h : Guarded s t) (who : Role → Bool) (e : Event) :
    Guarded s (t.raiseOn who e) := h.trans (.of_blocks rfl)

theorem Guarded.drive {s t : State} (h : Guarded s t) : Guarded s t.drive := h.trans (.of_blocks rfl)

theorem RoundFrame.guarded {s t : State} (h : RoundFrame s t) : Guarded s t := by
  rw [h]
  exact .of_blocks rfl

theorem EndFrame.guarded {s t : State} (h : EndFrame s t) : Guarded s t := by
  rw [h]
  exact .of_blocks rfl

theorem DeskStep.guarded {s t : State} (h : DeskStep s t) : Guarded s t := by
  obtain ⟨hframe, hverified, hsave, -⟩ := h
  have hmode : t.mdc.mode = s.mdc.mode := by rw [hframe]
  have hftk : t.ftk = s.ftk := by rw [hframe]
  have htracker (f : Frame) : t.tracker f = s.tracker f := by unfold State.tracker; rw [hftk]
  refine ⟨.inl hmode, fun hr f => ?_, fun _ f => ?_, fun _ => ?_, fun hrun => ?_⟩
  · rw [htracker]
    exact hr f
  · rw [htracker]
    exact id
  · rw [hframe]
    exact ⟨rfl, rfl⟩
  · exact ⟨hverified (hmode ▸ hrun), hsave (hmode ▸ hrun)⟩

/-- Trips of XFC: trackers stay or trip with reasons, and the shaft has left RUN or nothing bars it. -/
theorem Tripping.guarded {s t : State} (h : Tripping s t)
    (hstop : t.mdc.mode = .run → t.mdc.stopN = s.mdc.stopN ∧ t.mdc.latch = s.mdc.latch)
    (hinventory : t.mdc.mode = .run →
      t.inv.verified = s.inv.verified ∧ (t.inv.save = .notSaved → s.inv.save = .notSaved)) : Guarded s t := by
  refine ⟨h.drops, fun hr f => ?_, fun hmode f hf => ?_, hstop, hinventory⟩
  · obtain hsame | ⟨hstate, hreasons, -⟩ := h.tracker f
    · rw [hsame]
      exact hr f
    · exact ⟨fun _ => hstate, fun _ => hreasons⟩
  · obtain hsame | ⟨-, -, hnot⟩ := h.tracker f
    · rwa [hsame] at hf
    · exact absurd hmode hnot

theorem Tripping.guarded_of_ne {s t : State} (h : Tripping s t) (hmode : t.mdc.mode ≠ .run) : Guarded s t :=
  h.guarded (fun hrun => absurd hrun hmode) fun hrun => absurd hrun hmode

/-! ### Modes and trackers -/

theorem enterHold_guarded (s : State) : Guarded s (enterHold s) := by
  have hnot := enterHold_not_run s
  refine ⟨enterHold_drops s, fun hr => ?_, fun h => absurd h hnot, fun h => absurd h hnot, fun h => absurd h hnot⟩
  rw [enterHold_frame]
  exact hr

theorem State.tracker_setTracker (s : State) (f g : Frame) (n : Tracker) :
    (s.setTracker f n).tracker g = if g = f then n else s.tracker g := Pair.get_set _ _ _ _

theorem setTracker_guarded {f : Frame} {n : Tracker} {s : State} (hreasons : (s.tracker f).Reasoned → n.Reasoned)
    (hclear : n.state = .tripped → (s.tracker f).state = .tripped) : Guarded s (s.setTracker f n) := by
  refine ⟨.inl rfl, fun hr g => ?_, fun _ g => ?_, fun _ => ⟨rfl, rfl⟩, fun _ => ⟨rfl, id⟩⟩
  · rw [State.tracker_setTracker]
    split
    · exact hreasons (hr f)
    · exact hr g
  · rw [State.tracker_setTracker]
    split
    · next hg => exact hg ▸ hclear
    · exact id

theorem moveTracker_guarded {f : Frame} {n : Tracker} {s : State} (hreasons : (s.tracker f).Reasoned → n.Reasoned)
    (hclear : n.state = .tripped → (s.tracker f).state = .tripped) : Guarded s (moveTracker f n s) := by
  unfold moveTracker
  split
  · exact setTracker_guarded hreasons hclear
  · exact (setTracker_guarded hreasons hclear).raiseOn _ _

theorem trip_guarded (f : Frame) {r : BitVec 16} (hr : r ≠ 0) (s : State) : Guarded s (trip f r s) :=
  (trip_tripping f hr s).guarded_of_ne (trip_tracker f r s).2.2

theorem acceptReport_guarded (f : Frame) (r : Report) (s : State) : Guarded s (acceptReport f r s) :=
  setTracker_guarded id id

/-- A frame that is not TRIPPED moves to another state that is not (R19). -/
theorem setTracking_guarded {f : Frame} {x : Tracking} {s : State} (hs : (s.tracker f).state ≠ .tripped)
    (hx : x ≠ .tripped) : Guarded s (setTracking f x s) :=
  moveTracker_guarded
    (fun h => ⟨fun hreasons => absurd (h.1 hreasons) hs, fun hstate => absurd hstate hx⟩) fun hstate => absurd hstate hx

theorem tripOr_guarded {f : Frame} {r : BitVec 16} {next : State → State} {s : State} (h : Guarded s (next s)) :
    Guarded s (tripOr f r next s) := by
  unfold tripOr
  split
  · exact h
  · next hr => exact trip_guarded f hr s

/-! ### Transfers (R137 to R146) -/

theorem putMass_guarded (id : Nat) (r : Mass) (s : State) : Guarded s (putMass id r s) := by
  rw [putMass_frame]
  exact .of_blocks rfl

theorem saveRequest_guarded (w : List Waiter) (s : State) : Guarded s (saveRequest w s) := by
  have hsave := saveRequest_notSaved (w := w) (s := s)
  rw [saveRequest_frame] at hsave ⊢
  exact ⟨.inl rfl, id, fun _ _ => id, fun _ => ⟨rfl, rfl⟩, fun _ => ⟨rfl, hsave⟩⟩

theorem saveRequestIf_guarded (b : Bool) (s : State) : Guarded s (saveRequestIf b s) := by
  unfold saveRequestIf
  split
  · exact saveRequest_guarded [] s
  · exact .refl s

theorem forTask_guarded {s : State} (id : Nat) (change : State → State) (h : Guarded s (change s)) :
    Guarded s (forTask id change s) := h.trans (.of_blocks rfl)

theorem endAbandoned_guarded (f : Frame) (b : Bool) (s : State) : Guarded s (endAbandoned f b s) := by
  unfold endAbandoned
  split
  · exact Guarded.of_blocks rfl
  · exact .refl s

theorem endCompleted_guarded (f : Frame) (b : Bool) (s : State) : Guarded s (endCompleted f b s) := by
  unfold endCompleted
  split
  · next t _ =>
    have hclear : Guarded s (clearContext f (t.result .completed .none b) s) := .of_blocks rfl
    exact (hclear.trans (advanceTask_frame _ _ _).guarded).raiseOn _ _
  · exact .refl s

theorem saveFor_guarded (f : Frame) (c : Change) {told : State → State} {s : State} (h : Guarded s (told s)) :
    Guarded s (saveFor f c told s) := by
  unfold saveFor
  split
  · exact h
  · exact saveRequest_guarded _ s

theorem restoreMass_guarded (id : Nat) (p : ReturnPlace) (s : State) : Guarded s (restoreMass id p s) := by
  cases p <;> exact putMass_guarded _ _ s

theorem verifiedMass_guarded (f : Frame) (t : Transfer) (s : State) : Guarded s (verifiedMass f t s) := by
  unfold verifiedMass
  split <;> exact putMass_guarded _ _ s

theorem enterAbandoning_guarded (f : Frame) (c : Cause) (s : State) : Guarded s (enterAbandoning f c s) := by
  unfold enterAbandoning
  split
  · next t _ =>
    have habandon : Guarded s (s.setTransfer f (some { t with phase := .abandoning, cause := c })) := .of_blocks rfl
    exact ((habandon.trans (forTask_guarded t.task _ (restoreMass_guarded t.mass t.ret _))).trans
      (restoreTask_frame t.task f _).guarded).trans (saveFor_guarded f .restore (endAbandoned_guarded f false _))
  · exact .refl s

/-- A failed transfer whose cause asks for a trip takes the shaft out of RUN (R140, R144). -/
theorem endFailed_mode {f : Frame} {t : Transfer} {c : Cause} (hc : (causeTripReason c).isSome) (s : State) :
    (endFailed f t c s).mdc.mode ≠ .run := by
  obtain ⟨r, hr⟩ := Option.isSome_iff_exists.1 hc
  have htrip (u : State) : (tripForCause f c u).mdc.mode ≠ .run := by
    unfold tripForCause
    rw [hr]
    exact (trip_tracker f r.bit u).2.2
  unfold endFailed
  dsimp only
  intro hmode
  have hfail := (failTask_frame t.task (causeTaskReason c)
    (tripForCause f c (clearContext f (t.result .failed c false) s))).tripping.raiseOn
      (fun r => r == winderRole f) .transferEnded
  exact htrip _ (hfail.mode hmode)

theorem failRunning_guarded {f : Frame} {c : Cause} (hc : (causeTripReason c).isSome) (s : State) :
    Guarded s (failRunning f c s) := by
  cases h : s.transfer f with
  | none =>
    unfold failRunning
    rw [h]
    exact .refl s
  | some t =>
    refine (failRunning_tripping f c s).guarded_of_ne ?_
    unfold failRunning
    rw [h]
    exact endFailed_mode hc _

theorem failVerifying_guarded {f : Frame} {c : Cause} (hc : (causeTripReason c).isSome) (s : State) :
    Guarded s (failVerifying f c s) := by
  cases h : s.transfer f with
  | none =>
    unfold failVerifying
    rw [h]
    exact .refl s
  | some t =>
    refine (failVerifying_tripping f c s).guarded_of_ne ?_
    unfold failVerifying
    rw [h]
    exact endFailed_mode hc _

theorem verify_guarded (f : Frame) (r : Report) (s : State) : Guarded s (verify f r s) := by
  unfold verify
  split
  · next t _ =>
    split
    · have hfinish : Guarded s ((forTask t.task (verifiedMass f t) s).setTransfer f
          (some { t with phase := .finishing })) :=
        (forTask_guarded t.task _ (verifiedMass_guarded f t s)).trans (.of_blocks rfl)
      exact hfinish.trans (saveFor_guarded f .verified (endCompleted_guarded f false _))
    · exact failVerifying_guarded rfl s
  · exact .refl s

/-- After XFC has asked for a BRAKE_RELEASED trip the shaft is not in RUN: the frame has tripped now or before. -/
theorem askBrakeTrip_sound {s : State} (hs : TripSound s) (f : Frame) :
    TripSound (askBrakeTrip f s) ∧ (askBrakeTrip f s).mdc.mode ≠ .run := by
  unfold askBrakeTrip
  split
  · next hreason =>
    refine ⟨hs, fun hmode => ?_⟩
    obtain ⟨-, -, -, -, htripped⟩ := hs.2 hmode
    refine htripped f ((hs.1 f).1 fun hzero => ?_)
    simp [hasReason, hzero] at hreason
  · exact ⟨(trip_guarded f (TripReason.bit_ne_zero _) s).sound hs, (trip_tracker f _ s).2.2⟩

theorem reportToTransfer_sound {s : State} (hs : TripSound s) (f : Frame) (r : Report) (b : Bool) :
    TripSound (reportToTransfer f r b s) := by
  unfold reportToTransfer
  split
  · next t _ =>
    split
    · obtain ⟨hsound, hmode⟩ := askBrakeTrip_sound hs f
      have hreleased := brakeReleased_tripping f t.phase (askBrakeTrip f s)
      exact (hreleased.guarded_of_ne (mt hreleased.mode hmode)).sound hsound
    · split
      · exact (verify_guarded f r s).sound hs
      · exact hs
  · exact hs

theorem saveAnswered_guarded (w : Waiter) (b : Bool) (s : State) : Guarded s (saveAnswered w b s) := by
  unfold saveAnswered
  split
  · split
    · unfold commitAnswered
      split
      · exact .of_blocks rfl
      · exact enterAbandoning_guarded _ _ s
    · exact endAbandoned_guarded _ _ s
    · exact endCompleted_guarded _ _ s
    · exact .refl s
  · exact .refl s

theorem tellAll_guarded (ws : List Waiter) (b : Bool) (s : State) : Guarded s (tellAll ws b s) := by
  unfold tellAll
  induction ws generalizing s with
  | nil => exact .refl s
  | cons w ws ih => exact (saveAnswered_guarded w b s).trans (ih _)

theorem unexpectedEdge_guarded (k : Nat) (b : Bool) (s : State) : Guarded s (unexpectedEdge k b s) := by
  unfold unexpectedEdge
  simp only []
  refine Guarded.raiseOn ?_ _ _
  split
  · split <;> exact .of_blocks rfl
  · exact .refl s

theorem gdoneEdge_guarded (k : Nat) (s : State) : Guarded s (gdoneEdge k s) := by
  unfold gdoneEdge
  split
  · unfold gearDone
    split
    · exact .of_blocks rfl
    · exact .refl s
  · exact unexpectedEdge_guarded k true s

theorem gfltEdge_guarded (k : Nat) (s : State) : Guarded s (gfltEdge k s) := by
  unfold gfltEdge
  split
  · exact failRunning_guarded rfl s
  · exact unexpectedEdge_guarded k false s

/-! ### Reports and travel (R18 to R61) -/

theorem trim_guarded (f : Frame) (s : State) : Guarded s (trim f s) := by
  rw [trim_frame]
  exact .of_blocks rfl

theorem trimTo_guarded (f : Frame) (n : Run) (d : Option Dir) (s : State) : Guarded s (trimTo f n d s) := by
  rw [trimTo_frame]
  exact .of_blocks rfl

theorem askRound_guarded (s : State) : Guarded s (askRound s) := (askRound_frame s).guarded

theorem askRoundIf_guarded (b : Bool) (s : State) : Guarded s (askRoundIf b s) := by
  unfold askRoundIf
  split
  · exact askRound_guarded s
  · exact .refl s

theorem reportToGrants_guarded (f : Frame) (recovery : Bool) (s : State) : Guarded s (reportToGrants f recovery s) := by
  have harrive (t : State) : Guarded t (arrive f t) := by
    unfold arrive
    split
    · exact (clearRequest_round f .arrived t).guarded
    · exact .refl t
  exact ((trim_guarded f s).trans (harrive _)).trans (askRoundIf_guarded _ _)

theorem settleReport_guarded (f : Frame) (r : Report) (s : State) : Guarded s (settleReport f r s) := by
  unfold settleReport
  split
  · exact reportToGrants_guarded f false s
  · next hstale =>
    split
    · exact (setTracking_guarded (x := .tracked) (by rw [hstale]; decide) (by decide)).trans
        (reportToGrants_guarded f true _)
    · exact .refl s
  · exact .refl s

theorem acquire_guarded {f : Frame} {s : State} (hs : (s.tracker f).state = .unknown) (r : Report) :
    Guarded s (acquire f r s) := by
  have hstate : ((acceptReport f r s).tracker f).state = .unknown := by
    unfold acceptReport
    rw [State.tracker_setTracker, if_pos rfl]
    exact hs
  refine (acceptReport_guarded f r s).trans ?_
  unfold acquire
  dsimp only
  generalize acceptReport f r s = t at hstate
  split
  · have hgrant : Guarded t ((t.setGrant f (some (reportEnvelope t f r))).raiseWinder f .grantChanged) := .of_blocks rfl
    have hnot : (((t.setGrant f (some (reportEnvelope t f r))).raiseWinder f .grantChanged).tracker f).state ≠ .tripped :=
      fun htripped => absurd (hstate.symm.trans htripped) (by decide)
    exact (hgrant.trans (setTracking_guarded (x := .tracked) hnot (by decide))).trans
      (tripOr_guarded (askRound_guarded _))
  · refine trip_guarded f (fun h => ?_) t
    exact TripReason.bit_ne_zero .overlap (BitVec.or_eq_zero_iff.1 h).1

theorem countRejection_guarded (f : Frame) (s : State) : Guarded s (countRejection f s) := setTracker_guarded id id

theorem rejectReport_guarded (f : Frame) (s : State) : Guarded s (rejectReport f s) := by
  have hcount := countRejection_guarded f s
  unfold rejectReport
  dsimp only
  split
  · exact hcount.trans (trip_guarded f (TripReason.bit_ne_zero _) _)
  · exact hcount

theorem takeReport_sound {s : State} (hs : TripSound s) (f : Frame) (r : Report) : TripSound (takeReport f r s).1 := by
  unfold takeReport
  split
  · exact hs
  split
  · next hunknown =>
    split
    · exact (acquire_guarded hunknown r).sound hs
    · exact hs
  · split
    · exact reportToTransfer_sound ((acceptReport_guarded f r s).sound hs) f r false
    · exact (countRejection_guarded f s).sound hs
  · split
    · exact reportToTransfer_sound
        (((acceptReport_guarded f r s).trans (tripOr_guarded (settleReport_guarded f r _))).sound hs) f r _
    · exact (rejectReport_guarded f s).sound hs

theorem placeRequest_guarded (f : Frame) (t : Travel) (s : State) : Guarded s (placeRequest f t s) := .of_blocks rfl

theorem requestTravel_guarded (f : Frame) (target : Nat) (s : State) : Guarded s (requestTravel f target s).1 := by
  have hstore (t : Travel) : Guarded s (storeTravel f t s).drive :=
    (((placeRequest_guarded f t s).trans (trim_guarded f _)).trans (askRound_guarded _)).drive
  unfold requestTravel
  split
  · exact .refl s
  split
  · exact .refl s
  split
  · exact .refl s
  split
  · exact .refl s
  split
  · exact .refl s
  split
  · exact .refl s
  unfold takeTravel
  split
  · exact hstore _
  split
  · exact hstore _
  split
  · exact (((trimTo_guarded f _ _ s).trans (placeRequest_guarded f _ _)).trans (askRound_guarded _)).drive
  · exact .refl s

theorem releaseTravel_guarded (f : Frame) (s : State) : Guarded s (releaseTravel f s).1 := by
  unfold releaseTravel
  split
  · exact .refl s
  · exact ((clearRequest_round f .released s).guarded.trans (askRoundIf_guarded _ _)).drive

theorem acceptTransfer_guarded (f : Frame) (t : Transfer) (s : State) : Guarded s (acceptTransfer f t s) := by
  have hcontext : Guarded s (s.setTransfer f (some t)) := .of_blocks rfl
  have hcommitted := hcontext.trans (forTask_guarded t.task (commitMass t.mass t.bay f) (putMass_guarded _ _ _))
  exact (hcommitted.trans (commitTask_frame _ _ _ _).guarded).trans (saveRequest_guarded _ _)

theorem reserveZones_guarded {f : Frame} {r : Run} {s t : State} (h : reserveZones f r s = some t) : Guarded s t := by
  rw [reserveZones_frame h]
  exact .of_blocks rfl

theorem requestTransfer_guarded (f : Frame) (s : State) : Guarded s (requestTransfer f s).1 := by
  unfold requestTransfer
  split
  · exact .refl s
  split
  · exact .refl s
  split
  · exact .refl s
  split
  · split
    · exact .refl s
    split
    · exact .refl s
    split
    · exact .refl s
    · unfold startTransfer
      split
      · exact .refl s
      · split
        · exact .refl s
        · next hreserved => exact ((reserveZones_guarded hreserved).trans (acceptTransfer_guarded f _ _)).drive
  · exact .refl s

/-! ### Modes, trips and tuning (R14 to R16, R149 to R157) -/

theorem requestHold_guarded (s : State) : Guarded s (requestHold s).1 := by
  unfold requestHold
  split
  · exact (enterHold_guarded s).drive
  · exact .refl s
  · exact .refl s

theorem firstFrame_none {p : Frame → Bool} (h : firstFrame p = none) (f : Frame) : p f = false := by
  have hall := List.find?_eq_none.1 h f (by cases f <;> decide)
  simpa using hall

/-- RESUME brings RUN where nothing bars it (R151). -/
theorem requestResume_sound {s : State} (hs : TripSound s) : TripSound (requestResume s).1 := by
  unfold requestResume
  split
  · exact hs
  split
  · exact hs
  split
  · exact hs
  next hstop =>
  split
  · exact hs
  next hlatch =>
  split
  · exact hs
  next hverified =>
  split
  · exact hs
  next hsave =>
  split
  · exact hs
  · next hclear =>
    have hrun : TripSound (changeMode .run s) := by
      have hstop' : s.mdc.stopN = false := by simpa using hstop
      have hlatch' : s.mdc.latch = false := by simpa using hlatch
      have hverified' : s.inv.verified = true := by simpa using hverified
      refine ⟨hs.1, fun _ => ⟨hstop', hlatch', hverified', hsave, fun f hf => ?_⟩⟩
      have hf' : (s.tracker f).state = .tripped := hf
      have hnot := firstFrame_none hclear f
      rw [isTripped, hf'] at hnot
      cases hnot
    exact (askRound_guarded _).drive.sound hrun

theorem resetTracker_guarded (f : Frame) (s : State) : Guarded s (resetTracker f s) :=
  moveTracker_guarded (fun _ => ⟨fun h => absurd rfl h, nofun⟩) nofun

theorem tripSound_of_ne {s : State} (hreasons : TripsHaveReasons s) (hmode : s.mdc.mode ≠ .run) : TripSound s :=
  ⟨hreasons, fun hrun => absurd hrun hmode⟩

theorem requestLockout_sound {s : State} (hs : TripSound s) : TripSound (requestLockout s).1 := by
  have hmode : TripSound (setMode .lockout s) := tripSound_of_ne hs.1 nofun
  have hreleased := (releaseGrant_round .U (setMode .lockout s)).guarded.trans (releaseGrant_round .L _).guarded
  have hreset := (hreleased.trans (resetTracker_guarded .U _)).trans (resetTracker_guarded .L _)
  have hentered : TripSound (enterLockout s) := by
    unfold enterLockout
    exact (((hreset.trans (endQueue_end .U _).guarded).trans (endQueue_end .L _).guarded).raiseOn _ _).sound hmode
  unfold requestLockout
  split
  · exact hs
  split
  · exact hs
  split
  · exact hs
  · exact (Guarded.refl _).drive.sound hentered

theorem requestUnlock_sound {s : State} (hs : TripSound s) : TripSound (requestUnlock s).1 := by
  unfold requestUnlock
  split
  · exact hs
  split
  · exact hs
  split
  · exact hs
  split
  · exact hs
  · exact tripSound_of_ne hs.1 nofun

/-- In RUN the latch is cleared already (R151, R155). -/
theorem acknowledgeStop_sound {s : State} (hs : TripSound s) : TripSound (acknowledgeStop s).1 := by
  unfold acknowledgeStop
  split
  · exact hs
  · refine Guarded.sound (s := s.setMdc { s.mdc with latch := false }) (.of_blocks rfl) ⟨hs.1, fun hmode => ?_⟩
    obtain ⟨hstop, -, hrest⟩ := hs.2 hmode
    exact ⟨hstop, rfl, hrest⟩

theorem releaseStop_sound {s : State} (hs : TripSound s) : TripSound (releaseStop s) := by
  refine ⟨hs.1, fun hmode => ?_⟩
  obtain ⟨-, hrest⟩ := hs.2 hmode
  exact ⟨rfl, hrest⟩

theorem clearTripped_guarded (f : Frame) (e : Run) (s : State) : Guarded s (clearTripped f e s) := by
  have hmoved : Guarded s (moveTracker f { s.tracker f with state := .tracked, reasons := 0 } s) :=
    moveTracker_guarded (fun _ => ⟨fun h => absurd rfl h, nofun⟩) nofun
  refine (hmoved.trans ?_).trans (askRound_guarded _)
  rw [reformGrant_frame]
  exact .of_blocks rfl

theorem clearTrip_guarded (n : Nat) (s : State) : Guarded s (clearTrip n s).1 := by
  unfold clearTrip
  split
  · exact .refl s
  split
  · exact .refl s
  split
  · exact .refl s
  · exact .refl s
  · exact .refl s
  · next f _ _ _ _ =>
    unfold clearTripOf
    split
    · exact .refl s
    split
    · exact .refl s
    split
    · exact .refl s
    split
    · exact .refl s
    split
    · exact .refl s
    generalize firstMass s (barsClearing _) = barring
    cases barring with
    | some id => exact .refl s
    | none =>
      simp only []
      split
      · exact (clearTripped_guarded _ _ s).drive
      · exact .refl s

theorem setTuning_guarded (x : TuningParts) (s : State) : Guarded s (setTuning x s).1 := by
  unfold setTuning
  split
  · exact .refl s
  · have happly : Guarded s (applyTuning x s) := .of_blocks rfl
    exact (happly.trans (askRoundIf_guarded _ _)).drive

theorem setSurveyItem_guarded (c i v : Nat) (s : State) : Guarded s (setSurveyItem c i v s).1 := by
  unfold setSurveyItem
  split
  · exact .refl s
  split
  · exact .refl s
  split
  · exact .refl s
  · exact .of_blocks rfl

theorem requestBody_sound {s : State} (hs : TripSound s) (i : Instr) : TripSound (requestBody i s).1 :=
  requestBody_induct (fun _ h => h.guarded.sound hs)
    (fun f _ _ _ _ => (Guarded.of_blocks rfl).sound (takeReport_sound hs f _))
    (fun f target => (requestTravel_guarded f target s).sound hs) (fun f => (releaseTravel_guarded f s).sound hs)
    (fun f => (requestTransfer_guarded f s).sound hs) ((requestHold_guarded s).sound hs) (requestResume_sound hs)
    (requestLockout_sound hs) (requestUnlock_sound hs) (acknowledgeStop_sound hs)
    (fun n => (clearTrip_guarded n s).sound hs) (fun x => (setTuning_guarded x s).sound hs)
    (fun c i v => (setSurveyItem_guarded c i v s).sound hs) i

/-! ### Expiries, the stop chain and the store -/

theorem stalenessEnds_guarded (f : Frame) (s : State) : Guarded s (stalenessEnds f s) := by
  have htimer : Guarded s (s.setTracker f { s.tracker f with timer := none }) := setTracker_guarded id id
  unfold stalenessEnds
  dsimp only
  split
  · next htracked =>
    refine htimer.trans (setTracking_guarded ?_ nofun)
    rw [State.tracker_setTracker, if_pos rfl]
    exact fun htripped => absurd (htracked.symm.trans htripped) nofun
  · exact htimer

theorem enterHold_tripping (s : State) : Tripping s (enterHold s) :=
  ⟨enterHold_drops s, fun f => .inl (by rw [enterHold_frame]; rfl)⟩

/-- An asserted STOP_N leaves the shaft out of RUN (R154). -/
theorem assertStop_guarded (s : State) : Guarded s (assertStop s) := by
  have hstopped : Tripping s ((s.setMdc { s.mdc with stopN := true, latch := true }).raiseWatchers .stopSeen) :=
    .of_ftk rfl rfl
  have hhold : Tripping s (enterHold ((s.setMdc { s.mdc with stopN := true, latch := true }).raiseWatchers .stopSeen)) :=
    hstopped.trans (enterHold_tripping _)
  have hnotices := (stopNotice_tripping .U (enterHold ((s.setMdc
    { s.mdc with stopN := true, latch := true }).raiseWatchers .stopSeen))).trans (stopNotice_tripping .L _)
  exact (hhold.trans hnotices).guarded_of_ne (mt hnotices.mode (enterHold_not_run _))

theorem inventoryWriteCompleted_guarded (s : State) : Guarded s (inventoryWriteCompleted s) := by
  have hsettle : Guarded s (settleSave .clean s) :=
    ⟨.inl rfl, id, fun _ _ => id, fun _ => ⟨rfl, rfl⟩, fun _ => ⟨rfl, nofun⟩⟩
  have hstart (w : List Waiter) (t : State) : Guarded t (startInventoryWrite w t) :=
    ⟨.inl rfl, id, fun _ _ => id, fun _ => ⟨rfl, rfl⟩, fun _ => ⟨rfl, nofun⟩⟩
  unfold inventoryWriteCompleted
  split
  · exact hsettle.trans (tellAll_guarded _ _ _)
  · exact (tellAll_guarded _ _ s).trans (hstart _ _)
  · exact .refl s
  · exact .refl s

/-- Entry into NOT_SAVED leaves the shaft out of RUN (R94). -/
theorem enterNotSaved_guarded (s : State) : Guarded s (enterNotSaved s) := by
  have hsettle : Tripping s (settleSave .notSaved s) := .of_ftk rfl rfl
  have htold := (hsettle.trans (tellAll_tripping (s.inv.carriedWaiters ++ s.inv.nextWaiters) false _)).raiseOn
    isWatcher .storeFault
  exact (htold.trans (enterHold_tripping _)).guarded_of_ne
    (enterHold_not_run _)

theorem takeOverSurvey_guarded (s : State) : Guarded s (takeOverSurvey s) := by
  unfold takeOverSurvey
  exact Guarded.trans (.of_blocks rfl) (saveRequest_guarded [] _)

theorem tellWriteEnd_guarded (r : Region) (completed : Bool) (s : State) : Guarded s (tellWriteEnd r completed s) := by
  unfold tellWriteEnd
  split
  · exact takeOverSurvey_guarded s
  · exact .of_blocks rfl
  · exact inventoryWriteCompleted_guarded s
  · unfold inventoryWriteFailed
    split
    · exact enterNotSaved_guarded s
    · exact enterNotSaved_guarded s
    · exact .refl s
    · exact .refl s

theorem afterStraps_sound (sound : Bool) (roles : List Role) (stop : Bool) (q : List Instr) :
    TripSound (afterStraps sound (sampled roles stop q)) := by
  have hmode := (afterStraps_fields sound roles stop q).1
  refine tripSound_of_ne (fun f => ?_) fun hrun => absurd (hmode.symm.trans hrun) nofun
  cases sound <;> cases f <;> exact ⟨fun h => absurd rfl h, nofun⟩

theorem enterMode_sound {s : State} (h : TripsHaveReasons s) : TripSound (enterMode s) :=
  tripSound_of_ne h (startMode_ne_run s)

theorem tripSound_blind : LineBlind TripSound :=
  fun _ _ _ _ _ _ _ _ ⟨hreasons, hclear⟩ => ⟨hreasons, hclear⟩

theorem tripSound_kept : OperationsKeep TripSound where
  blind := tripSound_blind
  request i _ _ hs := requestBody_sound hs i
  staleness f s hs := (stalenessEnds_guarded f s).sound hs
  timer _ s _ hs := (failRunning_guarded rfl s).sound hs
  stop s hs := (assertStop_guarded s).sound hs
  release _ hs := releaseStop_sound hs
  done k s hs := (gdoneEdge_guarded k s).sound hs
  fault k s hs := (gfltEdge_guarded k s).sound hs
  reset := afterStraps_sound
  survey chosen s _ hs := Guarded.sound (s := s) (.of_blocks rfl) hs
  inventory chosen s _ hs := by
    refine enterMode_sound ?_
    rw [loadInventory_inventory chosen]
    exact hs.1
  attempt r _ _ _ _ _ _ hs := attemptEnds_induct ((Guarded.of_blocks rfl).sound hs)
    fun _ completed => (tellWriteEnd_guarded r completed _).sound ((Guarded.of_blocks rfl).sound hs)

/-- Settles O13: every trip carries a reason and takes the shaft out of RUN, every operation that brings up a bar does so
too, and RESUME looks at each bar. -/
theorem runStaysClearAndTripsHaveReasons : Obligations.RunStaysClearAndTripsHaveReasons :=
  fun _ _ hs => tripSound_kept.step hs

end Sys2Proof.Machine
end

section
/-! SUPPORT. O14: LOCKOUT through every operation. -/

namespace Sys2Proof.Machine

/-! ### What leaves a quiet frame quiet -/

/-- Every frame is quiet (R152). -/
def AllQuiet (s : State) : Prop := ∀ f, FrameQuiet s f

/-- Neither tracking states, grants, requests, contexts nor queues change. -/
theorem AllQuiet.of_blocks {s t : State} (hs : AllQuiet s) (hstate : ∀ f, (t.tracker f).state = (s.tracker f).state)
    (hgrants : t.gru.grants = s.gru.grants) (hrequests : t.gru.requests = s.gru.requests)
    (hcontexts : t.xfc.contexts = s.xfc.contexts) (hqueues : t.tku.queues = s.tku.queues) : AllQuiet t := by
  intro f
  obtain ⟨htracking, hgrant, hrequest, htransfer, hqueue⟩ := hs f
  refine ⟨(hstate f).trans htracking, ?_, ?_, ?_, ?_⟩
  · unfold State.grant
    rw [hgrants]
    exact hgrant
  · unfold State.request
    rw [hrequests]
    exact hrequest
  · unfold State.transfer
    rw [hcontexts]
    exact htransfer
  · rw [hqueues]
    exact hqueue

/-- The grants go, and nothing else that a quiet frame is judged by changes. -/
theorem AllQuiet.of_noGrants {s t : State} (hs : AllQuiet s) (hftk : t.ftk = s.ftk)
    (hgrants : t.gru.grants = ⟨none, none⟩) (hrequests : t.gru.requests = s.gru.requests)
    (hcontexts : t.xfc.contexts = s.xfc.contexts) (hqueues : t.tku.queues = s.tku.queues) : AllQuiet t := by
  refine hs.of_blocks (fun f => by unfold State.tracker; rw [hftk]) ?_ hrequests hcontexts hqueues
  have hu : s.gru.grants.u = none := (hs .U).grant
  have hl : s.gru.grants.l = none := (hs .L).grant
  rw [hgrants]
  cases hpair : s.gru.grants
  simp_all

theorem lockoutIsQuiet_blind : LineBlind LockoutIsQuiet :=
  fun _ _ _ _ _ _ _ _ ⟨hstart, hquiet⟩ =>
    ⟨hstart, fun hmode f =>
      have h := hquiet hmode f
      ⟨h.tracking, h.grant, h.request, h.transfer, h.queue⟩⟩

/-- Outside LOCKOUT an operation that keeps start-up and does not enter LOCKOUT keeps the invariant. -/
theorem LockoutIsQuiet.of_drops {s t : State} (hs : LockoutIsQuiet s) (hstart : t.startUp = s.startUp)
    (hdrops : ModeDrops s t) (hquiet : s.mdc.mode = .lockout → AllQuiet s → AllQuiet t) : LockoutIsQuiet t :=
  ⟨fun h => hdrops.lockout_iff.2 (hs.startUp (hstart ▸ h)), fun h =>
    have hlockout := hdrops.lockout_iff.1 h
    hquiet hlockout (hs.quiet hlockout)⟩

theorem LockoutIsQuiet.steady {s t : State} (hs : LockoutIsQuiet s) (h : Steady s t) (hdrops : ModeDrops s t)
    (hquiet : s.mdc.mode = .lockout → AllQuiet s → AllQuiet t) : LockoutIsQuiet t :=
  hs.of_drops h.startUp hdrops hquiet

/-- In LOCKOUT the operation changes nothing. -/
theorem LockoutIsQuiet.steady_same {s t : State} (hs : LockoutIsQuiet s) (h : Steady s t) (hdrops : ModeDrops s t)
    (hsame : s.mdc.mode = .lockout → AllQuiet s → t = s) : LockoutIsQuiet t :=
  hs.steady h hdrops fun hmode hquiet => hsame hmode hquiet ▸ hquiet

/-! ### Operations of XFC on quiet frames -/

theorem stopNotice_quiet {f : Frame} {s : State} (h : s.transfer f = none) : stopNotice f s = s := by
  unfold stopNotice
  rw [h]

theorem saveAnswered_quiet {w : Waiter} {b : Bool} {s : State} (h : AllQuiet s) : saveAnswered w b s = s := by
  unfold saveAnswered
  rw [(h w.frame).transfer]

theorem tellAll_quiet (ws : List Waiter) (b : Bool) {s : State} (h : AllQuiet s) : tellAll ws b s = s := by
  unfold tellAll
  induction ws with
  | nil => rfl
  | cons w ws ih => rw [List.foldl_cons, saveAnswered_quiet h, ih]

theorem gearFrame_quiet {s : State} (h : AllQuiet s) (k : Nat) : gearFrame s k = none := by
  refine List.find?_eq_none.2 fun f _ => ?_
  unfold runsGear
  rw [(h f).transfer]
  exact Bool.false_ne_true

theorem unexpectedEdge_quiet {s : State} (hs : AllQuiet s) (k : Nat) (b : Bool) : AllQuiet (unexpectedEdge k b s) := by
  unfold unexpectedEdge
  dsimp only
  split
  · split <;> exact hs.of_blocks (fun _ => rfl) rfl rfl rfl rfl
  · exact hs.of_blocks (fun _ => rfl) rfl rfl rfl rfl

theorem gdoneEdge_quiet {s : State} (hs : AllQuiet s) (k : Nat) : AllQuiet (gdoneEdge k s) := by
  unfold gdoneEdge
  rw [gearFrame_quiet hs]
  exact unexpectedEdge_quiet hs k true

theorem gfltEdge_quiet {s : State} (hs : AllQuiet s) (k : Nat) : AllQuiet (gfltEdge k s) := by
  unfold gfltEdge
  rw [gearFrame_quiet hs]
  exact unexpectedEdge_quiet hs k false

/-! ### Requests -/

theorem DeskStep.lockout {s t : State} (h : DeskStep s t) (hs : LockoutIsQuiet s) : LockoutIsQuiet t := by
  obtain ⟨hframe, -, -, hqueues⟩ := h
  refine hs.of_drops (by rw [hframe]) (.inl (by rw [hframe])) fun hmode hquiet => ?_
  refine hquiet.of_blocks (fun f => ?_) ?_ ?_ ?_ (hqueues hmode fun f => (hquiet f).queue)
  · unfold State.tracker
    rw [hframe]
  all_goals rw [hframe]

theorem askRoundIf_of_ne {s : State} (b : Bool) (h : s.mdc.mode ≠ .run) : askRoundIf b s = s := by
  unfold askRoundIf
  split
  · exact askRound_of_ne h
  · rfl

theorem lockout_ne_run {s : State} (h : s.mdc.mode = .lockout) : s.mdc.mode ≠ .run := by
  rw [h]
  decide

theorem takeReport_drops (f : Frame) (r : Report) (s : State) : ModeDrops s (takeReport f r s).1 := by
  unfold takeReport
  split
  · exact .refl s
  split
  · next hunknown =>
    split
    · exact (acquire_guarded hunknown r).drops
    · exact .refl s
  · split
    · exact (acceptReport_guarded f r s).drops.trans (reportToTransfer_tripping f r false _).drops
    · exact (countRejection_guarded f s).drops
  · split
    · exact ((acceptReport_guarded f r s).trans (tripOr_guarded (settleReport_guarded f r _))).drops.trans
        (reportToTransfer_tripping f r _ _).drops
    · exact (rejectReport_guarded f s).drops

theorem position_lockout {s : State} (hs : LockoutIsQuiet s) (f : Frame) (e : BitVec 32) (v : BitVec 16)
    (m : BitVec 32) (fl : Byte) : LockoutIsQuiet (position f e v m fl s).1 :=
  hs.steady (position_steady f e v m fl s) ((takeReport_drops f _ s).trans (.inl rfl)) fun hmode hquiet => by
    have hsame : (takeReport f (takenReport s e v m fl) s).1 = s := by
      unfold takeReport
      rw [if_pos hmode]
    change AllQuiet (takeReport f (takenReport s e v m fl) s).1.drive
    rw [hsame]
    exact hquiet.of_blocks (fun _ => rfl) rfl rfl rfl rfl

theorem requestTravel_lockout {s : State} (hs : LockoutIsQuiet s) (f : Frame) (target : Nat) :
    LockoutIsQuiet (requestTravel f target s).1 :=
  hs.steady_same (requestTravel_steady f target s) (requestTravel_guarded f target s).drops fun hmode _ => by
    unfold requestTravel
    rw [if_pos hmode]
    rfl

theorem releaseTravel_lockout {s : State} (hs : LockoutIsQuiet s) (f : Frame) : LockoutIsQuiet (releaseTravel f s).1 :=
  hs.steady_same (releaseTravel_steady f s) (releaseTravel_guarded f s).drops fun _ hquiet => by
    unfold releaseTravel
    rw [(hquiet f).request]
    rfl

theorem requestTransfer_lockout {s : State} (hs : LockoutIsQuiet s) (f : Frame) :
    LockoutIsQuiet (requestTransfer f s).1 :=
  hs.steady_same (requestTransfer_steady f s) (requestTransfer_guarded f s).drops fun hmode _ => by
    unfold requestTransfer
    rw [if_pos (lockout_ne_run hmode)]
    rfl

theorem requestHold_lockout {s : State} (hs : LockoutIsQuiet s) : LockoutIsQuiet (requestHold s).1 :=
  hs.steady_same (requestHold_steady s) (requestHold_guarded s).drops fun hmode _ => by
    unfold requestHold
    rw [hmode]
    rfl

/-- RESUME leaves LOCKOUT as it is, and any other mode outside LOCKOUT (R151). -/
theorem requestResume_lockout {s : State} (hs : LockoutIsQuiet s) (hstart : s.startUp = .ended) :
    LockoutIsQuiet (requestResume s).1 := by
  unfold requestResume
  split
  · exact hs
  split
  · exact hs
  split
  · exact hs
  split
  · exact hs
  split
  · exact hs
  split
  · exact hs
  split
  · exact hs
  · have hround := askRound_guarded (changeMode .run s)
    have hmode : (askRound (changeMode .run s)).mdc.mode ≠ .lockout := fun h =>
      absurd (hround.drops.lockout_iff.1 h) (by change Mode.run ≠ .lockout; decide)
    have hstarted : (askRound (changeMode .run s)).startUp = .ended := (askRound_steady _).startUp.trans hstart
    exact ⟨fun h => absurd hstarted h, fun h => absurd h hmode⟩

theorem acknowledgeStop_lockout {s : State} (hs : LockoutIsQuiet s) : LockoutIsQuiet (acknowledgeStop s).1 := by
  unfold acknowledgeStop
  split
  · exact hs
  · exact hs.of_drops rfl (.inl rfl) fun _ hquiet => hquiet.of_blocks (fun _ => rfl) rfl rfl rfl rfl

theorem clearTrip_lockout {s : State} (hs : LockoutIsQuiet s) (n : Nat) : LockoutIsQuiet (clearTrip n s).1 :=
  hs.steady_same (clearTrip_steady n s) (clearTrip_guarded n s).drops fun hmode hquiet => by
    unfold clearTrip
    split
    · rfl
    · next f _ =>
      rw [if_neg (lockout_ne_run hmode), (hquiet f).tracking]
      rfl

theorem setTuning_lockout {s : State} (hs : LockoutIsQuiet s) (x : TuningParts) : LockoutIsQuiet (setTuning x s).1 :=
  hs.steady (setTuning_steady x s) (setTuning_guarded x s).drops fun hmode hquiet => by
    unfold setTuning
    split
    · exact hquiet
    · dsimp only
      rw [askRoundIf_of_ne (s := applyTuning x s) _ (lockout_ne_run hmode)]
      exact hquiet.of_blocks (fun _ => rfl) rfl rfl rfl rfl

theorem setSurveyItem_lockout {s : State} (hs : LockoutIsQuiet s) (c i v : Nat) :
    LockoutIsQuiet (setSurveyItem c i v s).1 := by
  unfold setSurveyItem
  split
  · exact hs
  split
  · exact hs
  split
  · exact hs
  · exact hs.of_drops rfl (.inl rfl) fun _ hquiet => hquiet.of_blocks (fun _ => rfl) rfl rfl rfl rfl

theorem requestUnlock_lockout {s : State} (hs : LockoutIsQuiet s) (hstart : s.startUp = .ended) :
    LockoutIsQuiet (requestUnlock s).1 := by
  unfold requestUnlock
  split
  · exact hs
  split
  · exact hs
  split
  · exact hs
  split
  · exact hs
  · exact ⟨fun h => absurd hstart h, nofun⟩

/-! ### Entry into LOCKOUT (R152) -/

/-- A task in frame f's queue is live in f: queue U is looked at first (R105). -/
theorem liveIn_of_mem {s : State} {f : Frame} {id : Nat} (h : id ∈ s.tku.queues.get f)
    (hu : f = .L → s.tku.queues.u = []) : liveIn s id = some f := by
  cases f with
  | U => exact if_pos h
  | L =>
    have hnot : id ∉ s.tku.queues.u := by
      rw [hu rfl]
      exact List.not_mem_nil
    have hl : id ∈ s.tku.queues.l := h
    unfold liveIn
    rw [if_neg hnot, if_pos hl]

/-- Ending the head of a queue takes it from the queue and leaves the other queue (R121). -/
theorem endHead_queues {s : State} {f : Frame} {id : Nat} {q : List Nat} (hq : s.tku.queues.get f = id :: q)
    (hu : f = .L → s.tku.queues.u = []) (p : Phase) (next : Bool) (r : BitVec 16) :
    (endTask id p next (addTaskReasons id r s)).tku.queues = s.tku.queues.set f q := by
  have hlive : liveIn (addTaskReasons id r s) id = some f :=
    liveIn_of_mem (s := addTaskReasons id r s) (hq ▸ List.mem_cons_self) hu
  obtain ⟨-, hqueues, -⟩ := endTask_collections id p next _ hlive
  refine hqueues.trans ?_
  change s.tku.queues.set f ((s.tku.queues.get f).erase id) = _
  rw [hq, List.erase_cons_head]

/-- The queue of LOCKOUT entry is emptied, the other one stays (R129). -/
theorem endQueue_queues {s : State} {f : Frame} (hu : f = .L → s.tku.queues.u = []) :
    (endQueue f s).tku.queues = s.tku.queues.set f [] := by
  unfold endQueue
  generalize hq : s.tku.queues.get f = q
  induction q generalizing s with
  | nil =>
    rw [List.foldl_nil, ← hq]
    exact (Pair.set_get_self _ _).symm
  | cons id q ih =>
    have hstep := endHead_queues hq hu .cancelled false (TaskReason.lockout.bit ||| TaskReason.cancelled.bit)
    have hqueue := (congrArg (Pair.get · f) hstep).trans (Pair.get_set_self _ _ _)
    rw [List.foldl_cons, ih (fun hf => ?_) hqueue, hstep]
    · cases f <;> rfl
    · rw [hstep]
      subst hf
      exact hu rfl

theorem releaseGrant_request (f : Frame) (s : State) : (releaseGrant f s).request f = none := by
  have hcleared : (if (s.request f).isSome then clearRequest f .cleared s else s).request f = none := by
    split
    · exact (clearRequest_request f .cleared s).1
    · next h => simpa using h
  unfold releaseGrant
  dsimp only
  generalize (if (s.request f).isSome then clearRequest f .cleared s else s) = t at hcleared ⊢
  split
  · exact hcleared
  · exact hcleared

theorem releaseGrant_request_other (f : Frame) {s : State} (h : s.request f.other = none) :
    (releaseGrant f s).request f.other = none := by
  have hcleared : (if (s.request f).isSome then clearRequest f .cleared s else s).request f.other = none := by
    split
    · exact (clearRequest_request f .cleared s).2.2.trans h
    · exact h
  unfold releaseGrant
  dsimp only
  generalize (if (s.request f).isSome then clearRequest f .cleared s else s) = t at hcleared ⊢
  split
  · exact hcleared
  · exact hcleared

/-- Grants and requests gone, trackers at their initial value: what LOCKOUT entry does before it ends the tasks (R152). -/
def cleared (s : State) : State :=
  resetTracker .L (resetTracker .U (releaseGrant .L (releaseGrant .U (setMode .lockout s))))

theorem enterLockout_eq (s : State) :
    enterLockout s = (endQueue .L (endQueue .U (cleared s))).raiseAll .modeChanged := rfl

/-- What the clearing changes: ports, grants and requests, ARB, the tuning, the trackers and the mode (R152). -/
theorem cleared_frame (s : State) : ∃ ports gru arb tuning, cleared s = { s with
    ports := ports, gru := gru, arb := arb, svt := { s.svt with tuning := tuning }
    ftk := ⟨Tracker.initial, Tracker.initial⟩, mdc := { s.mdc with mode := .lockout } } := by
  have hround := (releaseGrant_round .U (setMode .lockout s)).trans (releaseGrant_round .L _)
  unfold cleared resetTracker
  generalize releaseGrant .L (releaseGrant .U (setMode .lockout s)) = u at hround ⊢
  have hL := moveTracker_frame .L Tracker.initial (moveTracker .U Tracker.initial u)
  have hU := moveTracker_frame .U Tracker.initial u
  generalize (moveTracker .L Tracker.initial (moveTracker .U Tracker.initial u)).ports = ports at hL
  generalize (moveTracker .U Tracker.initial u).ports = portsU at hU
  refine ⟨ports, { u.gru with permit := s.gru.permit }, u.arb, u.svt.tuning, ?_⟩
  rw [hL, hU]
  conv_lhs => rw [hround]
  rfl

theorem cleared_quiet (s : State) (f : Frame) :
    (cleared s).tracker f = Tracker.initial ∧ (cleared s).grant f = none ∧ (cleared s).request f = none := by
  have hgru : (cleared s).gru = (releaseGrant .L (releaseGrant .U (setMode .lockout s))).gru := by
    unfold cleared resetTracker
    rw [moveTracker_frame, moveTracker_frame]
  refine ⟨?_, ?_, ?_⟩
  · unfold cleared resetTracker
    rw [moveTracker_tracker, moveTracker_tracker]
    cases f <;> rfl
  · unfold State.grant
    rw [hgru]
    cases f with
    | U => exact releaseGrant_grant_other .L (releaseGrant_grant .U _)
    | L => exact releaseGrant_grant .L _
  · unfold State.request
    rw [hgru]
    cases f with
    | U => exact releaseGrant_request_other .L (releaseGrant_request .U _)
    | L => exact releaseGrant_request .L _

theorem enterLockout_queues (s : State) : (enterLockout s).tku.queues = ⟨[], []⟩ := by
  have hU : (endQueue .U (cleared s)).tku.queues = (cleared s).tku.queues.set .U [] := endQueue_queues nofun
  have hempty : (endQueue .U (cleared s)).tku.queues.u = [] := by rw [hU]; rfl
  have hL : (endQueue .L (endQueue .U (cleared s))).tku.queues = _ := endQueue_queues fun _ => hempty
  rw [enterLockout_eq]
  exact hL.trans (by rw [hU]; rfl)

/-- What the endings of LOCKOUT entry leave of the state before them (R129). -/
theorem enterLockout_end (s : State) : EndFrame (cleared s) (enterLockout s) := by
  rw [enterLockout_eq]
  generalize cleared s = t
  exact (EndFrame.trans (endQueue_end .U t) (endQueue_end .L _)).raiseOn (fun _ => true) .modeChanged

/-- What an ending of tasks leaves of the blocks that a quiet frame is judged by (R121). -/
theorem EndFrame.blocks {s t : State} (h : EndFrame s t) : t.ftk = s.ftk ∧ t.gru = s.gru ∧ t.xfc = s.xfc := by
  unfold EndFrame at h
  rw [h]
  exact ⟨rfl, rfl, rfl⟩

theorem AllQuiet.drive {s : State} (hs : AllQuiet s) : AllQuiet s.drive :=
  hs.of_blocks (fun _ => rfl) rfl rfl rfl rfl

theorem cleared_xfc (s : State) : (cleared s).xfc = s.xfc := by
  obtain ⟨ports, gru, arb, tuning, h⟩ := cleared_frame s
  have hxfc := congrArg State.xfc h
  exact hxfc

theorem enterLockout_quiet {s : State} (h : ∀ f, s.transfer f = none) : AllQuiet (enterLockout s) := by
  intro f
  obtain ⟨htracker, hgrant, hrequest⟩ := cleared_quiet s f
  obtain ⟨hftk, hgru, hxfc⟩ := (enterLockout_end s).blocks
  refine ⟨?_, ?_, ?_, ?_, ?_⟩
  · unfold State.tracker at htracker ⊢
    rw [hftk, htracker]
    rfl
  · unfold State.grant at hgrant ⊢
    rw [hgru, hgrant]
  · unfold State.request at hrequest ⊢
    rw [hgru, hrequest]
  · unfold State.transfer
    rw [hxfc, cleared_xfc]
    exact h f
  · rw [enterLockout_queues]
    cases f <;> rfl

theorem requestLockout_lockout {s : State} (hs : LockoutIsQuiet s) (hstart : s.startUp = .ended) :
    LockoutIsQuiet (requestLockout s).1 := by
  unfold requestLockout
  split
  · exact hs
  split
  · exact hs
  split
  · exact hs
  · next hnone =>
    have hstarted : (enterLockout s).startUp = .ended := (enterLockout_steady s).startUp.trans hstart
    have hquiet : AllQuiet (enterLockout s) := enterLockout_quiet fun f => by
      have hf := firstFrame_none hnone f
      simpa [State.inFlight] using hf
    generalize enterLockout s = t at hstarted hquiet
    exact ⟨fun h => absurd hstarted h, fun _ => hquiet.drive⟩

theorem requestBody_lockout {s : State} (hs : LockoutIsQuiet s) (hstart : s.startUp = .ended) (i : Instr) :
    LockoutIsQuiet (requestBody i s).1 :=
  requestBody_induct (fun _ h => h.lockout hs) (position_lockout hs) (requestTravel_lockout hs)
    (releaseTravel_lockout hs) (requestTransfer_lockout hs) (requestHold_lockout hs) (requestResume_lockout hs hstart)
    (requestLockout_lockout hs hstart) (requestUnlock_lockout hs hstart) (acknowledgeStop_lockout hs)
    (clearTrip_lockout hs) (setTuning_lockout hs) (setSurveyItem_lockout hs) i

/-! ### Expiries, the stop chain, the store and start-up -/

theorem stalenessEnds_lockout {s : State} (hs : LockoutIsQuiet s) (f : Frame) : LockoutIsQuiet (stalenessEnds f s) :=
  hs.steady (stalenessEnds_steady f s) (stalenessEnds_guarded f s).drops fun _ hquiet => by
    unfold stalenessEnds
    dsimp only
    rw [if_neg (by rw [(hquiet f).tracking]; decide)]
    refine hquiet.of_blocks (fun g => ?_) rfl rfl rfl rfl
    rw [State.tracker_setTracker]
    split
    · next hg => rw [hg]
    · rfl

theorem assertStop_lockout {s : State} (hs : LockoutIsQuiet s) : LockoutIsQuiet (assertStop s) :=
  hs.steady (assertStop_steady s) (assertStop_guarded s).drops fun hmode hquiet => by
    unfold assertStop
    dsimp only
    have hheld : enterHold ((s.setMdc { s.mdc with stopN := true, latch := true }).raiseWatchers .stopSeen) =
        (s.setMdc { s.mdc with stopN := true, latch := true }).raiseWatchers .stopSeen :=
      enterHold_of_ne (lockout_ne_run hmode)
    have hnone (f : Frame) :
        ((s.setMdc { s.mdc with stopN := true, latch := true }).raiseWatchers .stopSeen).transfer f = none :=
      (hquiet f).transfer
    rw [hheld, stopNotice_quiet (hnone .U), stopNotice_quiet (hnone .L)]
    exact hquiet.of_blocks (fun _ => rfl) rfl rfl rfl rfl

theorem failRunning_lockout {s : State} (hs : LockoutIsQuiet s) {f : Frame} (hdue : transferDue s f = true) :
    LockoutIsQuiet (failRunning f .transferTimeout s) :=
  hs.steady (failRunning_steady f _ s) (failRunning_guarded rfl s).drops fun _ hquiet => by
    unfold transferDue at hdue
    rw [(hquiet f).transfer] at hdue
    cases hdue

theorem saveRequest_quiet {s : State} (hs : AllQuiet s) (w : List Waiter) : AllQuiet (saveRequest w s) := by
  rw [saveRequest_frame]
  exact hs.of_blocks (fun _ => rfl) rfl rfl rfl rfl

theorem takeOverSurvey_quiet {s : State} (hs : AllQuiet s) : AllQuiet (takeOverSurvey s) := by
  unfold takeOverSurvey
  refine saveRequest_quiet (AllQuiet.of_noGrants hs ?_ ?_ ?_ ?_ ?_) []
  all_goals rfl

theorem tellWriteEnd_quiet {s : State} (hmode : s.mdc.mode = .lockout) (hs : AllQuiet s) (r : Region)
    (completed : Bool) : AllQuiet (tellWriteEnd r completed s) := by
  have hsettle (x : SaveState) : AllQuiet (settleSave x s) := hs.of_blocks (fun _ => rfl) rfl rfl rfl rfl
  have hfailed : AllQuiet (enterNotSaved s) := by
    unfold enterNotSaved
    dsimp only
    rw [tellAll_quiet _ _ (hsettle .notSaved)]
    have hraised : AllQuiet ((settleSave .notSaved s).raiseWatchers .storeFault) :=
      (hsettle .notSaved).of_blocks (fun _ => rfl) rfl rfl rfl rfl
    rwa [enterHold_of_ne (s := (settleSave .notSaved s).raiseWatchers .storeFault) (lockout_ne_run hmode)]
  unfold tellWriteEnd
  split
  · exact takeOverSurvey_quiet hs
  · exact hs.of_blocks (fun _ => rfl) rfl rfl rfl rfl
  · unfold inventoryWriteCompleted
    split
    · rw [tellAll_quiet _ _ (hsettle .clean)]
      exact hsettle .clean
    · dsimp only
      rw [tellAll_quiet _ _ hs]
      exact hs.of_blocks (fun _ => rfl) rfl rfl rfl rfl
    · exact hs
    · exact hs
  · unfold inventoryWriteFailed
    split
    · exact hfailed
    · exact hfailed
    · exact hs
    · exact hs

theorem tellWriteEnd_lockout {s : State} (hs : LockoutIsQuiet s) (r : Region) (completed : Bool) :
    LockoutIsQuiet (tellWriteEnd r completed s) :=
  hs.of_drops (tellWriteEnd_attempt r completed s).startUp (tellWriteEnd_guarded r completed s).drops
    fun hmode hquiet => tellWriteEnd_quiet hmode hquiet r completed

theorem setSti_lockout {s : State} (hs : LockoutIsQuiet s) (x : Sti) : LockoutIsQuiet (s.setSti x) :=
  hs.of_drops rfl (.inl rfl) fun _ hquiet => hquiet.of_blocks (fun _ => rfl) rfl rfl rfl rfl

theorem afterStraps_lockout (sound : Bool) (roles : List Role) (stop : Bool) (q : List Instr) :
    LockoutIsQuiet (afterStraps sound (sampled roles stop q)) := by
  refine ⟨fun _ => (afterStraps_fields sound roles stop q).1, fun _ f => ?_⟩
  cases sound <;> cases f <;> exact ⟨rfl, rfl, rfl, rfl, rfl⟩

/-- Start-up waits for a read in LOCKOUT (R148, R178). -/
theorem lockout_of_awaitsRead {s : State} (hs : LockoutIsQuiet s) {x : StartUp} {r : Region}
    (h : awaitsRead s x r = true) (hx : x ≠ .ended) : s.mdc.mode = .lockout := by
  unfold awaitsRead at h
  rw [Bool.and_eq_true, beq_iff_eq] at h
  exact hs.startUp (h.1 ▸ hx)

theorem lockoutIsQuiet_kept : OperationsKeep LockoutIsQuiet where
  blind := lockoutIsQuiet_blind
  request i _ hstart hs := requestBody_lockout hs hstart i
  staleness f _ hs := stalenessEnds_lockout hs f
  timer _ _ hdue hs := failRunning_lockout hs hdue
  stop _ hs := assertStop_lockout hs
  release _ hs := hs.of_drops rfl (.inl rfl) fun _ hquiet => hquiet.of_blocks (fun _ => rfl) rfl rfl rfl rfl
  done k s hs := hs.steady (gdoneEdge_steady k s) (gdoneEdge_tripping k s).drops fun _ hquiet => gdoneEdge_quiet hquiet k
  fault k s hs := hs.steady (gfltEdge_steady k s) (gfltEdge_tripping k s).drops fun _ hquiet => gfltEdge_quiet hquiet k
  reset := afterStraps_lockout
  survey _ s hread hs := by
    have hmode := lockout_of_awaitsRead hs hread (by decide)
    exact ⟨fun _ => hmode, fun _ => AllQuiet.of_noGrants (hs.quiet hmode) rfl rfl rfl rfl rfl⟩
  inventory chosen s hread hs := by
    have hmode := lockout_of_awaitsRead hs hread (by decide)
    have hquiet : AllQuiet (loadInventory chosen (endRead .inventory chosen s)) := by
      rw [loadInventory_inventory chosen]
      exact AllQuiet.of_blocks (hs.quiet hmode) (fun _ => rfl) rfl rfl rfl rfl
    exact ⟨fun h => absurd rfl h, fun _ => hquiet.of_blocks (fun _ => rfl) rfl rfl rfl rfl⟩
  attempt r _ _ _ _ _ _ hs := attemptEnds_induct (setSti_lockout hs _)
    fun _ completed => tellWriteEnd_lockout (setSti_lockout hs _) r completed

/-- Settles O14: in LOCKOUT every operation finds a quiet frame and leaves it quiet, and LOCKOUT is entered by quieting
both frames. -/
theorem lockoutStaysQuiet : Obligations.LockoutStaysQuiet := fun _ _ hs => lockoutIsQuiet_kept.step hs

end Sys2Proof.Machine
end

section
/-! SUPPORT. O7: the output lines through every command. -/

namespace Sys2Proof.Machine

/-! ### The lines as they are driven (R67, R131, R158, R170) -/

theorem permitLine_iff (s : State) (f : Frame) : permitLine s f = true ↔
    (s.mdc.mode = .run ∧ s.mdc.stopN = false ∧ s.mdc.latch = false ∧ (s.tracker f).state = .tracked ∧
      s.transfer f = none) := by
  simp [permitLine, State.inFlight, and_assoc]

theorem faultLine_iff (s : State) : faultLine s = true ↔
    (s.mdc.strapFault = true ∨ (surveySettled s = true ∧ s.svt.state = .unconfigured) ∨
      ∃ f, (s.tracker f).state = .tripped) := by
  have hframes : (∃ f, (s.tracker f).state = .tripped) ↔
      (s.tracker .U).state = .tripped ∨ (s.tracker .L).state = .tripped := by
    constructor
    · rintro ⟨f, h⟩
      cases f
      · exact .inl h
      · exact .inr h
    · rintro (h | h)
      · exact ⟨_, h⟩
      · exact ⟨_, h⟩
  rw [hframes]
  simp [faultLine, or_assoc]

theorem commandsGear_iff (kind : Kind) (k : Nat) (x : Option Transfer) : commandsGear kind k x = true ↔
    ∃ t, x = some t ∧ t.phase = .gearRunning ∧ t.kind = kind ∧ t.landing = k := by
  cases x with
  | none => simp [commandsGear]
  | some t => simp [commandsGear, and_assoc]

theorem gearLine_iff (s : State) (kind : Kind) (k : Nat) : gearLine s kind k = true ↔
    ∃ f t, s.transfer f = some t ∧ t.phase = .gearRunning ∧ t.kind = kind ∧ t.landing = k := by
  rw [gearLine, Bool.or_eq_true, commandsGear_iff, commandsGear_iff]
  constructor
  · rintro (h | h)
    · exact ⟨.U, h⟩
    · exact ⟨.L, h⟩
  · rintro ⟨f, h⟩
    cases f
    · exact .inl h
    · exact .inr h

/-- Every line follows where the part has just driven them. -/
theorem drive_follows (s : State) : LinesFollow s.drive where
  permit f := by
    refine Iff.trans ?_ (permitLine_iff s f)
    cases f <;> exact Iff.rfl
  fault := faultLine_iff s
  load k hk := by
    change (Bank.ofFn 12 (gearLine s .load)).getD k false = true ↔ _
    rw [Bank.getD_ofFn, if_pos hk]
    exact gearLine_iff s .load k
  unload k hk := by
    change (Bank.ofFn 12 (gearLine s .unload)).getD k false = true ↔ _
    rw [Bank.getD_ofFn, if_pos hk]
    exact gearLine_iff s .unload k
  attn p := by
    rw [State.port_drive]
    change attnLine (s.port p) = true ↔ _
    simp [attnLine]

/-! ### What leaves the lines and their conditions alone -/

/-- Neither a line nor a condition of one changes: SVT keeps being UNCONFIGURED or not, and only INV, TKU, STI and the
timed-out markers may change besides. -/
structure LinesSame (s t : State) : Prop where
  blocks : t = { s with
    svt := t.svt, inv := t.inv, tku := t.tku, sti := t.sti, xfc := { s.xfc with timedOut := t.xfc.timedOut } }
  survey : t.svt.state = .unconfigured ↔ s.svt.state = .unconfigured

theorem LinesSame.refl (s : State) : LinesSame s s := ⟨rfl, Iff.rfl⟩

theorem LinesSame.follows {s t : State} (h : LinesSame s t) (hs : LinesFollow s) : LinesFollow t := by
  obtain ⟨hblocks, hsurvey⟩ := h
  obtain ⟨hpermit, hfault, hload, hunload, hattn⟩ := hs
  have hfault' : t.mdc.fault = true ↔ (t.mdc.strapFault = true ∨ (surveySettled t = true ∧ t.svt.state = .unconfigured) ∨
      ∃ f, (t.tracker f).state = .tripped) := by
    rw [hsurvey, hblocks]
    exact hfault
  refine ⟨?_, hfault', ?_, ?_, ?_⟩ <;> rw [hblocks]
  · exact hpermit
  · exact hload
  · exact hunload
  · exact hattn

/-- An answer that drives the lines, or leaves them and their conditions alone. -/
def LinesKept (s t : State) : Prop := (∃ u : State, t = u.drive) ∨ LinesSame s t

theorem LinesKept.refl (s : State) : LinesKept s s := Or.inr (.refl s)

theorem LinesKept.driven {s u : State} : LinesKept s u.drive := Or.inl ⟨u, rfl⟩

theorem LinesKept.follows {s t : State} (h : LinesKept s t) (hs : LinesFollow s) : LinesFollow t := by
  obtain ⟨u, rfl⟩ | h := h
  · exact drive_follows u
  · exact h.follows hs

/-- A port changes in neither flags, mask nor ATTN. -/
theorem LinesFollow.setPort {s : State} (hs : LinesFollow s) {p : PortId} {x : PortState}
    (hflags : x.flags = (s.port p).flags) (hmask : x.mask = (s.port p).mask) (hattn : x.attn = (s.port p).attn) :
    LinesFollow (s.setPort p x) := by
  refine ⟨hs.permit, hs.fault, hs.load, hs.unload, fun q => ?_⟩
  by_cases hq : q = p
  · subst hq
    rw [State.port_setPort, hflags, hmask, hattn]
    exact hs.attn q
  · rw [State.port_setPort_ne _ _ _ _ hq]
    exact hs.attn q

theorem EndFrame.linesSame {s t : State} (h : EndFrame s t) (hports : t.ports = s.ports) : LinesSame s t := by
  unfold EndFrame at h
  rw [hports] at h
  rw [h]
  exact ⟨rfl, Iff.rfl⟩

theorem InventoryFrame.linesSame {s t : State} (h : InventoryFrame s t) (hports : t.ports = s.ports) :
    LinesSame s t := by
  unfold InventoryFrame at h
  rw [hports] at h
  rw [h]
  exact ⟨rfl, Iff.rfl⟩

/-! ### Requests -/

theorem requestTravel_lines (f : Frame) (target : Nat) (s : State) : LinesKept s (requestTravel f target s).1 := by
  unfold requestTravel
  split
  · exact .refl s
  split
  · exact .refl s
  split
  · exact .refl s
  split
  · exact .refl s
  split
  · exact .refl s
  split
  · exact .refl s
  unfold takeTravel
  split
  · exact .driven
  split
  · exact .driven
  split
  · exact .driven
  · exact .refl s

theorem releaseTravel_lines (f : Frame) (s : State) : LinesKept s (releaseTravel f s).1 := by
  unfold releaseTravel
  split
  · exact .refl s
  · exact .driven

theorem requestTransfer_lines (f : Frame) (s : State) : LinesKept s (requestTransfer f s).1 := by
  unfold requestTransfer
  split
  · exact .refl s
  split
  · exact .refl s
  split
  · exact .refl s
  split
  · split
    · exact .refl s
    split
    · exact .refl s
    split
    · exact .refl s
    · unfold startTransfer
      split
      · exact .refl s
      · split
        · exact .refl s
        · exact .driven
  · exact .refl s

theorem submitTask_lines (tag : BitVec 16) (id b frame : Nat) (s : State) :
    LinesKept s (submitTask tag id b frame s).1 := by
  unfold submitTask
  split
  · exact .refl s
  split
  · exact .refl s
  split
  · exact .refl s
  split
  · exact .refl s
  split
  · exact .refl s
  split
  · exact .refl s
  split
  · exact .refl s
  · exact .driven

theorem cancelTask_lines (id : Nat) (s : State) : LinesKept s (cancelTask id s).1 := by
  unfold cancelTask
  split
  · exact .refl s
  split
  · exact .refl s
  split
  · exact .driven
  · exact .driven
  · exact .inr ⟨rfl, Iff.rfl⟩
  · exact .refl s

theorem moveDestination_ports (id b : Nat) (s : State) : (moveDestination id b s).ports = s.ports := by
  have hreserve (t : State) : (reserveBay b id t).ports = t.ports := by rw [reserveBay_frame b id t]
  have hrelease (c : Nat) (t : State) : (releaseBay c id t).ports = t.ports := by rw [releaseBay_frame c id t]
  unfold moveDestination
  dsimp only
  split
  · exact hreserve s
  · exact (hreserve _).trans (hrelease _ s)

theorem redirectTask_lines (id b : Nat) (s : State) : LinesKept s (redirectTask id b s).1 := by
  unfold redirectTask
  split
  · exact .refl s
  split
  · exact .refl s
  split
  · exact .refl s
  split
  · exact .refl s
  split
  · exact .refl s
  · simp only []
    split
    · exact .driven
    · exact .inr ((moveDestination_end id b s).linesSame (moveDestination_ports id b s))

theorem takeCompletion_lines (s : State) : LinesKept s (takeCompletion s).1 := by
  unfold takeCompletion
  split
  · exact .refl s
  · exact .inr ⟨rfl, Iff.rfl⟩

theorem requestHold_lines (s : State) : LinesKept s (requestHold s).1 := by
  unfold requestHold
  split
  · exact .driven
  · exact .refl s
  · exact .refl s

theorem requestResume_lines (s : State) : LinesKept s (requestResume s).1 := by
  unfold requestResume
  split
  · exact .refl s
  split
  · exact .refl s
  split
  · exact .refl s
  split
  · exact .refl s
  split
  · exact .refl s
  split
  · exact .refl s
  split
  · exact .refl s
  · exact .driven

theorem requestLockout_lines (s : State) : LinesKept s (requestLockout s).1 := by
  unfold requestLockout
  split
  · exact .refl s
  split
  · exact .refl s
  split
  · exact .refl s
  · exact .driven

theorem requestUnlock_lines (s : State) : LinesKept s (requestUnlock s).1 := by
  unfold requestUnlock
  split
  · exact .refl s
  split
  · exact .refl s
  split
  · exact .refl s
  split
  · exact .refl s
  · exact .driven

theorem acknowledgeStop_lines (s : State) : LinesKept s (acknowledgeStop s).1 := by
  unfold acknowledgeStop
  split
  · exact .refl s
  · exact .driven

theorem clearTripOf_lines (f : Frame) (s : State) : LinesKept s (clearTripOf f s).1 := by
  unfold clearTripOf
  split
  · exact .refl s
  split
  · exact .refl s
  split
  · exact .refl s
  split
  · exact .refl s
  split
  · exact .refl s
  generalize firstMass s (barsClearing f) = barring
  cases barring with
  | some id => exact .refl s
  | none =>
    simp only []
    split
    · exact .driven
    · exact .refl s

theorem clearTrip_lines (n : Nat) (s : State) : LinesKept s (clearTrip n s).1 := by
  unfold clearTrip
  split
  · exact .refl s
  split
  · exact .refl s
  split
  · exact .refl s
  · exact .refl s
  · exact .refl s
  · exact clearTripOf_lines _ s

theorem setTuning_lines (x : TuningParts) (s : State) : LinesKept s (setTuning x s).1 := by
  unfold setTuning
  split
  · exact .refl s
  · exact .driven

/-- An edited survey is UNCONFIGURED where it was before (R6). -/
theorem editedState_iff (x : Svt) (edit : Survey) :
    editedState x edit = .unconfigured ↔ x.state = .unconfigured := by
  unfold editedState
  split
  · next h => simp [h]
  · next h => split <;> simp [h]

theorem setSurveyItem_lines (c i v : Nat) (s : State) : LinesKept s (setSurveyItem c i v s).1 := by
  unfold setSurveyItem
  split
  · exact .refl s
  split
  · exact .refl s
  split
  · exact .refl s
  · exact .inr ⟨rfl, editedState_iff s.svt _⟩

theorem saveSurvey_lines (s : State) : LinesKept s (saveSurvey s).1 := by
  unfold saveSurvey
  split
  · exact .refl s
  split
  · exact .refl s
  split
  · exact .refl s
  · exact .inr ⟨rfl, Iff.rfl⟩

theorem declareMass_lines (id nominal kind p1 p2 : Nat) (s : State) :
    LinesKept s (declareMass id nominal kind p1 p2 s).1 := by
  unfold declareMass
  split
  · exact .refl s
  split
  · exact .refl s
  split
  · exact .refl s
  split
  · exact .refl s
  split
  · exact .refl s
  · exact .driven

theorem confirmInventory_lines (s : State) : LinesKept s (confirmInventory s).1 := by
  unfold confirmInventory
  split
  · exact .refl s
  generalize firstMass s barsConfirming = barring
  cases barring with
  | some id => exact .refl s
  | none =>
    simp only []
    split
    · exact .refl s
    · exact .driven

theorem saveRequest_ports (w : List Waiter) (s : State) : (saveRequest w s).ports = s.ports := by
  rw [saveRequest_frame]

theorem saveRequestByDispatch_ports (s : State) : (saveRequestByDispatch s).ports = s.ports := by
  unfold saveRequestByDispatch
  split
  · rfl
  · exact saveRequest_ports [] s

theorem saveRequestIf_ports (b : Bool) (s : State) : (saveRequestIf b s).ports = s.ports := by
  unfold saveRequestIf
  split
  · exact saveRequest_ports [] s
  · rfl

theorem setBayService_lines (b flag : Nat) (s : State) : LinesKept s (setBayService b flag s).1 := by
  unfold setBayService
  split
  · exact .refl s
  split
  · exact .refl s
  split
  · exact .inr ((setBayInService_inventory b _ s).linesSame (saveRequestIf_ports _ _))
  · exact .refl s

theorem LinesSame.trans {s t u : State} (h1 : LinesSame s t) (h2 : LinesSame t u) : LinesSame s u := by
  obtain ⟨hblocks1, hsurvey1⟩ := h1
  obtain ⟨hblocks2, hsurvey2⟩ := h2
  refine ⟨?_, hsurvey2.trans hsurvey1⟩
  rw [hblocks1] at hblocks2
  exact hblocks2

theorem setLandingService_lines (k flag : Nat) (s : State) : LinesKept s (setLandingService k flag s).1 := by
  unfold setLandingService
  split
  · exact .refl s
  split
  · exact .refl s
  next v _ =>
  have hset : LinesSame s (setLandingInService k v s) :=
    (setLandingInService_inventory k v s).linesSame (saveRequestIf_ports _ _)
  split
  · simp only [serveLanding, answerWith]
    split
    · exact .inr (hset.trans ⟨rfl, Iff.rfl⟩)
    · exact .inr hset
  · exact .refl s

theorem setEventMask_lines (p : PortId) (x : BitVec 16) (s : State) : LinesKept s (setEventMask p x s).1 := by
  unfold setEventMask
  split
  · exact .driven
  · exact .refl s

theorem clearEvents_lines (p : PortId) (x : BitVec 16) (s : State) : LinesKept s (clearEvents p x s).1 := by
  unfold clearEvents
  dsimp only
  split
  · exact .driven
  · exact .refl s

theorem LinesKept.of_eq {s t : State} (h : t = s) : LinesKept s t := h ▸ .refl s

/-- The block that answers a request drives the lines where a condition of one may have changed (R166). -/
theorem requestBody_lines (i : Instr) (s : State) : LinesKept s (requestBody i s).1 := by
  cases i with
  | position p e v m fl => exact forWinder_keeps (.refl s) fun f => .driven
  | requestTravel p target => exact forWinder_keeps (.refl s) fun f => requestTravel_lines f _ s
  | releaseTravel p => exact forWinder_keeps (.refl s) fun f => releaseTravel_lines f s
  | readGrant p => exact forWinder_keeps (.refl s) fun f => .refl s
  | readTask p => exact forWinder_keeps (.refl s) fun f => .of_eq (readTask_state f s)
  | transfer p => exact forWinder_keeps (.refl s) fun f => requestTransfer_lines f s
  | submitTask p tag mass bay frame => exact submitTask_lines _ _ _ _ s
  | cancelTask p id => exact cancelTask_lines _ s
  | redirectTask p id bay => exact redirectTask_lines _ _ s
  | takeCompletion p => exact takeCompletion_lines s
  | hold p => exact requestHold_lines s
  | resume p => exact requestResume_lines s
  | lockout p => exact requestLockout_lines s
  | unlock p => exact requestUnlock_lines s
  | ackStop p => exact acknowledgeStop_lines s
  | clearTrip p frame => exact clearTrip_lines _ s
  | setTuning p present vlU legU vlL legL len entries => exact setTuning_lines _ s
  | setSurveyItem p n index value => exact setSurveyItem_lines _ _ _ s
  | saveSurvey p => exact saveSurvey_lines s
  | declareMass p id nominal kind place1 place2 => exact declareMass_lines _ _ _ _ _ s
  | confirmInventory p => exact confirmInventory_lines s
  | saveInventory p =>
    exact .inr ((saveRequestByDispatch_inventory s).linesSame (saveRequestByDispatch_ports s))
  | setBayService p bay flag => exact setBayService_lines _ _ s
  | setLandingService p landing flag => exact setLandingService_lines _ _ s
  | readFrame p frame => exact .of_eq (readFrame_state _ s)
  | readMass p id => exact .of_eq (readMass_state _ s)
  | readBay p bay => exact .of_eq (readBay_state _ s)
  | readSurveyItem p n index copy => exact .of_eq (readSurveyItem_state _ _ _ s)
  | readTaskById p id => exact .of_eq (readTaskById_state _ s)
  | clearEvents p flags => exact clearEvents_lines p flags s
  | setEventMask p enables => exact setEventMask_lines p enables s
  | _ => exact .refl s

/-! ### Commands -/

theorem addReply_follows {s : State} (hs : LinesFollow s) (p : PortId) (x : Reply) : LinesFollow (addReply p x s) :=
  hs.setPort rfl rfl rfl

theorem setRx_follows {s : State} (hs : LinesFollow s) (p : PortId) (x : Rx) : LinesFollow (setRx p x s) :=
  hs.setPort rfl rfl rfl

theorem discardFrame_follows (p : PortId) (c : LinkCause) (s : State) : LinesFollow (discardFrame p c s) :=
  drive_follows _

theorem takeFrame_follows {p : PortId} {type : Byte} {r : Option Req} {fits : Bool} {body : State → Answer} {s : State}
    (hs : LinesFollow s) (h : LinesKept s (body s).1) : LinesFollow (takeFrame p type r fits body s) :=
  takeFrame_induct hs (discardFrame_follows p _ s) (fun x _ => addReply_follows hs p x)
    (fun x _ _ => addReply_follows (h.follows hs) p x)

theorem takeBytes_follows {s : State} (hs : LinesFollow s) (p : PortId) (type : Byte) (payload : List Byte) :
    LinesFollow (takeBytes p type payload s) := by
  unfold takeBytes
  split
  · exact takeFrame_follows hs (.refl s)
  · split
    · exact takeFrame_follows hs (requestBody_lines _ s)
    · exact takeFrame_follows hs (.refl s)

theorem exec_follows (c : Instr) {s t : State} (hs : LinesFollow s) (h : exec c s = .next t) : LinesFollow t := by
  have hif {b : Bool} {u : State} (hu : LinesFollow u) : LinesFollow (if b then u else s) := by
    split
    · exact hu
    · exact hs
  obtain ⟨t', hnext, ht⟩ := exec_induct (P := fun _ t => LinesFollow t) (s := s)
    (fun i _ _ _ _ => takeFrame_follows hs (requestBody_lines i s))
    (takeBytes_follows hs)
    (fun p c => hif (discardFrame_follows p _ s))
    (fun p => hif (discardFrame_follows p _ s))
    (fun p => by
      unfold linkBreak
      split
      · exact hs
      · exact drive_follows _)
    (fun p => hs.setPort rfl rfl rfl)
    (fun p => hs.setPort rfl rfl rfl)
    (fun p b => receiveByte_induct hs (setRx_follows hs p) (fun c => discardFrame_follows p c s)
      (takeBytes_follows (setRx_follows hs p .hunt) p))
    (fun f => hif (drive_follows _))
    (fun f => hif (drive_follows _))
    (by
      unfold stopAsserted
      split
      · exact hs
      · exact drive_follows _)
    (hif (drive_follows _))
    (fun k => drive_follows _)
    (fun k => drive_follows _)
    (fun _ _ _ _ a => drive_follows _)
    (fun a b => hif (drive_follows _))
    (fun a b => hif (drive_follows _))
    (fun back => by
      unfold storeAttemptEnds
      split
      · exact drive_follows _
      · exact hs
      · exact hs) c
  obtain rfl : t' = t := by simpa [hnext] using h
  exact ht

/-- Settles O7: a command that may change a condition of a line drives the lines last, and no other touches one. -/
theorem outputLinesFollowTheirConditions : Obligations.OutputLinesFollowTheirConditions := fun _ _ =>
  step_keeps (fun _ _ ⟨h1, h2, h3, h4, h5⟩ => ⟨h1, h2, h3, h4, h5⟩) (fun c _ _ hs => exec_follows c hs)
    (fun _ ⟨h1, h2, h3, h4, h5⟩ => ⟨h1, h2, h3, h4, h5⟩)

end Sys2Proof.Machine
end

section
/-! SUPPORT. O23 to O28: what each read carries. -/

namespace Sys2Proof.Machine

/-! ### Codes and optional items (R183) -/

@[simp] theorem frameOfCode_frameCode (f : Frame) : frameOfCode (frameCode f) = some f := by
  cases f <;> rfl

theorem frameOfCode_none {n : Nat} (h : 2 ≤ n) : frameOfCode n = none := by
  rw [frameOfCode, if_neg (by omega), if_neg (by omega)]

theorem frameCode_lt_two (f : Frame) : frameCode f < 2 := by
  cases f <;> decide

theorem optionalByte_eq (x : Option Nat) : optionalByte x = match x with
    | some v => [1] ++ u8 v
    | none => List.replicate 2 0 := by
  cases x <;> rfl

theorem u8_length (n : Nat) : (u8 n).length = 1 := leBytes_length 1 n

theorem u32_length (n : Nat) : (u32 n).length = 4 := leBytes_length 4 n

theorem u8_verifiedCode (b : Bool) : u8 (verifiedCode b) = [if b then 1 else 0] := by
  cases b <;> rfl

/-! ### READ_FRAME (R35) -/

theorem optionalItem_reportItems (x : Option Report) : optionalItem 15 (x.map reportItems) = match x with
    | some r => [1] ++ u32 r.e ++ signed 2 r.v ++ u32 r.m ++ [if r.brakeSet then 1 else 0] ++ u32 r.arrival.toNat
    | none => List.replicate 16 0 := by
  cases x <;> rfl

theorem optionalItem_msLeft (now : BitVec 32) (x : Option (BitVec 32)) :
    optionalItem 4 (x.map (fun y => u32 (msLeft now y))) = match x with
      | some y => [1] ++ u32 (msLeft now y)
      | none => List.replicate 5 0 := by
  cases x <;> rfl

theorem readFrame_frameCode (f : Frame) (s : State) :
    readFrame (frameCode f) s = answerWith s .ok (frameItems s f) := by
  rw [readFrame, frameOfCode_frameCode]

theorem readFrame_refused {n : Nat} (h : 2 ≤ n) (s : State) : readFrame n s = answer s .range := by
  rw [readFrame, frameOfCode_none h]

/-- Settles O23: a code names its frame and no other number a frame, and the items are R35's one by one. -/
theorem readFrameReportsTheTracker : Obligations.ReadFrameReportsTheTracker := by
  intro p frame s h
  refine ⟨fun f hf => exec_of_admitted rfl h ?_, fun hf => exec_of_admitted rfl h (readFrame_refused hf s)⟩
  change readFrame frame.toNat s = _
  rw [hf, readFrame_frameCode, answerWith, frameItems]
  simp only [optionalItem_reportItems, optionalItem_msLeft, optionalByte_eq]
  rfl

/-! ### The bays of a layout (R5) -/

theorem bayPlace_none {cs : List Nat} {b : Nat} (k : Nat) (h : cs.sum ≤ b) : bayPlace cs k b = none := by
  induction cs generalizing k b with
  | nil => rfl
  | cons c cs ih =>
    rw [List.sum_cons] at h
    rw [bayPlace, if_neg (by omega), ih (k + 1) (by omega)]

theorem bayIdentity_none {sv : Survey} {b : Nat} (h : sv.nb ≤ b) : sv.bayIdentity b = none := bayPlace_none 0 h

/-! ### The reads of INV (R103, R104) -/

theorem readMass_ok {id : Nat} (h1 : 1 ≤ id) (h2 : id ≤ 40) (s : State) : readMass id s =
    answerWith s .ok (massItems (s.mass id) ++ u64 (massEnergy s.svt.working (s.mass id))) :=
  if_pos ⟨h1, h2⟩

theorem readMass_refused {id : Nat} (h : id = 0 ∨ 40 < id) (s : State) : readMass id s = answer s .range :=
  if_neg (by omega)

theorem readBay_ok {b k j : Nat} {s : State} (h : s.svt.working.bayIdentity b = some (k, j)) : readBay b s =
    answerWith s .ok
      (bayItems (s.bay b) ++ u8 k ++ u8 j ++ indication (bayUsable s b) ++ landingItems (s.landing k)) := by
  rw [readBay, h]

theorem readBay_refused {b : Nat} {s : State} (h : s.svt.working.nb ≤ b) : readBay b s = answer s .range := by
  rw [readBay, bayIdentity_none h]

theorem bayUsable_of_identity {s : State} {b k j : Nat} (h : s.svt.working.bayIdentity b = some (k, j)) :
    bayUsable s b = ((s.bay b).inService && (s.landing k).inService) := by
  rw [bayUsable, Survey.landingOf, h]
  rfl

/-- Settles O24: each read answers in its range as its items say, and a number outside it with RANGE. -/
theorem inventoryReadsReportTheRecords : Obligations.InventoryReadsReportTheRecords := by
  intro p n s
  refine ⟨fun h h1 h2 => exec_of_admitted rfl h ?mass, fun h hn => exec_of_admitted rfl h (readMass_refused hn s),
    fun k j h hb => exec_of_admitted rfl h ?bay, fun h hb => exec_of_admitted rfl h (readBay_refused hb),
    fun h => exec_of_admitted rfl h ?energy⟩
  case mass =>
    change readMass n.toNat s = _
    rw [readMass_ok h1 h2, answerWith, massItems]
    simp only [optionalByte_eq]
    rfl
  case bay =>
    change readBay n.toNat s = _
    rw [readBay_ok hb, answerWith, bayItems, bayUsable_of_identity hb]
    simp only [optionalByte_eq, landingItems, indication, List.append_assoc]
    rfl
  case energy =>
    change readEnergy s = _
    rw [readEnergy, answerWith, u8_verifiedCode]
    simp [Status.code]

/-! ### READ_GRANT (R69) -/

theorem grantBits_eq (s : State) (f : Frame) : grantBits s f =
    (if (s.grant f).isSome then 1 else 0) + (if (s.request f).isSome then 2 else 0) +
      (if (s.request f).any (fun t => t.dir == .down) then 4 else 0) +
      (if (demand s f).isSome then 8 else 0) + (if s.gru.permit.get f then 16 else 0) := by
  rw [grantBits]
  rcases s.request f with _ | ⟨target, dir⟩
  · rfl
  · cases dir <;> rfl

theorem grantItems_eq (sv : Survey) (g : Option Run) : grantItems sv g = match g with
    | some g => u8 g.lo ++ u8 g.hi ++ u32 (g.lo * sv.zl) ++ u32 (min ((g.hi + 1) * sv.zl) sv.sl)
    | none => List.replicate 10 0 := by
  cases g <;> rfl

theorem demandItems_eq (d : Option Run) : demandItems d = match d with
    | some d => u8 d.lo ++ u8 d.hi
    | none => List.replicate 2 0 := by
  cases d <;> rfl

theorem u32_target (t : Option Travel) : u32 ((t.map (·.target)).getD 0) = match t with
    | some t => u32 t.target
    | none => List.replicate 4 0 := by
  cases t <;> rfl

/-- Settles O25: the request goes to the frame of the port's role, and the items are those of the layout one by one. -/
theorem readGrantReportsGrantRequestAndDemand : Obligations.ReadGrantReportsGrantRequestAndDemand := by
  intro p f s h hrole
  refine exec_of_admitted rfl h ?_
  change forWinder p readGrant s = _
  have hdown : (s.request f).any (fun t => t.dir == .down) = match s.request f with
      | some t => t.dir == .down
      | none => false := by
    cases s.request f <;> rfl
  rw [forWinder_eq hrole, readGrant, answerWith, grantBits_eq, hdown, grantItems_eq, demandItems_eq, u32_target]
  simp only [List.append_assoc]
  rfl

/-! ### READ_TASK and READ_TASK_BY_ID (R127, R128) -/

theorem taskBay_eq (t : Task) : taskBay t =
    if t.phase = .toPickup ∨ t.phase = .loading then t.source.getD t.dest else t.dest := by
  rw [taskBay]
  cases t.phase <;> rfl

theorem taskTransferCode_eq (t : Task) : taskTransferCode t =
    if t.phase = .toPickup then 0 else if t.phase = .toDrop then 1 else 0xFF := by
  rw [taskTransferCode]
  cases t.phase <;> rfl

theorem and_cancelled_ne_zero (x : BitVec 16) : (x &&& TaskReason.cancelled.bit != 0) = x.getLsbD 0 := by
  have hbit : TaskReason.cancelled.bit = BitVec.twoPow 16 0 := by decide
  rw [hbit, BitVec.and_twoPow]
  cases x.getLsbD 0 <;> rfl

theorem readTask_empty {f : Frame} {s : State} (h : s.tku.queues.get f = []) : readTask f s = answer s .noTask := by
  rw [readTask, State.head, h]
  rfl

theorem readTask_cons {f : Frame} {s : State} {id : Nat} {rest : List Nat} (h : s.tku.queues.get f = id :: rest) :
    readTask f s = answerWith s .ok (headItems s id) := by
  rw [readTask, State.head, h]
  rfl

theorem taskItems_free {s : State} {id : Nat} (hu : id ∉ s.tku.queues.u) (hl : id ∉ s.tku.queues.l)
    (hc : id ∉ s.tku.completion) : taskItems s id = [0] := by
  rw [taskItems, collectionCode, liveIn, if_neg hu, if_neg hl]
  simp only [if_neg hc]
  rfl

theorem taskItems_completion {s : State} {id : Nat} (hu : id ∉ s.tku.queues.u) (hl : id ∉ s.tku.queues.l)
    (hc : id ∈ s.tku.completion) : taskItems s id = [3, 0] ++ recordBytes id (s.task id) ++ [0, 0] := by
  rw [taskItems, collectionCode, queuePlace, cancelItem, liveIn, if_neg hu, if_neg hl]
  simp only [if_pos hc]
  rfl

theorem taskItems_u {s : State} {id : Nat} (hu : id ∈ s.tku.queues.u) : taskItems s id =
    [1] ++ u8 (s.tku.queues.u.idxOf id) ++ recordBytes id (s.task id) ++
      [1, if (s.task id).cancelPending then 1 else 0] := by
  rw [taskItems, collectionCode, queuePlace, cancelItem, liveIn, if_pos hu]
  rfl

theorem taskItems_l {s : State} {id : Nat} (hu : id ∉ s.tku.queues.u) (hl : id ∈ s.tku.queues.l) : taskItems s id =
    [2] ++ u8 (s.tku.queues.l.idxOf id) ++ recordBytes id (s.task id) ++
      [1, if (s.task id).cancelPending then 1 else 0] := by
  rw [taskItems, collectionCode, queuePlace, cancelItem, liveIn, if_neg hu, if_pos hl]
  rfl

theorem readTaskById_ok {id : Nat} (h : id < 32) {s : State} {items : List Byte} (hi : taskItems s id = items) :
    readTaskById id s = (s, 0x00 :: items) := by
  rw [readTaskById, if_neg (by omega), hi]
  rfl

theorem readTaskById_refused {id : Nat} (h : 32 ≤ id) (s : State) : readTaskById id s = answer s .range :=
  if_pos (by omega)

/-- Settles O26: an empty queue and its head for READ_TASK, and the four collections of a record for READ_TASK_BY_ID. -/
theorem taskReadsReportTheRecords : Obligations.TaskReadsReportTheRecords := by
  intro p f n s
  refine ⟨fun h hrole hq => exec_of_admitted rfl h ?empty, fun id rest b k h hrole hq hb hk => exec_of_admitted rfl h ?head,
    fun h hn => exec_of_admitted rfl h (readTaskById_refused hn s),
    fun h hn hu hl hc => exec_of_admitted rfl h (readTaskById_ok hn (taskItems_free hu hl hc)),
    fun h hn hu => exec_of_admitted rfl h (readTaskById_ok hn (taskItems_u hu)),
    fun h hn hu hl => exec_of_admitted rfl h (readTaskById_ok hn (taskItems_l hu hl)),
    fun h hn hu hl hc => exec_of_admitted rfl h (readTaskById_ok hn (taskItems_completion hu hl hc))⟩
  case empty =>
    change forWinder p readTask s = _
    rw [forWinder_eq hrole, readTask_empty hq]
    rfl
  case head =>
    rw [← taskBay_eq] at hb
    subst hb
    change forWinder p readTask s = _
    rw [forWinder_eq hrole, readTask_cons hq, headItems, hk, taskTransferCode_eq, and_cancelled_ne_zero]
    rfl

/-! ### READ_STATUS (R173) -/

theorem contextItems_eq (s : State) (f : Frame) : contextItems s f = match s.transfer f with
    | some t => u8 (xphaseCode (some t.phase)) ++ u8 1 ++ u8 (kindCode t.kind) ++ u8 t.task ++ u8 t.mass ++
        u8 t.landing ++ u8 t.bay ++ u32 (match t.timer with
          | some x => msLeft s.time x
          | none => 0)
    | none => List.replicate 11 0 := by
  rw [contextItems]
  cases s.transfer f with
  | none => rfl
  | some t =>
    simp only [Option.map_some, transferItems]
    cases t.timer <;> rfl

theorem contextItems_length (s : State) (f : Frame) : (contextItems s f).length = 11 := by
  rw [contextItems]
  cases s.transfer f with
  | none => rfl
  | some t => rfl

theorem optionalItem_resultItems (x : Option TransferResult) : optionalItem 8 (x.map resultItems) = match x with
    | some r => u8 1 ++ u8 (kindCode r.kind) ++ u8 r.task ++ u8 r.mass ++ u8 r.landing ++ u8 r.bay ++
        u8 (xoutcomeCode r.outcome) ++ u8 (causeCode r.cause) ++ [if r.saved then 1 else 0]
    | none => List.replicate 9 0 := by
  cases x <;> rfl

theorem optionalItem_resultItems_length (x : Option TransferResult) :
    (optionalItem 8 (x.map resultItems)).length = 9 := by
  cases x <;> rfl

theorem loserCode_eq (x : Option Frame) : loserCode x = match x with
    | none => 0xFF
    | some f => frameCode f := by
  cases x <;> rfl

theorem readStatus_length (p : PortId) (s : State) : (readStatus p s).2.length = 59 := by
  simp only [readStatus, answerWith, partItems, indication, List.length_append, List.length_cons, u8_length,
    contextItems_length, optionalItem_resultItems_length, List.length_nil]

/-- Settles O27: the items are R173's one by one, each context and result in its full width. -/
theorem readStatusReportsThePart : Obligations.ReadStatusReportsThePart := by
  intro p s h yes context result payload
  have hcontext : ∀ f, contextItems s f = context f := contextItems_eq s
  have hresult (f : Frame) : optionalItem 8 ((s.xfc.lastResult.get f).map resultItems) = result f :=
    optionalItem_resultItems _
  have hpayload : readStatus p s = (s, payload) := by
    rw [readStatus, answerWith, partItems, hcontext, hcontext, hresult, hresult, u8_verifiedCode, loserCode_eq]
    simp only [payload, yes, indication, List.append_assoc]
    rfl
  have hlength := readStatus_length p s
  rw [hpayload] at hlength
  exact ⟨hlength, exec_of_admitted rfl h hpayload⟩

end Sys2Proof.Machine
end

section
/-! SUPPORT. O28, O29, O30 and O32: survey items as read, and the requests that move the mode. -/

namespace Sys2Proof.Machine

/-! ### READ_SURVEY_ITEM (R7) -/

theorem readSurveyItem_ok {code index copy : Nat} {s : State} {bytes : List Byte}
    (h : readItemBytes s code index copy = some bytes) : readSurveyItem code index copy s =
      (s, [0x00] ++ bytes ++ u8 (surveyStateCode s.svt.state) ++ [if s.svt.saveOutstanding then 1 else 0]) := by
  rw [readSurveyItem, h]
  rfl

theorem readSurveyItem_refused {code index copy : Nat} {s : State} (h : readItemBytes s code index copy = none) :
    readSurveyItem code index copy s = (s, [0x13]) := by
  rw [readSurveyItem, h]
  rfl

theorem surveyItem_some {sv : Survey} {code index n : Nat} (h : itemIndices code = some n) (hi : index < n) :
    surveyItem sv code index = some (sv.item code index) := by
  rw [surveyItem, h]
  exact if_pos hi

theorem surveyItem_none {sv : Survey} {code index : Nat} (h : ∀ n, itemIndices code = some n → n ≤ index) :
    surveyItem sv code index = none := by
  rw [surveyItem]
  cases hn : itemIndices code with
  | none => rfl
  | some n => exact if_neg (Nat.not_lt.mpr (h n hn))

/-- The survey copies hold no item, where R4 has no such code or index (R7). -/
theorem readItemBytes_survey_none {s : State} {code index : Nat} (h : ∀ n, itemIndices code = some n → n ≤ index) :
    readItemBytes s code index 0 = none ∧ readItemBytes s code index 1 = none := by
  simp [readItemBytes, surveyItem_none h]

theorem readItemBytes_copy_none {s : State} {code index copy : Nat} (h : 4 ≤ copy) :
    readItemBytes s code index copy = none := by
  unfold readItemBytes
  split <;> first | omega | rfl

theorem optionalItem_u32 (x : Option Nat) : optionalItem 4 (x.map u32) = match x with
    | some v => [1] ++ u32 v
    | none => List.replicate 5 0 := by
  cases x <;> rfl

theorem tuningItems_frame (s : State) (f : Frame) :
    workingTuningItem s 0x28 (frameCode f) = some (s.svt.tuning.get f).vl ∧
      workingTuningItem s 0x29 (frameCode f) = some (s.svt.tuning.get f).leg ∧
      pendingTuningItem s 0x28 (frameCode f) = some (s.svt.tuning.get f).pendingVl ∧
      pendingTuningItem s 0x29 (frameCode f) = some (s.svt.tuning.get f).pendingLeg := by
  cases f <;> exact ⟨rfl, rfl, rfl, rfl⟩

theorem tuningItems_no_frame {index : Nat} (h : 2 ≤ index) (s : State) :
    workingTuningItem s 0x28 index = none ∧ workingTuningItem s 0x29 index = none ∧
      pendingTuningItem s 0x28 index = none ∧ pendingTuningItem s 0x29 index = none := by
  simp [workingTuningItem, pendingTuningItem, frameOfCode_none h]

theorem workingTuningItem_length (s : State) (index : Nat) :
    workingTuningItem s 0x30 index = if index = 0 then some s.arb.table.length else none := by
  unfold workingTuningItem
  split <;> simp_all

theorem pendingTuningItem_length (s : State) (index : Nat) :
    pendingTuningItem s 0x30 index = if index = 0 then some (s.arb.pendingTable.map List.length) else none := by
  unfold pendingTuningItem
  split <;> simp_all

theorem workingTuningItem_entry (s : State) (index : Nat) :
    workingTuningItem s 0x31 index = tableEntry s.arb.table index := by
  unfold workingTuningItem
  split <;> simp_all

theorem pendingTuningItem_entry (s : State) (index : Nat) :
    pendingTuningItem s 0x31 index = pendingEntry s.arb.pendingTable index := by
  unfold pendingTuningItem
  split <;> simp_all

theorem tableEntry_some {t : List Frame} {index : Nat} (h : index < t.length) :
    tableEntry t index = some (frameCode (t.getD index .U)) := by
  simp [tableEntry, List.getD, h]

theorem tableEntry_none {t : List Frame} {index : Nat} (h : t.length ≤ index) : tableEntry t index = none := by
  simp [tableEntry, h]

/-- The tuning copies hold no item but VL, LEG, the table's length and its entries (R7). -/
theorem tuningItems_other {code : Nat} (h1 : code ≠ 0x28) (h2 : code ≠ 0x29) (h3 : code ≠ 0x30) (h4 : code ≠ 0x31)
    (s : State) (index : Nat) : workingTuningItem s code index = none ∧ pendingTuningItem s code index = none := by
  unfold workingTuningItem pendingTuningItem
  constructor
  · split
    · exact absurd rfl h1
    · exact absurd rfl h2
    · exact absurd rfl h3
    · exact absurd rfl h4
    · rfl
  · split
    · exact absurd rfl h1
    · exact absurd rfl h2
    · exact absurd rfl h3
    · exact absurd rfl h4
    · rfl

theorem readItemBytes_working {s : State} {code index : Nat} {x : Option Nat} (h : workingTuningItem s code index = x) :
    readItemBytes s code index 2 = x.map u32 :=
  congrArg (Option.map u32) h

theorem readItemBytes_pending {s : State} {code index : Nat} {x : Option (Option Nat)}
    (h : pendingTuningItem s code index = x) : readItemBytes s code index 3 = x.map (fun v => match v with
      | some v => [1] ++ u32 v
      | none => List.replicate 5 0) := by
  change (pendingTuningItem s code index).map (fun v => optionalItem 4 (v.map u32)) = _
  rw [h]
  exact congrArg (Option.map · x) (funext optionalItem_u32)

/-- Settles O28: what each copy holds under each item and index, and RANGE for what it does not. -/
theorem readSurveyItemReportsTheCopyNamed : Obligations.ReadSurveyItemReportsTheCopyNamed := by
  intro p item index s h carries refused optional
  have carry {item copy : Byte} {bytes : List Byte}
      (hb : readItemBytes s item.toNat index.toNat copy.toNat = some bytes) : carries item copy bytes :=
    exec_of_admitted rfl h (readSurveyItem_ok hb)
  have refuse {item copy : Byte} (hb : readItemBytes s item.toNat index.toNat copy.toNat = none) : refused item copy :=
    exec_of_admitted rfl h (readSurveyItem_refused hb)
  have working {item : Byte} {v : Nat} (hv : workingTuningItem s item.toNat index.toNat = some v) :
      carries item 2 (u32 v) := carry (readItemBytes_working hv)
  have pending {item : Byte} {v : Option Nat} (hv : pendingTuningItem s item.toNat index.toNat = some v) :
      carries item 3 (optional v) := carry (readItemBytes_pending hv)
  have noWorking {item : Byte} (hv : workingTuningItem s item.toNat index.toNat = none) : refused item 2 :=
    refuse (readItemBytes_working hv)
  have noPending {item : Byte} (hv : pendingTuningItem s item.toNat index.toNat = none) : refused item 3 :=
    refuse (readItemBytes_pending hv)
  have noSurvey (hv : ∀ n, itemIndices item.toNat = some n → n ≤ index.toNat) : refused item 0 ∧ refused item 1 :=
    ⟨refuse (readItemBytes_survey_none hv).1, refuse (readItemBytes_survey_none hv).2⟩
  refine ⟨fun n hn hi => ⟨carry ?_, carry ?_⟩, fun hn => noSurvey (by simp [hn]), fun n hn hi => noSurvey (by simp [hn, hi]),
    fun copy hc => refuse (readItemBytes_copy_none hc), fun f hf => ?frame, fun hi => ?noFrame, fun hi => ?length,
    fun hi => ?noLength, fun hi => working ((workingTuningItem_entry s _).trans (tableEntry_some hi)),
    fun hi => noWorking ((workingTuningItem_entry s _).trans (tableEntry_none hi)), fun t ht hi =>
      pending (v := some (frameCode (t.getD index.toNat .U))) ?entry,
    fun t ht hi => noPending ?noEntry, fun ht hi => pending (v := none) ?absent, fun ht hi => noPending ?noAbsent,
    fun h1 h2 h3 h4 => ?other⟩
  · exact congrArg (Option.map u32) (surveyItem_some hn hi)
  · exact congrArg (Option.map u32) (surveyItem_some hn hi)
  case frame =>
    obtain ⟨hvl, hleg, hpendingVl, hpendingLeg⟩ := tuningItems_frame s f
    rw [← hf] at hvl hleg hpendingVl hpendingLeg
    exact ⟨working hvl, pending hpendingVl, working hleg, pending hpendingLeg⟩
  case noFrame =>
    obtain ⟨hvl, hleg, hpendingVl, hpendingLeg⟩ := tuningItems_no_frame hi s
    exact ⟨noWorking hvl, noPending hpendingVl, noWorking hleg, noPending hpendingLeg⟩
  case length =>
    have hzero : index.toNat = 0 := by simp [hi]
    exact ⟨working ((workingTuningItem_length s _).trans (if_pos hzero)),
      pending ((pendingTuningItem_length s _).trans (if_pos hzero))⟩
  case noLength =>
    have hne : index.toNat ≠ 0 := fun h0 => hi (BitVec.eq_of_toNat_eq h0)
    exact ⟨noWorking ((workingTuningItem_length s _).trans (if_neg hne)),
      noPending ((pendingTuningItem_length s _).trans (if_neg hne))⟩
  case entry =>
    refine (pendingTuningItem_entry s _).trans ?_
    rw [ht, pendingEntry, tableEntry_some hi]
    rfl
  case noEntry =>
    refine (pendingTuningItem_entry s _).trans ?_
    rw [ht, pendingEntry, tableEntry_none hi]
    rfl
  case absent =>
    refine (pendingTuningItem_entry s _).trans ?_
    rw [ht]
    exact if_pos hi
  case noAbsent =>
    refine (pendingTuningItem_entry s _).trans ?_
    rw [ht]
    exact if_neg (Nat.not_lt.mpr hi)
  case other =>
    have hne {n : Byte} (hn : item ≠ n) : item.toNat ≠ n.toNat := fun heq => hn (BitVec.eq_of_toNat_eq heq)
    have hnone := tuningItems_other (hne h1) (hne h2) (hne h3) (hne h4) s index.toNat
    exact ⟨noWorking hnone.1, noPending hnone.2⟩

/-! ### HOLD and UNLOCK (R150, R153) -/

/-- The PERMIT lines are off where the shaft is not in RUN (R67). -/
theorem drive_permit_off {s : State} (h : s.mdc.mode ≠ .run) : s.drive.gru.permit = ⟨false, false⟩ := by
  have hoff (f : Frame) : permitLine s f = false := by simp [permitLine, h]
  rw [State.drive_gru]
  simp only [hoff]

theorem changeMode_eq (m : Mode) (s : State) :
    changeMode m s = (s.setMdc { s.mdc with mode := m }).raiseAll .modeChanged := rfl

theorem enterHold_run {s : State} (h : s.mdc.mode = .run) :
    enterHold s = (s.setMdc { s.mdc with mode := .hold }).raiseAll .modeChanged := by
  rw [enterHold, if_pos h]
  rfl

theorem requestHold_eq (s : State) : requestHold s = match s.mdc.mode with
    | .run => (((s.setMdc { s.mdc with mode := .hold }).raiseAll .modeChanged).drive, [0x00, 1])
    | .hold => (s, [0x00, 1])
    | .lockout => (s, [0x11, 2]) := by
  unfold requestHold
  cases h : s.mdc.mode with
  | run =>
    simp only [enterHold_run h]
    rfl
  | hold => simp [holdReply, answerWith, h]; decide
  | lockout => simp [holdReply, answerWith, h]; decide

theorem requestUnlock_eq (s : State) : requestUnlock s =
    if s.mdc.mode = .run then (s, [0x11])
    else if s.mdc.mode = .hold then (s, [0x00])
    else if s.svt.saveOutstanding = true then (s, [0x12])
    else if s.svt.state ≠ .valid then (s, 0x27 :: u8 (surveyStateCode s.svt.state))
    else (((s.setMdc { s.mdc with mode := .hold }).raiseAll .modeChanged).drive, [0x00]) := rfl

/-- Settles O29: HOLD by the three modes, UNLOCK by its checks in order. -/
theorem holdAndUnlockBringTheShaftToHold : Obligations.HoldAndUnlockBringTheShaftToHold := by
  intro p s unlocked
  have off : ((s.setMdc { s.mdc with mode := .hold }).raiseAll .modeChanged).drive.gru.permit = ⟨false, false⟩ :=
    drive_permit_off (s := (s.setMdc { s.mdc with mode := .hold }).raiseAll .modeChanged) (by simp)
  constructor
  · intro h
    have hhold {u : State} {payload : List Byte} (hb : requestHold s = (u, payload)) :
        exec (.hold p) s = .next (replied p .hold payload u) := exec_of_admitted rfl h hb
    rw [requestHold_eq] at hhold
    refine ⟨fun hm => ⟨_, hhold (by rw [hm]), rfl, off⟩, fun hm => hhold (by rw [hm]), fun hm => hhold (by rw [hm])⟩
  · intro h
    have hunlock {u : State} {payload : List Byte} (hb : requestUnlock s = (u, payload)) :
        exec (.unlock p) s = .next (replied p .unlock payload u) := exec_of_admitted rfl h hb
    have hsurvey := h.survey
    rw [requestUnlock_eq] at hunlock
    split
    · next hm => exact hunlock (if_pos hm)
    next hrun =>
    split
    · next hm => exact hunlock (by rw [if_neg hrun, if_pos hm])
    next hhold =>
    split
    · next ho => exact hunlock (by rw [if_neg hrun, if_neg hhold, if_pos ho])
    next hout =>
    rw [if_neg hrun, if_neg hhold, if_neg hout] at hunlock
    split
    · next he => exact hunlock (by rw [he]; rfl)
    next hedited =>
    have hvalid : s.svt.state = .valid := by
      cases hst : s.svt.state with
      | unconfigured => exact absurd (hsurvey hst) (by decide)
      | edited => exact absurd hst hedited
      | valid => rfl
    exact ⟨_, hunlock (if_neg (by simp [hvalid])), rfl, off⟩

/-! ### RESUME (R151) -/

theorem firstFrame_eq (c : Frame → Bool) : firstFrame c = if c .U then some .U else if c .L then some .L else none := by
  unfold firstFrame
  cases hu : c .U <;> cases hl : c .L <;> simp [hu, hl]

theorem isTripped_iff (s : State) (f : Frame) : isTripped s f = true ↔ (s.tracker f).state = .tripped := by
  simp [isTripped]

/-- RESUME answers with the first of R151's checks that fails, and otherwise holds a round in RUN. -/
theorem requestResume_eq (s : State) : requestResume s =
    if s.mdc.mode = .lockout then (s, [0x11])
    else if s.mdc.mode = .run then (s, [0x00])
    else if s.mdc.stopN = true then (s, [0x24])
    else if s.mdc.latch = true then (s, [0x25])
    else if s.inv.verified = false then (s, [0x26])
    else if s.inv.save = .notSaved then (s, [0x2A])
    else if (s.tracker .U).state = .tripped then (s, [0x15, 0])
    else if (s.tracker .L).state = .tripped then (s, [0x15, 1])
    else ((holdRound ((s.setMdc { s.mdc with mode := .run }).raiseAll .modeChanged)).drive, [0x00]) := by
  have hround : askRound (changeMode .run s) = holdRound ((s.setMdc { s.mdc with mode := .run }).raiseAll .modeChanged) :=
    if_pos rfl
  unfold requestResume
  rw [firstFrame_eq, hround]
  simp only [isTripped_iff, Bool.not_eq_true']
  by_cases hu : (s.tracker .U).state = .tripped
  · simp only [if_pos hu]
    rfl
  by_cases hl : (s.tracker .L).state = .tripped
  · simp only [if_neg hu, if_pos hl]
    rfl
  · simp only [if_neg hu, if_neg hl]
    rfl

/-- A round leaves trackers, transfers and the mode controller as they are. -/
theorem holdRound_steadies (s : State) :
    (holdRound s).ftk = s.ftk ∧ (holdRound s).xfc = s.xfc ∧ (holdRound s).mdc = s.mdc := by
  have h := holdRound_frame s
  unfold RoundFrame at h
  exact ⟨(congrArg State.ftk h :), (congrArg State.xfc h :), (congrArg State.mdc h :)⟩

theorem permitLine_of {s : State} {f : Frame} (hmode : s.mdc.mode = .run) (hstop : s.mdc.stopN = false)
    (hlatch : s.mdc.latch = false) (htracked : (s.tracker f).state = .tracked) (hidle : s.transfer f = none) :
    s.drive.gru.permit.get f = true := by
  have h := (permitLine_iff s f).mpr ⟨hmode, hstop, hlatch, htracked, hidle⟩
  rw [State.drive_gru]
  cases f <;> exact h

/-- Settles O30: the checks in R151's order, and a round in RUN where none fails. -/
theorem resumeReturnsTheShaftToRun : Obligations.ResumeReturnsTheShaftToRun := by
  intro p s h no
  have hresume {u : State} {payload : List Byte} (hb : requestResume s = (u, payload)) :
      exec (.resume p) s = .next (replied p .resume payload u) := exec_of_admitted rfl h hb
  rw [requestResume_eq] at hresume
  split
  · next hm => exact hresume (if_pos hm)
  next hlockout =>
  rw [if_neg hlockout] at hresume
  split
  · next hm => exact hresume (if_pos hm)
  next hrun =>
  rw [if_neg hrun] at hresume
  split
  · next hc => exact hresume (if_pos hc)
  next hstop =>
  rw [if_neg hstop] at hresume
  split
  · next hc => exact hresume (if_pos hc)
  next hlatch =>
  rw [if_neg hlatch] at hresume
  split
  · next hc => exact hresume (if_pos hc)
  next hverified =>
  rw [if_neg hverified] at hresume
  split
  · next hc => exact hresume (if_pos hc)
  next hsave =>
  rw [if_neg hsave] at hresume
  split
  · next hc => exact hresume (if_pos hc)
  next hu =>
  rw [if_neg hu] at hresume
  split
  · next hc => exact hresume (if_pos hc)
  next hl =>
  rw [if_neg hl] at hresume
  generalize hw : (s.setMdc { s.mdc with mode := .run }).raiseAll .modeChanged = w at hresume ⊢
  obtain ⟨hftk, hxfc, hmdc⟩ := holdRound_steadies w
  have hwmdc : w.mdc = { s.mdc with mode := .run } := by rw [← hw]; rfl
  have hwftk : w.ftk = s.ftk := by rw [← hw]; rfl
  have hwxfc : w.xfc = s.xfc := by rw [← hw]; rfl
  refine ⟨_, hresume rfl, rfl, ?_, fun f htracked hidle => ?_⟩
  · change (holdRound w).mdc.mode = .run
    rw [hmdc, hwmdc]
  · refine permitLine_of (s := holdRound w) ?_ ?_ ?_ ?_ ?_
    · rw [hmdc, hwmdc]
    · rw [hmdc, hwmdc]; simpa using hstop
    · rw [hmdc, hwmdc]; simpa using hlatch
    · rw [State.tracker, hftk, hwftk]; exact htracked
    · rw [State.transfer, hxfc, hwxfc]; exact hidle

/-! ### ACK_STOP and the release of STOP_N (R155) -/

theorem acknowledgeStop_asserted {s : State} (h : s.mdc.stopN = true) : acknowledgeStop s = (s, [0x24]) := if_pos h

theorem acknowledgeStop_released {s : State} (h : s.mdc.stopN = false) :
    acknowledgeStop s = ((s.setMdc { s.mdc with latch := false }).drive, [0x00]) := by
  rw [acknowledgeStop, h]
  rfl

/-- Settles O32: ACK_STOP by the condition of STOP_N, and a release by whether there is one. -/
theorem stopsAreReleasedAndAcknowledged : Obligations.StopsAreReleasedAndAcknowledged := by
  intro p s
  refine ⟨fun h hs => exec_of_admitted rfl h (acknowledgeStop_asserted hs),
    fun h hs => exec_of_admitted rfl h (acknowledgeStop_released hs), fun hs => ?_, fun hs => ?_⟩
  · exact congrArg Host.Outcome.next (if_pos hs)
  · exact congrArg Host.Outcome.next (if_neg (by simp [hs]))

end Sys2Proof.Machine
end

section
/-! SUPPORT. O46, O47 and O45: reservations, the ending of a task, and the task requests. -/

namespace Sys2Proof.Machine

/-! ### The ports of an answered request (R162, R169) -/

theorem replied_port (p : PortId) (r : Req) (payload : List Byte) (u : State) (q : PortId) :
    (replied p r payload u).port q = if q = p then
      { u.port p with rx := .hunt, replies := (u.port p).replies ++ [replyOf r payload] } else u.port q := by
  by_cases h : q = p
  · subst h
    rw [if_pos rfl]
    exact State.port_setPort _ _ _
  · rw [if_neg h]
    exact State.port_setPort_ne _ _ _ _ h

theorem replied_flags (p : PortId) (r : Req) (payload : List Byte) (u : State) (q : PortId) :
    ((replied p r payload u).port q).flags = (u.port q).flags := by
  rw [replied_port]
  split
  · next h => rw [h]
  · rfl

/-- The reply joins what waited, where the block has left the lists alone (R168). -/
theorem replied_replies {s u : State} (h : Steady s u) (p : PortId) (r : Req) (payload : List Byte) :
    ((replied p r payload u).port p).replies = (s.port p).replies ++ [replyOf r payload] := by
  rw [replied_port, if_pos rfl, (h.port p).replies]

theorem drive_flags (s : State) (q : PortId) : (s.drive.port q).flags = (s.port q).flags := by
  rw [State.port_drive]

/-- A flag that is raised on the port's role is set (R169). -/
theorem flag_raiseOn {s : State} {who : Role → Bool} {e : Event} {q : PortId} (h : who (s.port q).role = true)
    {i : Nat} (hi : e.bit.getLsbD i = true) : ((s.raiseOn who e).port q).flags.getLsbD i = true := by
  rw [State.port_raiseOn, if_pos h]
  simp [PortState.raise, hi]

/-- A flag that the block has left set is set in the answer. -/
theorem replied_flag {t u : State} (h : Steady t u) {q : PortId} {i : Nat} (hi : (t.port q).flags.getLsbD i = true)
    (p : PortId) (r : Req) (payload : List Byte) : ((replied p r payload u).port q).flags.getLsbD i = true := by
  rw [replied_flags]
  exact (h.port q).flag hi

/-! ### The pool (R106) -/

theorem pool_disjoint {s : State} (h : PoolPartitioned s) (f : Frame) {id : Nat} (hid : id ∈ s.tku.queues.get f) :
    id < 32 ∧ (s.tku.queues.get f).Nodup ∧ id ∉ s.tku.queues.get f.other ∧ id ∉ s.tku.completion ∧
      id ∉ s.tku.free := by
  have hperm : (s.tku.poolBy f).Perm (List.range 32) := (s.tku.pooled_perm f).symm.trans h
  have hnodup := hperm.nodup_iff.2 List.nodup_range
  have hmem : id ∈ s.tku.poolBy f := by simp [Tku.poolBy, hid]
  simp only [Tku.poolBy, List.nodup_append, List.mem_append] at hnodup
  obtain ⟨⟨⟨-, hqueue, hfree⟩, -, hcompletion⟩, -, hother⟩ := hnodup
  exact ⟨List.mem_range.1 (hperm.mem_iff.1 hmem), hqueue, fun hm => hother id (.inl (.inr hid)) id hm rfl,
    fun hm => hcompletion id (.inr hid) id hm rfl, fun hm => hfree id hm id hid rfl⟩

theorem liveIn_of_pool {s : State} (h : PoolPartitioned s) {f : Frame} {id : Nat} (hid : id ∈ s.tku.queues.get f) :
    liveIn s id = some f := by
  cases f with
  | U => exact if_pos hid
  | L =>
    have hu : id ∉ s.tku.queues.u := (pool_disjoint h .L hid).2.2.1
    unfold liveIn
    rw [if_neg hu]
    exact if_pos hid

theorem liveIn_none {s : State} {id : Nat} (hu : id ∉ s.tku.queues.u) (hl : id ∉ s.tku.queues.l) :
    liveIn s id = none := by
  rw [liveIn, if_neg hu, if_neg hl]

/-! ### Reservations (R89) -/

theorem releaseMass_mass (id n j : Nat) (s : State) : (releaseMass id n s).mass j = { s.mass j with
    task := if j = id ∧ (s.mass j).task = some n then none else (s.mass j).task } := by
  unfold releaseMass
  split
  · next h =>
    by_cases hj : j = 0
    · simp [State.mass, hj, Mass.unreadable]
    · rw [mass_of_ne_zero _ hj, State.setInv_inv, Bank.getD_set]
      by_cases hji : j = id
      · subst hji
        by_cases hlt : j - 1 < 40
        · simp [hlt, h.2]
        · have hunreadable : s.mass j = Mass.unreadable := by
            rw [mass_of_ne_zero s hj]
            exact List.getD_eq_default _ _ (by rw [s.inv.masses.len]; omega)
          rw [hunreadable] at h
          cases h.2
      · rw [if_neg (by omega), if_neg (by simp [hji]), mass_of_ne_zero s hj]
  · next h =>
    rw [if_neg]
    rintro ⟨rfl, hn⟩
    refine h ⟨?_, hn⟩
    rintro rfl
    cases hn

theorem reserveMass_mass {id : Nat} (n : Nat) {s : State} (h1 : 1 ≤ id) (h2 : id ≤ 40) (h : (s.mass id).task = none)
    (j : Nat) : (reserveMass id n s).mass j = if j = id then { s.mass id with task := some n } else s.mass j := by
  have h0 : id ≠ 0 := by omega
  rw [reserveMass, if_pos ⟨h0, h⟩]
  by_cases hj : j = 0
  · rw [if_neg (by omega)]
    simp [State.mass, hj]
  · rw [mass_of_ne_zero _ hj, State.setInv_inv, Bank.getD_set]
    by_cases hji : j = id
    · rw [if_pos (by omega), if_pos hji]
    · rw [if_neg (by omega), if_neg hji, mass_of_ne_zero s hj]

theorem State.bay_setBay (s : State) (b c : Nat) (x : Bay) :
    (s.setBay b x).bay c = if c = b ∧ b < 40 then x else s.bay c := by
  simp only [State.bay, State.setBay, State.setInv_inv, Bank.getD_set]

theorem State.bay_unreadable (s : State) {b : Nat} (h : 40 ≤ b) : s.bay b = Bay.unreadable :=
  List.getD_eq_default _ _ (by rw [s.inv.bays.len]; exact h)

theorem releaseBay_bay (b n c : Nat) (s : State) : (releaseBay b n s).bay c =
    if c = b ∧ (s.bay b).task = some n then { s.bay b with task := none } else s.bay c := by
  unfold releaseBay
  split
  · next h =>
    have hlt : b < 40 := by
      by_contra hb
      rw [State.bay_unreadable s (by omega)] at h
      cases h
    rw [State.bay_setBay]
    simp [hlt, h]
  · next h => rw [if_neg fun hc => h hc.2]

theorem reserveBay_bay {b : Nat} (n : Nat) {s : State} (hb : b < 40) (h : (s.bay b).task = none) (c : Nat) :
    (reserveBay b n s).bay c = if c = b then { s.bay b with task := some n } else s.bay c := by
  rw [reserveBay, if_pos h, State.bay_setBay]
  simp [hb]

/-- A reservation of bays leaves the mass records alone. -/
theorem releaseBay_masses (b n : Nat) (s : State) : (releaseBay b n s).inv.masses = s.inv.masses := by
  unfold releaseBay
  split <;> rfl

theorem reserveBay_masses (b n : Nat) (s : State) : (reserveBay b n s).inv.masses = s.inv.masses := by
  unfold reserveBay
  split <;> rfl

theorem releaseBayOf_masses (b : Option Nat) (n : Nat) (s : State) :
    (releaseBayOf b n s).inv.masses = s.inv.masses := by
  cases b with
  | none => rfl
  | some b => exact releaseBay_masses b n s

theorem reserveBayOf_masses (b : Option Nat) (n : Nat) (s : State) :
    (reserveBayOf b n s).inv.masses = s.inv.masses := by
  cases b with
  | none => rfl
  | some b => exact reserveBay_masses b n s

theorem mass_of_masses {s t : State} (h : t.inv.masses = s.inv.masses) (id : Nat) : t.mass id = s.mass id := by
  unfold State.mass
  rw [h]

theorem releaseMass_bays (id n : Nat) (s : State) : (releaseMass id n s).inv.bays = s.inv.bays := by
  unfold releaseMass
  split <;> rfl

theorem reserveMass_bays (id n : Nat) (s : State) : (reserveMass id n s).inv.bays = s.inv.bays := by
  unfold reserveMass
  split <;> rfl

theorem bay_of_bays {s t : State} (h : t.inv.bays = s.inv.bays) (b : Nat) : t.bay b = s.bay b := by
  unfold State.bay
  rw [h]

theorem releaseTask_mass (id j : Nat) (s : State) : (releaseTask id s).mass j = { s.mass j with
    task := if j = (s.task id).mass ∧ (s.mass j).task = some id then none else (s.mass j).task } := by
  unfold releaseTask
  dsimp only
  rw [mass_of_masses (releaseBay_masses _ _ _), mass_of_masses (releaseBayOf_masses _ _ _), releaseMass_mass]

/-- A release leaves a bay free of the task that is released from it, and of any other release. -/
theorem releaseBay_keeps_free {b n c : Nat} {s : State} (h : (s.bay c).task ≠ some n) :
    ((releaseBay b n s).bay c).task ≠ some n := by
  rw [releaseBay_bay]
  split
  · simp
  · exact h

theorem releaseBay_free (b n : Nat) (s : State) : ((releaseBay b n s).bay b).task ≠ some n := by
  rw [releaseBay_bay]
  split
  · simp
  · next h => exact fun hn => h ⟨rfl, hn⟩

theorem releaseTask_bays (id : Nat) (s : State) : ((releaseTask id s).bay (s.task id).dest).task ≠ some id ∧
    ∀ b, (s.task id).source = some b → ((releaseTask id s).bay b).task ≠ some id := by
  unfold releaseTask
  dsimp only
  refine ⟨releaseBay_free _ _ _, fun b hb => releaseBay_keeps_free ?_⟩
  rw [hb]
  exact releaseBay_free _ _ _

theorem releaseTask_tku (id : Nat) (s : State) : (releaseTask id s).tku = s.tku := by
  have h := releaseTask_frame id s
  unfold ReservationFrame at h
  exact (congrArg State.tku h :)

/-! ### The ending of a task (R121) -/

/-- The record of a task that has ended (R121, steps 2 and 3). -/
def endedTask (s : State) (id : Nat) (p : Phase) : Task :=
  { s.task id with
    phase := p, cancelPending := false, outcome := some ⟨(s.task id).phase, (s.mass (s.task id).mass).state⟩ }

/-- The task of queue f released, ended and moved to the completion list, before a head is activated (R121). -/
def retired (id : Nat) (p : Phase) (f : Frame) (s : State) : State :=
  let t := releaseTask id s
  let t := t.setTask id (endedRecord t (t.task id) p)
  (t.setTku { t.tku with
    queues := t.tku.queues.set f ((t.tku.queues.get f).erase id)
    completion := t.tku.completion ++ [id] }).raiseWatchers .completionReady

theorem endTask_eq {s : State} {id : Nat} {f : Frame} (h : liveIn s id = some f) (p : Phase) (next : Bool) :
    endTask id p next s = if s.head f = some id then
      (if next then activateHead f (retired id p f s) else retired id p f s).raiseWinder f .taskChanged
      else retired id p f s := by
  unfold endTask
  rw [h]
  simp only [beq_iff_eq]
  rfl

theorem endedRecord_releaseTask (s : State) (id : Nat) (p : Phase) :
    endedRecord (releaseTask id s) ((releaseTask id s).task id) p = endedTask s id p := by
  have htask : (releaseTask id s).task id = s.task id := by rw [State.task, releaseTask_tku, State.task]
  rw [endedRecord, htask, releaseTask_mass, endedTask]

theorem retired_task (id : Nat) (p : Phase) (f : Frame) (s : State) (j : Nat) :
    (retired id p f s).task j = if j = id ∧ id < 32 then endedTask s id p else s.task j := by
  have h := State.task_setTask (releaseTask id s) id j (endedRecord (releaseTask id s) ((releaseTask id s).task id) p)
  have htask : (releaseTask id s).task j = s.task j := by rw [State.task, releaseTask_tku, State.task]
  rw [htask] at h
  rw [← endedRecord_releaseTask]
  exact h

theorem retired_queues (id : Nat) (p : Phase) (f : Frame) (s : State) :
    (retired id p f s).tku.queues = s.tku.queues.set f ((s.tku.queues.get f).erase id) := by
  unfold retired
  simp [State.setTask, releaseTask_tku]

theorem retired_inv (id : Nat) (p : Phase) (f : Frame) (s : State) :
    (retired id p f s).inv = (releaseTask id s).inv := rfl

theorem retired_mass (id : Nat) (p : Phase) (f : Frame) (s : State) (j : Nat) :
    (retired id p f s).mass j = { s.mass j with
      task := if j = (s.task id).mass ∧ (s.mass j).task = some id then none else (s.mass j).task } :=
  (mass_of_masses (congrArg Inv.masses (retired_inv id p f s)) j).trans (releaseTask_mass id j s)

theorem activateHead_inv (f : Frame) (s : State) : (activateHead f s).inv = s.inv := by
  unfold activateHead
  split <;> rfl

theorem endTask_inv {s : State} {id : Nat} {f : Frame} (h : liveIn s id = some f) (p : Phase) (next : Bool) :
    (endTask id p next s).inv = (releaseTask id s).inv := by
  rw [endTask_eq h]
  split
  · split
    · exact activateHead_inv f _
    · rfl
  · rfl

theorem activationPhase_congr {s t : State} {x : Task} (h : (t.mass x.mass).state = (s.mass x.mass).state) :
    activationPhase t x = activationPhase s x := by
  unfold activationPhase
  rw [h]

/-- The head is activated, and no other task changes (R115). -/
theorem activateHead_task (f : Frame) (s : State) (j : Nat) : (activateHead f s).task j =
    if s.head f = some j ∧ j < 32 then { s.task j with phase := activationPhase s (s.task j) } else s.task j := by
  unfold activateHead
  split
  · next id hid =>
    rw [setPhase, State.task_setTask, hid]
    by_cases hj : j = id
    · subst hj
      simp
    · rw [if_neg (by simp [hj]), if_neg (by simp [Ne.symm hj])]
  · next hnone => simp [hnone]

theorem raiseWinder_task (s : State) (f : Frame) (e : Event) (j : Nat) : (s.raiseWinder f e).task j = s.task j := rfl

/-- A task that has left its queue keeps its ended record (R121). -/
theorem endTask_task_self {s : State} {id : Nat} {f : Frame} (h : liveIn s id = some f) (hid : id < 32) (p : Phase)
    {next : Bool} (hgone : next = true → id ∉ (s.tku.queues.get f).erase id) :
    (endTask id p next s).task id = endedTask s id p := by
  have hretired : (retired id p f s).task id = endedTask s id p := by
    rw [retired_task, if_pos ⟨rfl, hid⟩]
  rw [endTask_eq h]
  split
  · rw [raiseWinder_task]
    split
    · next hnext =>
      rw [activateHead_task, if_neg, hretired]
      rintro ⟨hhead, -⟩
      have hmem := head_mem_queue hhead
      rw [retired_queues, Pair.get_set_self] at hmem
      exact hgone hnext hmem
    · exact hretired
  · exact hretired

/-- A task that does not become head keeps its record (R115, R121). -/
theorem endTask_task_other {s : State} {id : Nat} {f : Frame} (h : liveIn s id = some f) (p : Phase) {next : Bool}
    {j : Nat} (hj : j ≠ id)
    (hhead : next = true → s.head f = some id → ((s.tku.queues.get f).erase id).head? ≠ some j) :
    (endTask id p next s).task j = s.task j := by
  have hretired : (retired id p f s).task j = s.task j := by
    rw [retired_task, if_neg fun hc => hj hc.1]
  rw [endTask_eq h]
  split
  · next hwas =>
    rw [raiseWinder_task]
    split
    · next hnext =>
      rw [activateHead_task, if_neg, hretired]
      rintro ⟨hh, -⟩
      rw [State.head, retired_queues, Pair.get_set_self] at hh
      exact hhead hnext hwas hh
    · exact hretired
  · exact hretired

/-- The task that becomes head is activated by where its mass is (R115, R121). -/
theorem endTask_task_next {s : State} {id n : Nat} {rest : List Nat} {f : Frame} (h : liveIn s id = some f)
    (hq : s.tku.queues.get f = id :: n :: rest) (hn : n < 32) (hne : n ≠ id) (p : Phase) :
    ((endTask id p true s).task n).phase = activationPhase s (s.task n) := by
  have hwas : s.head f = some id := by rw [State.head, hq]; rfl
  have hhead : (retired id p f s).head f = some n := by
    rw [State.head, retired_queues, Pair.get_set_self, hq, List.erase_cons_head]
    rfl
  rw [endTask_eq h, if_pos hwas, if_pos rfl, raiseWinder_task, activateHead_task, if_pos ⟨hhead, hn⟩, retired_task,
    if_neg fun hc => hne hc.1]
  exact activationPhase_congr (congrArg Mass.state (retired_mass id p f s (s.task n).mass) :)

/-- A task's ending raises COMPLETION_READY, and TASK_CHANGED where it was head (R121). -/
theorem endTask_flags {s : State} {id : Nat} {f : Frame} (h : liveIn s id = some f) (p : Phase) (next : Bool) :
    (∀ w, isWatcher (s.port w).role = true → ((endTask id p next s).port w).flags.getLsbD 8 = true) ∧
      (s.head f = some id →
        ∀ w, (s.port w).role = winderRole f → ((endTask id p next s).port w).flags.getLsbD 6 = true) := by
  have hports : (releaseTask id s).ports = s.ports := by
    have hframe := releaseTask_frame id s
    unfold ReservationFrame at hframe
    exact (congrArg State.ports hframe :)
  have hport (q : PortId) : (releaseTask id s).port q = s.port q := by rw [State.port, hports, State.port]
  have hretired : Steady s (retired id p f s) :=
    ((((releaseTask_frame id s).steady.setTask id _).trans (.of_blocks rfl)).raiseWatchers .completionReady)
  have hcompletion (w : PortId) (hw : isWatcher (s.port w).role = true) :
      ((retired id p f s).port w).flags.getLsbD 8 = true :=
    flag_raiseOn (by rw [← hport] at hw; exact hw) rfl
  have hactivated : Steady (retired id p f s) (if next then activateHead f (retired id p f s) else retired id p f s) := by
    split
    · exact activateHead_steady f _
    · exact .refl _
  rw [endTask_eq h]
  generalize (if next then activateHead f (retired id p f s) else retired id p f s) = u at hactivated
  split
  · refine ⟨fun w hw => ((hactivated.raiseWinder f .taskChanged).port w).flag (hcompletion w hw), fun _ w hw => ?_⟩
    have hrole : (u.port w).role = (s.port w).role := ((hretired.trans hactivated).port w).role
    exact flag_raiseOn (by rw [hrole, hw]; cases f <;> rfl) rfl
  · next hwas => exact ⟨hcompletion, fun hhead => absurd hhead hwas⟩

end Sys2Proof.Machine
end

section
/-! SUPPORT. O46 and O47: what CANCEL_TASK, REDIRECT_TASK and TAKE_COMPLETION answer. -/

namespace Sys2Proof.Machine

/-! ### CANCEL_TASK (R122) -/

theorem cancelTask_range {id : Nat} (h : 32 ≤ id) (s : State) : cancelTask id s = (s, [0x13]) := if_pos (by omega)

theorem cancelTask_notLive {id : Nat} {s : State} (hid : id < 32) (hlive : liveIn s id = none) :
    cancelTask id s = (s, [0x1A]) := by
  rw [cancelTask, if_neg (by omega), hlive]
  rfl

section
variable {id : Nat} {f : Frame} {s : State} (hid : id < 32) (hlive : liveIn s id = some f)
include hid hlive

theorem cancelTask_ended (h : (s.task id).phase = .queued ∨ (s.task id).phase = .toPickup) :
    cancelTask id s = ((endTask id .cancelled true (addTaskReasons id 0x0001 s)).drive, [0x00]) := by
  rw [cancelTask, if_neg (by omega), hlive]
  rcases h with h | h
  · simp only [h]
    rfl
  · simp only [h]
    rfl

theorem cancelTask_loading (h : (s.task id).phase = .loading) :
    cancelTask id s = (s.setTask id { s.task id with cancelPending := true }, [0x01]) := by
  rw [cancelTask, if_neg (by omega), hlive]
  simp only [h]
  rfl

theorem cancelTask_committed (h1 : (s.task id).phase ≠ .queued) (h2 : (s.task id).phase ≠ .toPickup)
    (h3 : (s.task id).phase ≠ .loading) : cancelTask id s = (s, [0x22]) := by
  rw [cancelTask, if_neg (by omega), hlive]
  cases h : (s.task id).phase with
  | queued => exact absurd h h1
  | toPickup => exact absurd h h2
  | loading => exact absurd h h3
  | _ => rfl

end

theorem addTaskReasons_task {id : Nat} (h : id < 32) (r : BitVec 16) (s : State) (j : Nat) :
    (addTaskReasons id r s).task j =
      if j = id then { s.task id with reasons := (s.task id).reasons ||| r } else s.task j := by
  rw [addTaskReasons, State.task_setTask]
  simp [h]

/-- Settles O46: the ending step of a task not yet begun, the mark of a loading one, and the refusals by the first check
that fails. -/
theorem cancelTaskEndsOrMarksTheTask : Obligations.CancelTaskEndsOrMarksTheTask := by
  intro p n f s id no h hpool
  have hcancel {u : State} {payload : List Byte} (hb : cancelTask id s = (u, payload)) :
      exec (.cancelTask p n) s = .next (replied p .cancelTask payload u) := exec_of_admitted rfl h hb
  have hqueued (hid : id ∈ s.tku.queues.get f) : id < 32 ∧ liveIn s id = some f :=
    ⟨(pool_disjoint hpool f hid).1, liveIn_of_pool hpool hid⟩
  refine ⟨fun hid => hcancel (cancelTask_range hid s), fun hid hu hl => hcancel ?notLive,
    fun hid h1 h2 h3 => hcancel ?committed, fun hid hphase => hcancel ?loading, fun hid hphase => ?ended⟩
  case notLive => exact cancelTask_notLive hid (liveIn_none hu hl)
  case committed => exact cancelTask_committed (hqueued hid).1 (hqueued hid).2 h1 h2 h3
  case loading => exact cancelTask_loading (hqueued hid).1 (hqueued hid).2 hphase
  case ended =>
    obtain ⟨hlt, hnodup, hother, -, -⟩ := pool_disjoint hpool f hid
    have hlive := (hqueued hid).2
    have htask := addTaskReasons_task hlt 0x0001 s
    have hu : liveIn (addTaskReasons id 0x0001 s) id = some f := hlive
    have hsteady := endWithReasons_steady id 0x0001 .cancelled true s
    have hcollections := endTask_collections id .cancelled true (addTaskReasons id 0x0001 s) hu
    have hself := endTask_task_self hu hlt .cancelled (next := true) fun _ => hnodup.not_mem_erase
    have hinv := endTask_inv hu .cancelled true
    have hflags := endTask_flags hu .cancelled true
    have hframe := (addTaskReasons_frame id 0x0001 s).trans (endTask_frame id .cancelled true _)
    have hnext (next : Nat) (rest : List Nat) (hq : s.tku.queues.get f = id :: next :: rest) := endTask_task_next
      (n := next) (rest := rest) hu hq (pool_disjoint hpool f (by rw [hq]; simp)).1
      (by rintro rfl; rw [hq] at hnodup; simp at hnodup) .cancelled
    have hmass := releaseTask_mass id (s := addTaskReasons id 0x0001 s)
    have hbays := releaseTask_bays id (addTaskReasons id 0x0001 s)
    unfold EndFrame at hframe
    rw [htask id, if_pos rfl] at hbays
    simp only [htask id, if_pos] at hmass
    refine ⟨_, hcancel (cancelTask_ended hlt hlive hphase), ?_⟩
    generalize endTask id .cancelled true (addTaskReasons id 0x0001 s) = t at *
    obtain ⟨hcompletion, hqueues, hfree⟩ := hcollections
    refine ⟨?_, (congrArg (Pair.get · f) hqueues).trans (Pair.get_set_self _ _ _),
      (congrArg (Pair.get · f.other) hqueues).trans (Pair.get_set_other _ _ _), hcompletion, hfree,
      fun m => (mass_of_masses (congrArg Inv.masses hinv) m).trans (hmass m), ?_, fun b hb => ?_, fun w hw => ?_,
      fun next rest hq => ?_, fun hhead w hw => ?_, replied_replies hsteady.drive _ _ _, ?_, ?_, ?_⟩
    · refine hself.trans ?_
      rw [endedTask, htask, if_pos rfl]
      rfl
    · exact fun hb => hbays.1 ((congrArg Bay.task (bay_of_bays (congrArg Inv.bays hinv) _)).symm.trans hb)
    · exact fun ht => hbays.2 b hb ((congrArg Bay.task (bay_of_bays (congrArg Inv.bays hinv) _)).symm.trans ht)
    · rw [replied_flags, drive_flags]
      exact hflags.1 w hw
    · have hne : next ≠ id := by
        rintro rfl
        rw [hq] at hnodup
        simp at hnodup
      have hphase : activationPhase (addTaskReasons id 0x0001 s) ((addTaskReasons id 0x0001 s).task next) =
          activationPhase s (s.task next) := by
        rw [htask, if_neg hne]
        exact activationPhase_congr rfl
      exact (hnext next rest hq).trans hphase
    · rw [replied_flags, drive_flags]
      exact hflags.2 hhead w hw
    · exact (congrArg (fun u => u.gru.grants) hframe :)
    · exact (congrArg (fun u => u.inv.save) hframe :)
    · exact (congrArg State.sti hframe :)

/-! ### REDIRECT_TASK (R125) -/

theorem bayUsable_iff (s : State) (b : Nat) : bayUsable s b = true ↔
    (s.bay b).inService = true ∧ ∃ k, s.svt.working.landingOf b = some k ∧ (s.landing k).inService = true := by
  unfold bayUsable
  cases s.svt.working.landingOf b with
  | none => simp
  | some k => simp

/-- The BAY check of R111 for a task's own bay, condition by condition. -/
theorem bayFits_iff (s : State) (m b : Nat) (own : Option Nat) : bayFits s m b own = true ↔
    b < s.svt.working.nb ∧ bayUsable s b = true ∧ (s.bay b).content = none ∧
      ((s.bay b).task = none ∨ (own ≠ none ∧ (s.bay b).task = own)) ∧
      ¬ ((s.mass m).state = .stored ∧ (s.mass m).bay = some b) := by
  have hsome : own.isSome = true ↔ own ≠ none := Option.isSome_iff_ne_none
  simp only [bayFits, Bool.and_eq_true, Bool.or_eq_true, decide_eq_true_eq, Option.isNone_iff_eq_none, beq_iff_eq,
    hsome, Bool.not_eq_true', ← Bool.not_eq_true, and_assoc]

theorem moveDestination_task {id : Nat} (h : id < 32) (b : Nat) (s : State) :
    (moveDestination id b s).task id = { s.task id with dest := b } := by
  have htku (c : Prop) [Decidable c] (d : Nat) (u : State) : (reserveBay b id (if c then u else releaseBay d id u)).tku = u.tku := by
    rw [reserveBay_frame]
    split
    · rfl
    · rw [releaseBay_frame]
  unfold moveDestination
  dsimp only
  rw [State.task_setTask, if_pos ⟨rfl, h⟩, State.task, htku]
  rfl

/-- The reservation moves: the new bay is reserved, the old one released but for a source bay, and no other bay changes
(R125). -/
theorem moveDestination_bay {id b : Nat} {s : State} (hb : b < 40) (hne : b ≠ (s.task id).dest)
    (hfree : (s.bay b).task = none ∨ (s.bay b).task = some id) :
    ((moveDestination id b s).bay b).task = some id ∧
      ((moveDestination id b s).bay (s.task id).dest).task =
        (if (s.bay (s.task id).dest).task = some id ∧ (s.task id).source ≠ some (s.task id).dest then none
          else (s.bay (s.task id).dest).task) ∧
      ∀ c, c ≠ b → c ≠ (s.task id).dest → (moveDestination id b s).bay c = s.bay c := by
  have hreleased (c : Nat) : (if (s.task id).source = some (s.task id).dest then s
      else releaseBay (s.task id).dest id s).bay c =
      if c = (s.task id).dest ∧ (s.bay (s.task id).dest).task = some id ∧
        (s.task id).source ≠ some (s.task id).dest then { s.bay c with task := none } else s.bay c := by
    split
    · next hsource => simp [hsource]
    · next hsource =>
      rw [releaseBay_bay]
      by_cases hc : c = (s.task id).dest
      · subst hc
        simp [hsource]
      · simp [hc]
  change ((reserveBay b id _).bay b).task = _ ∧ ((reserveBay b id _).bay _).task = _ ∧
    ∀ c, _ → _ → (reserveBay b id _).bay c = _
  generalize (if (s.task id).source = some (s.task id).dest then s
    else releaseBay (s.task id).dest id s) = u at hreleased
  have hsame : u.bay b = s.bay b := by rw [hreleased, if_neg fun hc => hne hc.1]
  have hreserved (c : Nat) (hc : c ≠ b) : (reserveBay b id u).bay c = u.bay c := by
    unfold reserveBay
    split
    · rw [State.bay_setBay, if_neg fun h => hc h.1]
    · rfl
  refine ⟨?_, ?_, fun c hcb hcd => ?_⟩
  · rcases hfree with hfree | hfree
    · rw [reserveBay_bay id hb (hsame ▸ hfree), if_pos rfl]
    · rw [reserveBay, if_neg (by rw [hsame, hfree]; simp), hsame, hfree]
  · rw [hreserved _ (Ne.symm hne), hreleased]
    simp only [true_and]
    split <;> rfl
  · rw [hreserved c hcb, hreleased, if_neg fun hc => hcd hc.1]

theorem moveDestination_blocks (id b : Nat) (s : State) :
    (moveDestination id b s).inv.masses = s.inv.masses ∧ (moveDestination id b s).tku.queues = s.tku.queues ∧
      (moveDestination id b s).tku.completion = s.tku.completion := by
  have hreleased (c : Prop) [Decidable c] (d : Nat) :
      (if c then s else releaseBay d id s).inv.masses = s.inv.masses ∧
        (if c then s else releaseBay d id s).tku = s.tku := by
    split
    · exact ⟨rfl, rfl⟩
    · exact ⟨releaseBay_masses d id s, by rw [releaseBay_frame]⟩
  obtain ⟨hmasses, htku⟩ := hreleased ((s.task id).source = some (s.task id).dest) (s.task id).dest
  change (reserveBay b id _).inv.masses = _ ∧ (reserveBay b id _).tku.queues = _ ∧
    (reserveBay b id _).tku.completion = _
  rw [reserveBay_masses, hmasses, reserveBay_frame]
  exact ⟨rfl, congrArg Tku.queues htku, congrArg Tku.completion htku⟩

theorem redirectTask_range {id : Nat} (h : 32 ≤ id) (b : Nat) (s : State) : redirectTask id b s = (s, [0x13]) :=
  if_pos (by omega)

theorem redirectTask_notLive {id : Nat} {s : State} (hid : id < 32) (hlive : liveIn s id = none) (b : Nat) :
    redirectTask id b s = (s, [0x1A]) := by
  rw [redirectTask, if_neg (by omega), hlive]
  rfl

section
variable {id : Nat} {f : Frame} {s : State} (hid : id < 32) (hlive : liveIn s id = some f)
include hid hlive

theorem redirectTask_busy (h : (s.task id).phase = .loading ∨ (s.task id).phase = .unloading) (b : Nat) :
    redirectTask id b s = (s, [0x12]) := by
  rw [redirectTask, if_neg (by omega), hlive]
  dsimp only
  rw [if_pos (by rcases h with h | h <;> rw [h] <;> decide)]
  rfl

variable (h : (s.task id).phase = .queued ∨ (s.task id).phase = .toPickup ∨ (s.task id).phase = .toDrop)
include h

/-- The checks of R125 after the phase check. -/
theorem redirectTask_eq (b : Nat) : redirectTask id b s =
    if bayFits s (s.task id).mass b (some id) = true then
      (if (s.task id).dest = b then (s, [0x00] ++ redirectReply s b)
        else if s.head f = some id then
          (((moveDestination id b s).raiseWinder f .taskChanged).drive, [0x00] ++ redirectReply s b)
        else (moveDestination id b s, [0x00] ++ redirectReply s b))
    else (s, [0x1F]) := by
  rw [redirectTask, if_neg (by omega), hlive]
  dsimp only
  rw [if_neg (by rcases h with h | h | h <;> rw [h] <;> decide)]
  cases bayFits s (s.task id).mass b (some id) with
  | false => rfl
  | true =>
    rw [if_pos rfl, if_neg (by decide)]
    split
    · rfl
    split
    · rfl
    · rfl

end

/-! ### TAKE_COMPLETION (R126) -/

theorem takeCompletion_nil {s : State} (h : s.tku.completion = []) : takeCompletion s = (s, [0x23]) := by
  rw [takeCompletion, h]
  rfl

theorem takeCompletion_cons {s : State} {id : Nat} {rest : List Nat} (h : s.tku.completion = id :: rest) :
    takeCompletion s = (s.setTku { s.tku with completion := rest, free := insertAscending id s.tku.free },
      [0x00] ++ recordBytes id (s.task id)) := by
  rw [takeCompletion, h]
  rfl

/-- Settles O47: REDIRECT_TASK by its checks in order and what the move of the reservation leaves, TAKE_COMPLETION by the
front of the list. -/
theorem tasksAreRedirectedAndCollected : Obligations.TasksAreRedirectedAndCollected := by
  intro p n bay f k s id b x no fits hpool hnb
  have hqueued (hid : id ∈ s.tku.queues.get f) : id < 32 ∧ liveIn s id = some f :=
    ⟨(pool_disjoint hpool f hid).1, liveIn_of_pool hpool hid⟩
  have hredirect (h : Admitted s p .redirectTask) {u : State} {payload : List Byte}
      (hb : redirectTask id b s = (u, payload)) :
      exec (.redirectTask p n bay) s = .next (replied p .redirectTask payload u) := exec_of_admitted rfl h hb
  have hfits : bayFits s x.mass b (some id) = true ↔ ∃ k, fits k := by
    rw [bayFits_iff, bayUsable_iff]
    constructor
    · rintro ⟨hlt, ⟨hin, k, hk, hland⟩, hempty, hfree, hnot⟩
      exact ⟨k, hlt, hk, hin, hland, hempty, hfree.imp_right And.right, hnot⟩
    · rintro ⟨k, hlt, hk, hin, hland, hempty, hfree, hnot⟩
      exact ⟨hlt, ⟨hin, k, hk, hland⟩, hempty, hfree.imp_right fun hf => ⟨by simp, hf⟩, hnot⟩
  have hreply {k : Nat} (hk : fits k) : redirectReply s b = u8 b ++ u8 k := by
    rw [redirectReply, hk.2.1]
    rfl
  refine ⟨fun h hid => hredirect h (redirectTask_range hid b s),
    fun h hid hu hl => hredirect h (redirectTask_notLive hid (liveIn_none hu hl) b),
    fun h hid hphase => hredirect h (redirectTask_busy (hqueued hid).1 (hqueued hid).2 hphase b),
    fun h hid hphase => ?redirect, fun h he => exec_of_admitted rfl h (takeCompletion_nil he),
    fun i rest h hc => ⟨_, insertAscending_perm i s.tku.free, exec_of_admitted rfl h ?take⟩⟩
  case take =>
    refine (takeCompletion_cons hc).trans ?_
    rfl
  case redirect =>
    obtain ⟨hlt, hlive⟩ := hqueued hid
    have heq := redirectTask_eq hlt hlive hphase b
    have hrefused (hno : ¬ ∃ k, fits k) : no 0x1F := hredirect h (heq.trans (if_neg (mt hfits.1 hno)))
    refine ⟨fun hb => hrefused fun ⟨k, hk⟩ => absurd hk.1 (by omega), hrefused, fun hk hdest => hredirect h ?_,
      fun hk hdest => ?moved⟩
    · rw [heq, if_pos (hfits.2 ⟨k, hk⟩), if_pos hdest.symm, hreply hk, List.append_assoc]
    case moved =>
      rw [if_pos (hfits.2 ⟨k, hk⟩), if_neg (Ne.symm hdest), hreply hk] at heq
      have hb40 : b < 40 := Nat.lt_of_lt_of_le hk.1 hnb
      obtain ⟨hnew, hold, hothers⟩ := moveDestination_bay hb40 hdest hk.2.2.2.2.2.1
      obtain ⟨hmasses, hqueues, hcompletion⟩ := moveDestination_blocks id b s
      have htask := moveDestination_task hlt b s
      have hsteady := moveDestination_steady id b s
      obtain ⟨u, hu, htku, hinv, hkept, hflag⟩ : ∃ u, redirectTask id b s = (u, [0x00] ++ (u8 b ++ u8 k)) ∧
          u.tku = (moveDestination id b s).tku ∧ u.inv = (moveDestination id b s).inv ∧ Steady s u ∧
          (s.head f = some id → ∀ w, (s.port w).role = winderRole f → (u.port w).flags.getLsbD 6 = true) := by
        generalize moveDestination id b s = v at heq hsteady
        split at heq
        · refine ⟨_, heq, rfl, rfl, (hsteady.raiseWinder f .taskChanged).drive, fun _ w hw => ?_⟩
          rw [drive_flags]
          exact flag_raiseOn (by rw [(hsteady.port w).role, hw]; cases f <;> rfl) rfl
        · next hhead => exact ⟨_, heq, rfl, rfl, hsteady, fun h => absurd h hhead⟩
      have hbay (c : Nat) : u.bay c = (moveDestination id b s).bay c := bay_of_bays (congrArg Inv.bays hinv) c
      refine ⟨_, hredirect h hu, (congrArg (fun q => q.tasks.getD id Task.blank) htku).trans htask,
        (congrArg Bay.task (hbay b)).trans hnew, (congrArg Bay.task (hbay _)).trans hold,
        fun c hcb hcd => (hbay c).trans (hothers c hcb hcd), (congrArg Inv.masses hinv).trans hmasses,
        (congrArg Tku.queues htku).trans hqueues, (congrArg Tku.completion htku).trans hcompletion,
        fun hhead w hw => ?_, ?_⟩
      · rw [replied_flags]
        exact hflag hhead w hw
      · rw [replied_replies hkept, List.append_assoc]

end Sys2Proof.Machine
end

section
/-! SUPPORT. O45: what SUBMIT_TASK checks, chooses and queues. -/

namespace Sys2Proof.Machine

/-! ### The free list (R107) -/

theorem lowest_le {ids : List Nat} {m : Nat} (h : lowest ids = some m) {i : Nat} (hi : i ∈ ids) : m ≤ i := by
  induction ids generalizing m with
  | nil => cases hi
  | cons a as ih =>
    rw [lowest] at h
    split at h
    · next b hb =>
      cases h
      rcases List.mem_cons.1 hi with rfl | hi
      · exact Nat.min_le_left _ _
      · exact (Nat.min_le_right _ _).trans (ih hb hi)
    · next hnone =>
      cases h
      rcases List.mem_cons.1 hi with rfl | hi
      · exact Nat.le_refl _
      · cases as with
        | nil => cases hi
        | cons c cs =>
          rw [lowest] at hnone
          split at hnone <;> cases hnone

theorem lowest_isSome {ids : List Nat} (h : ids ≠ []) : ∃ n, lowest ids = some n := by
  cases ids with
  | nil => exact absurd rfl h
  | cons a as =>
    rw [lowest]
    split <;> exact ⟨_, rfl⟩

theorem lowest_eq {ids : List Nat} {n : Nat} (hn : n ∈ ids) (hle : ∀ i ∈ ids, n ≤ i) : lowest ids = some n := by
  obtain ⟨m, hm⟩ := lowest_isSome (List.ne_nil_of_mem hn)
  rw [hm, Nat.le_antisymm (lowest_le hm hn) (hle m (mem_of_lowest hm))]

/-! ### The checks of SUBMIT_TASK (R110 to R113) -/

theorem massMovable_iff (s : State) (id : Nat) : massMovable s id = true ↔
    1 ≤ id ∧ id ≤ 40 ∧ ((s.mass id).state = .stored ∨ (s.mass id).state = .carried) ∧ (s.mass id).task = none := by
  simp [massMovable, and_assoc]

theorem firstMass_isSome (s : State) (c : Mass → Bool) :
    (firstMass s c).isSome = true ↔ ∃ id ∈ massIds, c (s.mass id) = true := by
  simp [firstMass]

theorem barred_iff (s : State) (f : Frame) : barred s f = true ↔
    ∃ id ∈ massIds, (s.mass id).state = .carried ∧ (s.mass id).frame = some f ∧ (s.mass id).task = none := by
  rw [barred, firstMass_isSome]
  simp only [Bool.and_eq_true, beq_iff_eq, Option.isNone_iff_eq_none, and_assoc]

theorem chosenFrame_named {n : Nat} {f : Frame} (h : n = frameCode f) (s : State) (id : Nat) :
    chosenFrame s id n = if namedFrameFits s id f then some f else none := by
  have hlt := frameCode_lt_two f
  rw [chosenFrame, if_neg (by omega), h, frameOfCode_frameCode]
  rfl

theorem namedFrameFits_carried {s : State} {id : Nat} (h : (s.mass id).state = .carried) (f : Frame) :
    namedFrameFits s id f = ((s.mass id).frame == some f) := if_pos h

theorem namedFrameFits_stored {s : State} {id : Nat} (h : (s.mass id).state = .stored) (f : Frame) :
    namedFrameFits s id f = !barred s f := if_neg (by rw [h]; decide)

/-- A carried mass is carried on by its own frame (R112, R113). -/
theorem chosenFrame_carried {s : State} {id n : Nat} {f : Frame} (h : (s.mass id).state = .carried)
    (hf : (s.mass id).frame = some f) (hn : n = frameCode f ∨ n = 2) : chosenFrame s id n = some f := by
  rcases hn with hn | rfl
  · rw [chosenFrame_named hn, namedFrameFits_carried h, hf]
    simp
  · rw [chosenFrame, if_pos rfl, anyFrame, if_pos h, hf]

/-- A stored mass goes to the frame named, or for ANY to the one that is not barred or is preferred (R112, R113). -/
theorem chosenFrame_stored {s : State} {id n : Nat} {f : Frame} (h : (s.mass id).state = .stored)
    (hbarred : barred s f = false) (hn : n = frameCode f ∨ (n = 2 ∧ (barred s f.other = true ∨
      preferredFrame s (((s.mass id).bay.bind s.svt.working.landingOf).getD 0) = f))) : chosenFrame s id n = some f := by
  rcases hn with hn | ⟨rfl, hany⟩
  · rw [chosenFrame_named hn, namedFrameFits_stored h, hbarred]
    rfl
  · rw [chosenFrame, if_pos rfl, anyFrame, if_neg (by rw [h]; decide)]
    cases hother : barred s f.other with
    | true =>
      cases f with
      | U => simp only [hbarred, show barred s .L = true from hother]
      | L => simp only [hbarred, show barred s .U = true from hother]
    | false =>
      have hpreferred : preferredFrame s (((s.mass id).bay.bind s.svt.working.landingOf).getD 0) = f :=
        hany.resolve_left (by simp [hother])
      cases f with
      | U => simp only [hbarred, show barred s .L = false from hother, hpreferred]
      | L => simp only [hbarred, show barred s .U = false from hother, hpreferred]

theorem chosenFrame_both_barred {s : State} {id : Nat} (h : (s.mass id).state = .stored) (hu : barred s .U = true)
    (hl : barred s .L = true) : chosenFrame s id 2 = none := by
  rw [chosenFrame, if_pos rfl, anyFrame, if_neg (by rw [h]; decide), hu, hl]

/-- Frame f is the nearer: U also where both are equally near (R113). -/
def NearerBy (d : Frame → Option Nat) : Frame → Prop
  | .U => ∀ b, d .L = some b → ∃ a, d .U = some a ∧ a ≤ b
  | .L => ∃ b, d .L = some b ∧ ∀ a, d .U = some a → b < a

theorem nearerFrame_eq {d : Frame → Option Nat} {f : Frame} (h : NearerBy d f) : nearerFrame (d .U) (d .L) = f := by
  cases f with
  | U =>
    cases hl : d .L with
    | none => cases d .U <;> rfl
    | some b =>
      obtain ⟨a, ha, hab⟩ := h b hl
      rw [ha]
      exact if_neg (by omega)
  | L =>
    obtain ⟨b, hb, hlt⟩ := h
    rw [hb]
    cases hu : d .U with
    | none => rfl
    | some a => exact if_pos (hlt a hu)

theorem preferredFrame_shorter {s : State} {f : Frame}
    (h : (s.tku.queues.get f).length < (s.tku.queues.get f.other).length) (k : Nat) : preferredFrame s k = f := by
  cases f with
  | U => exact if_pos h
  | L => exact (if_neg (Nat.lt_asymm h)).trans (if_pos h)

theorem preferredFrame_nearer {s : State} {f : Frame} {k : Nat}
    (h : (s.tku.queues.get f).length = (s.tku.queues.get f.other).length)
    (hnear : NearerBy (fun g => frameDistance s g k) f) : preferredFrame s k = f := by
  have hlen : s.tku.queues.u.length = s.tku.queues.l.length := by
    cases f with
    | U => exact h
    | L => exact h.symm
  rw [preferredFrame, if_neg (by omega), if_neg (by omega)]
  exact nearerFrame_eq hnear

theorem submitTask_lockout {s : State} (h : s.mdc.mode = .lockout) (tag : BitVec 16) (id b n : Nat) :
    submitTask tag id b n s = (s, [0x11]) := if_pos h

section
variable {s : State} (hmode : s.mdc.mode ≠ .lockout) {frame : Nat}
include hmode

theorem submitTask_range (h : 2 < frame) (tag : BitVec 16) (id b : Nat) : submitTask tag id b frame s = (s, [0x13]) := by
  rw [submitTask, if_neg hmode, if_pos h]
  rfl

variable (hframe : frame ≤ 2)
include hframe

theorem submitTask_empty (h : s.tku.free = []) (tag : BitVec 16) (id b : Nat) :
    submitTask tag id b frame s = (s, [0x1D]) := by
  rw [submitTask, if_neg hmode, if_neg (by omega), h]
  rfl

variable {n : Nat} (hn : lowest s.tku.free = some n) {id b : Nat}
include hn

theorem submitTask_mass (h : ¬ massMovable s id = true) (tag : BitVec 16) : submitTask tag id b frame s = (s, [0x1E]) := by
  rw [submitTask, if_neg hmode, if_neg (by omega), hn]
  dsimp only
  rw [if_pos (by simpa using h)]
  rfl

variable (hmass : massMovable s id = true)
include hmass

theorem submitTask_bay (h : ¬ bayFits s id b none = true) (tag : BitVec 16) :
    submitTask tag id b frame s = (s, [0x1F]) := by
  rw [submitTask, if_neg hmode, if_neg (by omega), hn]
  dsimp only
  rw [if_neg (by simp [hmass]), if_pos (by simpa using h)]
  rfl

variable (hbay : bayFits s id b none = true)
include hbay

theorem submitTask_frame (h : chosenFrame s id frame = none) (tag : BitVec 16) :
    submitTask tag id b frame s = (s, [0x20]) := by
  rw [submitTask, if_neg hmode, if_neg (by omega), hn]
  dsimp only
  rw [if_neg (by simp [hmass]), if_neg (by simp [hbay]), h]
  rfl

theorem submitTask_chosen {f : Frame} (h : chosenFrame s id frame = some f) (tag : BitVec 16) :
    submitTask tag id b frame s = if (s.svt.working.winder.get f).pl < (s.mass id).nominal then (s, [0x21])
      else ((acceptTask n tag id b f s).drive, [0x00] ++ u8 n ++ u8 (frameCode f)) := by
  rw [submitTask, if_neg hmode, if_neg (by omega), hn]
  dsimp only
  rw [if_neg (by simp [hmass]), if_neg (by simp [hbay]), h]
  rfl

end

/-! ### The accepted task (R114) -/

theorem queuedWith_tku (n : Nat) (r : Task) (f : Frame) (s : State) : (queuedWith n r f s).tku = { s.tku with
    tasks := s.tku.tasks.set n r, free := s.tku.free.erase n
    queues := s.tku.queues.set f (s.tku.queues.get f ++ [n]) } := by
  simp only [queuedWith, setQueue, State.setTku_tku, reservedFor_tku]

theorem queuedWith_mass {n : Nat} {r : Task} {f : Frame} {s : State} (h1 : 1 ≤ r.mass) (h2 : r.mass ≤ 40)
    (h : (s.mass r.mass).task = none) (j : Nat) :
    (queuedWith n r f s).mass j = if j = r.mass then { s.mass r.mass with task := some n } else s.mass j := by
  change (reserveBay r.dest n (reserveBayOf r.source n (reserveMass r.mass n _))).mass j = _
  rw [mass_of_masses (reserveBay_masses _ _ _), mass_of_masses (reserveBayOf_masses _ _ _)]
  exact reserveMass_mass n h1 h2
    (s := (s.setTask n r).setTku { (s.setTask n r).tku with free := (s.setTask n r).tku.free.erase n }) h j

/-- Both bays of the task are reserved for it (R114). -/
theorem queuedWith_bay {n : Nat} {r : Task} {f : Frame} {s : State} (hdest : r.dest < 40)
    (hfree : (s.bay r.dest).task = none)
    (hsource : ∀ b, r.source = some b → b < 40 ∧ b ≠ r.dest ∧ (s.bay b).task = none) :
    ((queuedWith n r f s).bay r.dest).task = some n ∧
      ∀ b, r.source = some b → ((queuedWith n r f s).bay b).task = some n := by
  change ((reserveBay r.dest n (reserveBayOf r.source n (reserveMass r.mass n _))).bay r.dest).task = some n ∧
    ∀ b, _ → ((reserveBay r.dest n (reserveBayOf r.source n (reserveMass r.mass n _))).bay b).task = some n
  generalize hu : reserveMass r.mass n _ = u
  have hbay (c : Nat) : u.bay c = s.bay c := by
    rw [← hu, bay_of_bays (reserveMass_bays _ _ _)]
    rfl
  cases hs : r.source with
  | none =>
    refine ⟨?_, nofun⟩
    rw [reserveBayOf, reserveBay_bay n hdest (hbay _ ▸ hfree), if_pos rfl]
  | some b =>
    obtain ⟨hb, hne, hbfree⟩ := hsource b hs
    have hreserved := reserveBay_bay n (s := u) hb (hbay b ▸ hbfree)
    have hstill : ((reserveBay b n u).bay r.dest).task = none := by
      rw [hreserved, if_neg (Ne.symm hne), hbay, hfree]
    refine ⟨?_, fun c hc => ?_⟩
    · rw [reserveBayOf, reserveBay_bay n hdest hstill, if_pos rfl]
    · cases hc
      rw [reserveBayOf, reserveBay_bay n hdest hstill, if_neg hne, hreserved, if_pos rfl]

theorem activateHead_collections (f : Frame) (s : State) : (activateHead f s).tku.queues = s.tku.queues ∧
    (activateHead f s).tku.free = s.tku.free ∧ (activateHead f s).tku.completion = s.tku.completion := by
  unfold activateHead
  split <;> exact ⟨rfl, rfl, rfl⟩

theorem head_append {s : State} {f : Frame} {n : Nat} (hn : n ∉ s.tku.queues.get f) (r : Task) :
    (queuedWith n r f s).head f = some n ↔ s.tku.queues.get f = [] := by
  rw [State.head, queuedWith_tku]
  simp only [Pair.get_set_self]
  cases hq : s.tku.queues.get f with
  | nil => simp
  | cons a as =>
    have hne : a ≠ n := fun heq => hn (by simp [hq, heq])
    simp [hne]

/-- An accepted task: collections, record, reservations and the flag (R114, R115). -/
theorem acceptTask_spec {n : Nat} {tag : BitVec 16} {id b : Nat} {f : Frame} {s : State} (hpool : PoolPartitioned s)
    (hn : n ∈ s.tku.free) :
    let r := newTask s tag id b f
    let t := acceptTask n tag id b f s
    t.tku.queues = s.tku.queues.set f (s.tku.queues.get f ++ [n]) ∧ t.tku.free = s.tku.free.erase n ∧
      t.tku.completion = s.tku.completion ∧ t.inv = (queuedWith n r f s).inv ∧
      t.task n = (if s.tku.queues.get f ≠ [] then r
        else { r with phase := activationPhase (queuedWith n r f s) r }) ∧
      (s.tku.queues.get f = [] → ∀ w, (s.port w).role = winderRole f → (t.port w).flags.getLsbD 6 = true) := by
  intro r t
  obtain ⟨hlt, hnot⟩ := free_not_queued hpool hn
  have htku := queuedWith_tku n r f s
  have htask : (queuedWith n r f s).task n = r := by
    rw [State.task, htku]
    exact (Bank.getD_set _ _ _ _ _).trans (if_pos ⟨rfl, hlt⟩)
  have hhead := head_append (hnot f) r
  have heq : t = if (queuedWith n r f s).head f = some n then
      (activateHead f (queuedWith n r f s)).raiseWinder f .taskChanged else queuedWith n r f s := acceptTask_eq ..
  by_cases hempty : s.tku.queues.get f = []
  · rw [if_pos (hhead.2 hempty)] at heq
    obtain ⟨hqueues, hfree, hcompletion⟩ := activateHead_collections f (queuedWith n r f s)
    have hports : ∀ w, ((activateHead f (queuedWith n r f s)).port w).role = (s.port w).role := fun w => by
      have hsteady := acceptTask_steady n tag id b f s
      have hrole := (hsteady.port w).role
      change (t.port w).role = _ at hrole
      rw [heq, State.port_raiseWinder] at hrole
      split at hrole
      · exact hrole
      · exact hrole
    rw [heq]
    refine ⟨hqueues.trans (by rw [htku]), hfree.trans (by rw [htku]), hcompletion.trans (by rw [htku]),
      activateHead_inv f _, ?_, fun _ w hw => flag_raiseOn (by rw [hports, hw]; cases f <;> rfl) rfl⟩
    rw [raiseWinder_task, activateHead_task, if_pos ⟨hhead.2 hempty, hlt⟩, if_neg (not_not.2 hempty), htask]
  · rw [if_neg (mt hhead.1 hempty)] at heq
    rw [heq]
    exact ⟨by rw [htku], by rw [htku], by rw [htku], rfl, by rw [if_pos hempty, htask], fun h => absurd h hempty⟩

/-- The distance of R113 from a landing, as the model has it. -/
theorem frameDistance_eq (s : State) (g : Frame) (j : Nat) : frameDistance s g j = match s.lastReport g with
    | some r => if (s.tracker g).state = .unknown then none
      else some ((r.e - s.svt.working.floor j) + (s.svt.working.floor j - r.e))
    | none => none := by
  unfold frameDistance
  cases s.lastReport g with
  | none => split <;> rfl
  | some r => split <;> rfl

/-- The accepted SUBMIT_TASK of O45. -/
theorem submitTask_accepted {p : PortId} {tag : BitVec 16} {mass bay frame : Byte} {f : Frame} {n k : Nat}
    {source : Option Nat} {s : State} (h : Admitted s p .submitTask) (hmode : s.mdc.mode ≠ .lockout)
    (hpool : PoolPartitioned s) (hnb : s.svt.working.nb ≤ 40) (hn : n ∈ s.tku.free) (hle : ∀ i ∈ s.tku.free, n ≤ i)
    (h1 : 1 ≤ mass.toNat) (h2 : mass.toNat ≤ 40) (hfree : (s.mass mass.toNat).task = none)
    (hlt : bay.toNat < s.svt.working.nb) (hk : s.svt.working.landingOf bay.toNat = some k)
    (hland : (s.landing k).inService = true) (hin : (s.bay bay.toNat).inService = true)
    (hempty : (s.bay bay.toNat).content = none) (hbfree : (s.bay bay.toNat).task = none)
    (hframe : frame.toNat ≤ 2) (hchosen : chosenFrame s mass.toNat frame.toNat = some f)
    (hstate : ((s.mass mass.toNat).state = .stored ∧ (s.mass mass.toNat).bay = source ∧
        ∃ b < 40, source = some b ∧ b ≠ bay.toNat ∧ (s.bay b).task = none) ∨
      ((s.mass mass.toNat).state = .carried ∧ source = none))
    (hload : (s.mass mass.toNat).nominal ≤ (s.svt.working.winder.get f).pl) :
    ∃ t, exec (.submitTask p tag mass bay frame) s = .next t ∧
      t.task n = { tag := tag, mass := mass.toNat, source := source, dest := bay.toNat, frame := f
                   phase := if s.tku.queues.get f ≠ [] then .queued else if source.isSome then .toPickup else .toDrop
                   cancelPending := false, reasons := 0, delta := 0, outcome := none } ∧
      t.tku.queues.get f = s.tku.queues.get f ++ [n] ∧ t.tku.queues.get f.other = s.tku.queues.get f.other ∧
      t.tku.free = s.tku.free.erase n ∧ t.tku.completion = s.tku.completion ∧
      t.mass mass.toNat = { s.mass mass.toNat with task := some n } ∧
      (∀ id, id ≠ mass.toNat → t.mass id = s.mass id) ∧
      (t.bay bay.toNat).task = some n ∧ (∀ b, source = some b → (t.bay b).task = some n) ∧
      (s.tku.queues.get f = [] → ∀ w, (s.port w).role = winderRole f → (t.port w).flags.getLsbD 6 = true) ∧
      (t.port p).replies =
        (s.port p).replies ++ [replyOf .submitTask ([0x00] ++ u8 n ++ u8 (frameCode f))] ∧
      t.ftk = s.ftk ∧ t.gru.grants = s.gru.grants ∧ t.arb = s.arb ∧ t.inv.save = s.inv.save ∧ t.sti = s.sti := by
  have hmovable : massMovable s mass.toNat = true :=
    (massMovable_iff s _).2 ⟨h1, h2, hstate.imp And.left And.left, hfree⟩
  have hfits : bayFits s mass.toNat bay.toNat none = true := by
    refine (bayFits_iff s _ _ none).2 ⟨hlt, (bayUsable_iff s _).2 ⟨hin, k, hk, hland⟩, hempty, .inl hbfree, ?_⟩
    rintro ⟨hstored, hb⟩
    rcases hstate with ⟨-, hsource, b, -, rfl, hne, -⟩ | ⟨hcarried, -⟩
    · exact hne (Option.some.inj (hsource.symm.trans hb))
    · rw [hcarried] at hstored
      cases hstored
  have hanswer := (submitTask_chosen hmode hframe (lowest_eq hn hle) hmovable hfits hchosen tag).trans
    (if_neg (by omega))
  have hsource : (newTask s tag mass.toNat bay.toNat f).source = source := by
    unfold newTask
    rcases hstate with ⟨hstored, hb, -⟩ | ⟨hcarried, rfl⟩
    · rw [if_pos hstored, hb]
    · rw [if_neg (by rw [hcarried]; decide)]
  obtain ⟨hqueues, hfreed, hcompletion, hinv, htask, hflag⟩ :=
    acceptTask_spec (tag := tag) (id := mass.toNat) (b := bay.toNat) (f := f) hpool hn
  have hmass := queuedWith_mass (n := n) (r := newTask s tag mass.toNat bay.toNat f) (f := f) h1 h2 hfree
  have hbays := queuedWith_bay (n := n) (r := newTask s tag mass.toNat bay.toNat f) (f := f) (s := s)
    (hlt.trans_le hnb) hbfree fun b hb => by
      rw [hsource] at hb
      rcases hstate with ⟨-, -, c, hc, rfl, hne, hcfree⟩ | ⟨-, rfl⟩
      · cases hb
        exact ⟨hc, hne, hcfree⟩
      · cases hb
  rw [hsource] at hbays
  have hphase : activationPhase (queuedWith n (newTask s tag mass.toNat bay.toNat f) f s)
      (newTask s tag mass.toNat bay.toNat f) = if source.isSome then .toPickup else .toDrop := by
    unfold activationPhase
    rw [hmass, if_pos rfl]
    rcases hstate with ⟨hstored, -, b, -, rfl, -⟩ | ⟨hcarried, rfl⟩
    · simp only [show (newTask s tag mass.toNat bay.toNat f).mass = mass.toNat from rfl, hstored]
      rfl
    · simp only [show (newTask s tag mass.toNat bay.toNat f).mass = mass.toNat from rfl, hcarried]
      rfl
  have hsteady := acceptTask_steady n tag mass.toNat bay.toNat f s
  have hend := acceptTask_end n tag mass.toNat bay.toNat f s
  unfold EndFrame at hend
  rw [hphase] at htask
  refine ⟨_, exec_of_admitted rfl h hanswer, ?_⟩
  generalize acceptTask n tag mass.toNat bay.toNat f s = t at *
  have hbay (b : Nat) := bay_of_bays (congrArg Inv.bays hinv) b
  have hmasses (id : Nat) := (mass_of_masses (congrArg Inv.masses hinv) id).trans (hmass id)
  refine ⟨htask.trans ?_, (congrArg (Pair.get · f) hqueues).trans (Pair.get_set_self _ _ _),
    (congrArg (Pair.get · f.other) hqueues).trans (Pair.get_set_other _ _ _), hfreed, hcompletion,
    (hmasses _).trans (if_pos rfl), fun id hid => (hmasses id).trans (if_neg hid),
    (congrArg Bay.task (hbay _)).trans hbays.1, fun b hb => (congrArg Bay.task (hbay _)).trans (hbays.2 b hb),
    fun he w hw => ?_, replied_replies hsteady.drive _ _ _, (congrArg State.ftk hend :),
    (congrArg (fun u => u.gru.grants) hend :), (congrArg State.arb hend :), (congrArg (fun u => u.inv.save) hend :),
    (congrArg State.sti hend :)⟩
  · unfold newTask at hsource ⊢
    dsimp only at hsource
    rw [hsource]
    split <;> rfl
  · rw [replied_flags, drive_flags]
    exact hflag he w hw

/-- Settles O45: the frame is chosen as R113 has it and the lowest free record is queued; each refusal is the first
check that fails. -/
theorem submitTaskQueuesTheLowestFreeRecord : Obligations.SubmitTaskQueuesTheLowestFreeRecord := by
  constructor
  · intro p tag mass bay frame f n k source s away nearer h hmode hpool hnb hn hle h1 h2 hfree hlt hk hland hin hempty
      hbfree hstate hload
    have hlt2 := frameCode_lt_two f
    have hbarred {g : Frame} (hno : ∀ id ∈ massIds, ¬ ((s.mass id).state = .carried ∧ (s.mass id).frame = some g ∧
        (s.mass id).task = none)) : barred s g = false := by
      rw [← Bool.not_eq_true, barred_iff]
      rintro ⟨id, hid, hc⟩
      exact hno id hid hc
    refine submitTask_accepted h hmode hpool hnb hn hle h1 h2 hfree hlt hk hland hin hempty hbfree ?_ ?_
      (hstate.imp (fun ⟨hstored, hb, hsource, _⟩ => ⟨hstored, hb, hsource⟩) fun ⟨hcarried, _, hsource, _⟩ =>
        ⟨hcarried, hsource⟩) hload
    · rcases hstate with ⟨-, -, -, -, hc | ⟨hc, -⟩⟩ | ⟨-, -, -, hc | hc⟩ <;> omega
    · rcases hstate with ⟨hstored, hb, -, hno, hc⟩ | ⟨hcarried, hf, -, hc⟩
      · refine chosenFrame_stored hstored (hbarred hno) (hc.imp_right fun ⟨htwo, hany⟩ => ⟨htwo, ?_⟩)
        rcases hany with hother | hshort | ⟨hequal, hsome, hnear⟩
        · exact .inl ((barred_iff s _).2 hother)
        · exact .inr (preferredFrame_shorter hshort _)
        · right
          rw [hb]
          obtain ⟨j, hj⟩ := Option.ne_none_iff_exists'.1 hsome
          have haway (g : Frame) : away g = frameDistance s g j := by
            rw [frameDistance_eq]
            simp only [away, hj]
            cases s.lastReport g <;> rfl
          rw [hj, Option.getD_some]
          refine preferredFrame_nearer hequal ?_
          cases f with
          | U => exact fun b hb => by simpa only [haway] using hnear b (by rw [haway]; exact hb)
          | L =>
            obtain ⟨b, hb, hlt⟩ := hnear
            exact ⟨b, by rw [haway] at hb; exact hb, fun a ha => hlt a (by rw [haway]; exact ha)⟩
      · exact chosenFrame_carried hcarried hf hc
  · intro p tag mass bay frame s h x no asked movable fits isBarred takes
    have hsubmit {u : State} {payload : List Byte}
        (hb : submitTask tag mass.toNat bay.toNat frame.toNat s = (u, payload)) :
        exec (.submitTask p tag mass bay frame) s = .next (replied p .submitTask payload u) := exec_of_admitted rfl h hb
    have hmovable : movable ↔ massMovable s mass.toNat = true := (massMovable_iff s _).symm
    have hfits : fits ↔ bayFits s mass.toNat bay.toNat none = true := by
      rw [bayFits_iff, bayUsable_iff]
      constructor
      · rintro ⟨hlt, hland, hin, hempty, hfree, hnot⟩
        exact ⟨hlt, ⟨hin, hland⟩, hempty, .inl hfree, hnot⟩
      · rintro ⟨hlt, ⟨hin, hland⟩, hempty, hfree, hnot⟩
        exact ⟨hlt, hland, hin, hempty, hfree.resolve_right (by simp), hnot⟩
    have hbarred (g : Frame) : isBarred g ↔ barred s g = true := (barred_iff s g).symm
    have hlowest (ha : asked) : ∃ n, lowest s.tku.free = some n := lowest_isSome ha.2.2
    have hframe {c : Option Frame} (ha : asked) (hm : movable) (hf : fits)
        (hc : chosenFrame s mass.toNat frame.toNat = c) (hnone : c = none) : no 0x20 := by
      obtain ⟨n, hn⟩ := hlowest ha
      exact hsubmit (submitTask_frame ha.1 ha.2.1 hn (hmovable.1 hm) (hfits.1 hf) (hc.trans hnone) tag)
    refine ⟨fun hm => hsubmit (submitTask_lockout hm _ _ _ _), fun hm hr => hsubmit (submitTask_range hm hr _ _ _),
      fun hm hr he => hsubmit (submitTask_empty hm hr he _ _ _), fun ha hm => ?_, fun ha hm hf => ?_,
      fun g ha hm hf hc hcarried hne => hframe ha hm hf (chosenFrame_named hc s _) ?_,
      fun g ha hm hf hc hstored hb => hframe ha hm hf (chosenFrame_named hc s _) ?_,
      fun ha hm hf hc hstored hu hl => hframe ha hm hf (hc ▸ rfl)
        (chosenFrame_both_barred hstored ((hbarred _).1 hu) ((hbarred _).1 hl)), fun g ha hm hf htakes hlimit => ?_⟩
    · obtain ⟨n, hn⟩ := hlowest ha
      exact hsubmit (submitTask_mass ha.1 ha.2.1 hn (mt hmovable.2 hm) tag)
    · obtain ⟨n, hn⟩ := hlowest ha
      exact hsubmit (submitTask_bay ha.1 ha.2.1 hn (hmovable.1 hm) (mt hfits.2 hf) tag)
    · rw [namedFrameFits_carried hcarried, if_neg (by simpa using hne)]
    · rw [namedFrameFits_stored hstored, (hbarred g).1 hb]
      rfl
    · obtain ⟨n, hn⟩ := hlowest ha
      have hchosen : chosenFrame s mass.toNat frame.toNat = some g := by
        rcases htakes with ⟨hcarried, hg, hc⟩ | ⟨hstored, hno, hc⟩
        · exact chosenFrame_carried hcarried hg hc.symm
        · refine chosenFrame_stored hstored (by rw [← Bool.not_eq_true, ← hbarred]; exact hno)
            (hc.imp_right fun ⟨htwo, ho⟩ => ⟨htwo, .inl ((hbarred _).1 ho)⟩)
      exact hsubmit ((submitTask_chosen ha.1 ha.2.1 hn (hmovable.1 hm) (hfits.1 hf) hchosen tag).trans (if_pos hlimit))

end Sys2Proof.Machine
end

section
/-! SUPPORT. O31: what LOCKOUT entry leaves. -/

namespace Sys2Proof.Machine

/-! ### The queues of LOCKOUT entry (R129) -/

/-- One task of a queue ended by LOCKOUT entry (R129). -/
def lockedOut (id : Nat) (s : State) : State := endTask id .cancelled false (addTaskReasons id 0x0003 s)

theorem endQueue_eq (f : Frame) (s : State) :
    endQueue f s = (s.tku.queues.get f).foldl (fun t id => lockedOut id t) s := rfl

section
variable {s : State} {f : Frame} {id : Nat} {q : List Nat} (hq : s.tku.queues.get f = id :: q)
  (hu : f = .L → s.tku.queues.u = [])
include hq hu

theorem lockedOut_live : liveIn (addTaskReasons id 0x0003 s) id = some f :=
  liveIn_of_mem (s := addTaskReasons id 0x0003 s) (hq ▸ List.mem_cons_self) hu

theorem lockedOut_queues : (lockedOut id s).tku.queues = s.tku.queues.set f q := endHead_queues hq hu _ _ _

theorem lockedOut_completion : (lockedOut id s).tku.completion = s.tku.completion ++ [id] :=
  (endTask_collections id _ _ _ (lockedOut_live hq hu)).1

theorem lockedOut_task_other {j : Nat} (hj : j ≠ id) : (lockedOut id s).task j = s.task j := by
  refine (endTask_task_other (lockedOut_live hq hu) .cancelled (next := false) hj nofun).trans ?_
  rw [addTaskReasons, State.task_setTask, if_neg fun h => hj h.1]

theorem lockedOut_task_self (hid : id < 32) : ((lockedOut id s).task id).phase = .cancelled ∧
    ((lockedOut id s).task id).reasons = (s.task id).reasons ||| 0x0003 := by
  have h := endTask_task_self (lockedOut_live hq hu) hid .cancelled (next := false) nofun
  rw [lockedOut, h, endedTask, addTaskReasons_task hid, if_pos rfl]
  exact ⟨rfl, rfl⟩

/-- The walk along a queue goes on with the rest of it. -/
theorem endQueue_cons : endQueue f s = endQueue f (lockedOut id s) ∧ (lockedOut id s).tku.queues.get f = q ∧
    (f = .L → (lockedOut id s).tku.queues.u = []) := by
  have hqueues := lockedOut_queues hq hu
  have hget : (lockedOut id s).tku.queues.get f = q := (congrArg (Pair.get · f) hqueues).trans (Pair.get_set_self _ _ _)
  refine ⟨?_, hget, fun hf => ?_⟩
  · rw [endQueue_eq, endQueue_eq, hget, hq, List.foldl_cons]
  · rw [hqueues]
    subst hf
    exact hu rfl

end

theorem endQueue_completion {s : State} {f : Frame} (hu : f = .L → s.tku.queues.u = []) :
    (endQueue f s).tku.completion = s.tku.completion ++ s.tku.queues.get f := by
  generalize hq : s.tku.queues.get f = q
  induction q generalizing s with
  | nil => rw [endQueue_eq, hq, List.append_nil]; rfl
  | cons id q ih =>
    obtain ⟨hstep, hrest, hempty⟩ := endQueue_cons hq hu
    rw [hstep, ih hempty hrest, lockedOut_completion hq hu, List.append_assoc]
    rfl

theorem endQueue_task_other {s : State} {f : Frame} (hu : f = .L → s.tku.queues.u = []) {j : Nat}
    (hj : j ∉ s.tku.queues.get f) : (endQueue f s).task j = s.task j := by
  generalize hq : s.tku.queues.get f = q at hj
  induction q generalizing s with
  | nil => rw [endQueue_eq, hq]; rfl
  | cons id q ih =>
    obtain ⟨hstep, hrest, hempty⟩ := endQueue_cons hq hu
    rw [List.mem_cons, not_or] at hj
    rw [hstep, ih hempty hrest hj.2, lockedOut_task_other hq hu hj.1]

/-- Every task of the queue has ended CANCELLED with LOCKOUT and CANCELLED (R129). -/
theorem endQueue_task {s : State} {f : Frame} (hu : f = .L → s.tku.queues.u = [])
    (hnodup : (s.tku.queues.get f).Nodup) {j : Nat} (hj : j ∈ s.tku.queues.get f) (hlt : j < 32) :
    ((endQueue f s).task j).phase = .cancelled ∧
      ((endQueue f s).task j).reasons = (s.task j).reasons ||| 0x0003 := by
  generalize hq : s.tku.queues.get f = q at hj hnodup
  induction q generalizing s with
  | nil => cases hj
  | cons id q ih =>
    obtain ⟨hstep, hrest, hempty⟩ := endQueue_cons hq hu
    obtain ⟨hnot, hnodup⟩ := List.nodup_cons.1 hnodup
    rw [hstep]
    rcases List.mem_cons.1 hj with rfl | hj
    · rw [endQueue_task_other hempty (hrest ▸ hnot)]
      exact lockedOut_task_self hq hu hlt
    · have hne : j ≠ id := fun heq => hnot (heq ▸ hj)
      have htask := lockedOut_task_other hq hu hne
      rw [← htask]
      exact ih hempty hrest hj hnodup

/-! ### The requests of LOCKOUT entry (R66) -/

theorem releaseGrant_gru (f : Frame) (s : State) : (releaseGrant f s).gru.lastEnd =
    (if (s.request f).isSome then s.gru.lastEnd.set f .cleared else s.gru.lastEnd) ∧
    (releaseGrant f s).gru.requests.get f.other = s.gru.requests.get f.other := by
  have hcleared : (if (s.request f).isSome then clearRequest f .cleared s else s).gru.lastEnd =
      (if (s.request f).isSome then s.gru.lastEnd.set f .cleared else s.gru.lastEnd) ∧
      (if (s.request f).isSome then clearRequest f .cleared s else s).gru.requests.get f.other =
        s.gru.requests.get f.other := by
    split
    · have h := clearRequest_frame f .cleared s
      exact ⟨(congrArg (fun u => u.gru.lastEnd) h :), (clearRequest_request f .cleared s).2.2⟩
    · exact ⟨rfl, rfl⟩
  unfold releaseGrant
  dsimp only
  generalize (if (s.request f).isSome then clearRequest f .cleared s else s) = t at hcleared ⊢
  split
  · exact hcleared
  · exact hcleared

theorem takePendingTuning_lastLoser (f : Frame) (s : State) :
    (takePendingTuning f s).arb.lastLoser = s.arb.lastLoser := by
  have htable (a : Arb) : a.takeTable.lastLoser = a.lastLoser := by
    unfold Arb.takeTable
    split <;> rfl
  unfold takePendingTuning
  dsimp only
  split
  · exact htable s.arb
  · rfl

theorem clearRequest_lastLoser (f : Frame) (why : EndReason) (s : State) :
    (clearRequest f why s).arb.lastLoser = s.arb.lastLoser := by
  unfold clearRequest
  dsimp only
  split
  · exact takePendingTuning_lastLoser f _
  · have h (u : State) : (trim f u).arb = u.arb := by rw [trim_frame]
    rw [h]
    exact takePendingTuning_lastLoser f _

theorem releaseGrant_lastLoser (f : Frame) (s : State) : (releaseGrant f s).arb.lastLoser = s.arb.lastLoser := by
  have hcleared : (if (s.request f).isSome then clearRequest f .cleared s else s).arb.lastLoser = s.arb.lastLoser := by
    split
    · exact clearRequest_lastLoser f _ s
    · rfl
  unfold releaseGrant
  dsimp only
  generalize (if (s.request f).isSome then clearRequest f .cleared s else s) = t at hcleared ⊢
  split
  · exact hcleared
  · exact hcleared

/-! ### The state after LOCKOUT entry (R152) -/

theorem cleared_lastEnd (s : State) (f : Frame) : (cleared s).gru.lastEnd.get f =
    if (s.request f).isSome then .cleared else s.gru.lastEnd.get f := by
  have hgru : (cleared s).gru = (releaseGrant .L (releaseGrant .U (setMode .lockout s))).gru := by
    unfold cleared resetTracker
    rw [moveTracker_frame, moveTracker_frame]
  obtain ⟨hendU, hrequestU⟩ := releaseGrant_gru .U (setMode .lockout s)
  obtain ⟨hendL, -⟩ := releaseGrant_gru .L (releaseGrant .U (setMode .lockout s))
  have hrequest : (releaseGrant .U (setMode .lockout s)).request .L = s.request .L := hrequestU
  rw [hgru, hendL, hrequest, hendU]
  change (if _ then Pair.set (if (s.request .U).isSome then s.gru.lastEnd.set .U .cleared else s.gru.lastEnd) _ _
    else (if (s.request .U).isSome then s.gru.lastEnd.set .U .cleared else s.gru.lastEnd)).get f = _
  cases f <;> split <;> split <;> rfl

theorem cleared_lastLoser (s : State) : (cleared s).arb.lastLoser = s.arb.lastLoser := by
  have harb : (cleared s).arb = (releaseGrant .L (releaseGrant .U (setMode .lockout s))).arb := by
    unfold cleared resetTracker
    rw [moveTracker_frame, moveTracker_frame]
  rw [harb, releaseGrant_lastLoser, releaseGrant_lastLoser]
  rfl

/-- What LOCKOUT entry leaves alone besides frames, grants and tasks (R152). -/
theorem enterLockout_kept (s : State) : ∃ ports tku gru arb tuning masses bays, enterLockout s = { s with
    ports := ports, tku := tku, gru := gru, arb := arb, svt := { s.svt with tuning := tuning }
    inv := { s.inv with masses := masses, bays := bays }
    ftk := ⟨Tracker.initial, Tracker.initial⟩, mdc := { s.mdc with mode := .lockout } } := by
  obtain ⟨ports, gru, arb, tuning, hcleared⟩ := cleared_frame s
  have hend := enterLockout_end s
  unfold EndFrame at hend
  generalize enterLockout s = t at hend ⊢
  rw [hcleared] at hend
  exact ⟨t.ports, t.tku, gru, arb, tuning, t.inv.masses, t.inv.bays, hend⟩

/-- Every live task ends, U's before L's (R129). -/
theorem enterLockout_tasks (s : State) :
    (enterLockout s).tku.completion = s.tku.completion ++ s.tku.queues.u ++ s.tku.queues.l ∧
      (PoolPartitioned s → ∀ f id, id ∈ s.tku.queues.get f → ((enterLockout s).task id).phase = .cancelled ∧
        ((enterLockout s).task id).reasons = (s.task id).reasons ||| 0x0003) := by
  obtain ⟨ports, gru, arb, tuning, hcleared⟩ := cleared_frame s
  have htku : (cleared s).tku = s.tku := (congrArg State.tku hcleared :)
  rw [enterLockout_eq]
  generalize cleared s = t at htku
  have htask (id : Nat) : t.task id = s.task id := by rw [State.task, htku, State.task]
  have hqueuesU : (endQueue .U t).tku.queues = t.tku.queues.set .U [] := endQueue_queues nofun
  have hu : Frame.L = .L → (endQueue .U t).tku.queues.u = [] := fun _ => by rw [hqueuesU]; rfl
  have hl : (endQueue .U t).tku.queues.get .L = s.tku.queues.l := by rw [hqueuesU, htku]; rfl
  constructor
  · have hL := endQueue_completion (f := .L) hu
    rw [hl, endQueue_completion (f := .U) nofun, htku] at hL
    exact hL
  · intro hpool f id hid
    obtain ⟨hlt, hnodup, hother, -, -⟩ := pool_disjoint hpool f hid
    rw [← htask id]
    cases f with
    | U =>
      have hstay : (endQueue .L (endQueue .U t)).task id = (endQueue .U t).task id :=
        endQueue_task_other hu (by rw [hl]; exact hother)
      have hended := endQueue_task (s := t) (f := .U) nofun (by rw [htku]; exact hnodup) (by rw [htku]; exact hid) hlt
      rw [← hstay] at hended
      exact hended
    | L =>
      have hstay : (endQueue .U t).task id = t.task id :=
        endQueue_task_other (f := .U) nofun (by rw [htku]; exact hother)
      have hended := endQueue_task (f := .L) hu (by rw [hl]; exact hnodup) (by rw [hl]; exact hid) hlt
      rw [hstay] at hended
      exact hended

theorem requestLockout_eq (s : State) : requestLockout s =
    if s.mdc.mode = .run then (s, [0x11])
    else if s.mdc.mode = .lockout then (s, [0x00])
    else if (s.transfer .U).isSome then (s, [0x12, 0])
    else if (s.transfer .L).isSome then (s, [0x12, 1])
    else ((enterLockout s).drive, [0x00]) := by
  have hflight (f : Frame) : s.inFlight f = (s.transfer f).isSome := rfl
  unfold requestLockout
  rw [firstFrame_eq, hflight, hflight]
  generalize enterLockout s = t
  cases (s.transfer .U).isSome with
  | true => rfl
  | false => cases (s.transfer .L).isSome <;> rfl

/-- Settles O31: the four refusals by the first check that fails, and the entry by what its three steps leave. -/
theorem lockoutTakesTheShaftOutOfService : Obligations.LockoutTakesTheShaftOutOfService := by
  intro p s h no
  have hlockout {u : State} {payload : List Byte} (hb : requestLockout s = (u, payload)) :
      exec (.lockout p) s = .next (replied p .lockout payload u) := exec_of_admitted rfl h hb
  have hsome {f : Frame} (hf : s.transfer f ≠ none) : (s.transfer f).isSome = true := Option.isSome_iff_ne_none.2 hf
  rw [requestLockout_eq] at hlockout
  refine ⟨fun hm => hlockout (if_pos hm), fun hm => hlockout (by rw [hm]; rfl),
    fun hm hu => hlockout (by rw [hm, if_pos (hsome hu)]; rfl),
    fun hm hu hl => hlockout (by rw [hm, hu, if_pos (hsome hl)]; rfl), fun hm hu hl => ?entry⟩
  have hidle : ∀ f, s.transfer f = none := fun f => by cases f <;> assumption
  have hanswer := hlockout (u := (enterLockout s).drive) (payload := [0x00]) (by rw [hm, hu, hl]; rfl)
  refine ⟨_, hanswer, ?_⟩
  clear hanswer hlockout
  have hsteady := (enterLockout_steady s).drive
  have hmasses := (enterLockout_untouched s).mass
  have hquiet := enterLockout_quiet hidle
  obtain ⟨hcompletion, htasks⟩ := enterLockout_tasks s
  have hmode : (enterLockout s).port = (((endQueue .L (endQueue .U (cleared s))).raiseAll .modeChanged).port) := rfl
  have hlast (f : Frame) : (enterLockout s).gru.lastEnd.get f =
      if (s.request f).isSome then .cleared else s.gru.lastEnd.get f := by
    rw [(enterLockout_end s).blocks.2.1, cleared_lastEnd]
  have hloser : (enterLockout s).arb.lastLoser = s.arb.lastLoser := by
    have hend := enterLockout_end s
    unfold EndFrame at hend
    exact (congrArg (fun u => u.arb.lastLoser) hend : _).trans (cleared_lastLoser s)
  obtain ⟨ports, tku, gru, arb, tuning, masses, bays, hkept⟩ := enterLockout_kept s
  have hflag (q : PortId) : ((enterLockout s).port q).flags.getLsbD 0 = true := by
    rw [hmode]
    exact flag_raiseOn rfl rfl
  clear hmode
  generalize enterLockout s = t at *
  have hoff : t.mdc.mode ≠ .run := by
    have hlocked : t.mdc.mode = .lockout := (congrArg (fun u => u.mdc.mode) hkept :)
    rw [hlocked]
    decide
  refine ⟨(congrArg (fun u => u.mdc.mode) hkept :), drive_permit_off hoff, fun f => ⟨?_, ?_, hlast f⟩, hcompletion, htasks, fun q => ?_,
    replied_replies hsteady _ _ _, (congrArg (fun u => u.mdc.latch) hkept :), (congrArg (fun u => u.mdc.stopN) hkept :),
    fun id => ?_, (congrArg (fun u => u.inv.verified) hkept :), (congrArg (fun u => u.inv.save) hkept :),
    (congrArg (fun u => u.inv.storedKJ) hkept :), (congrArg (fun u => u.svt.working) hkept :),
    (congrArg (fun u => u.svt.edit) hkept :), (congrArg (fun u => u.svt.state) hkept :), hloser,
    (congrArg State.sti hkept :), (congrArg State.time hkept :)⟩
  · obtain ⟨h1, h2, h3, h4, h5⟩ := hquiet f
    exact ⟨h1, h2, h3, h4, h5⟩
  · refine (congrArg (fun u => u.ftk.get f) hkept :).trans ?_
    cases f <;> rfl
  · rw [replied_flags, drive_flags]
    exact hflag q
  · obtain ⟨m, hm⟩ := hmasses id
    change t.mass id = { s.mass id with task := (t.mass id).task }
    rw [hm]

end Sys2Proof.Machine
end

section
/-! SUPPORT. O35 to O38: what a report is judged by, and what it leaves of tracker, grant and mode. -/

namespace Sys2Proof.Machine

/-! ### POSITION as it is answered (R18) -/

/-- A position report is answered by what the tracker makes of it (R18). -/
theorem exec_position {p : PortId} {f : Frame} {e : BitVec 32} {v : BitVec 16} {m : BitVec 32} {flags : Byte}
    {s u : State} {st : Status} (h : Admitted s p .position) (hrole : (s.port p).role = winderRole f)
    (ht : takeReport f (takenReport s e v m flags) s = (u, st)) :
    exec (.position p e v m flags) s = .next (replied p .position
      ([st.code] ++ u8 (trackingCode (u.tracker f).state) ++ u16 (u.tracker f).reasons.toNat) u.drive) := by
  refine exec_of_admitted rfl h ?_
  change forWinder p (fun f => position f e v m flags) s = _
  rw [forWinder_eq hrole (fun f => position f e v m flags), position, ht]
  rfl

/-! ### The checks on a report (R23 to R27) -/

theorem plausible_iff (s : State) (f : Frame) (r : Report) : plausible s f r = true ↔ PlausibleReport s f r := by
  have hmoved : movedPlausibly s f r = true ↔ ∀ last, s.lastReport f = some last →
      (r.e - last.e) + (last.e - r.e) ≤
        ((s.svt.tuning.get f).vl * (r.arrival - last.arrival).toNat + 999) / 1000 +
          (s.svt.working.winder.get f).ptol := by
    unfold movedPlausibly
    cases s.lastReport f with
    | none => simp
    | some last =>
      refine decide_eq_true_iff.trans ⟨fun hle x hx => ?_, fun hle => hle last rfl⟩
      cases hx
      exact hle
  rw [plausible, Bool.and_eq_true, hmoved, inShaft, decide_eq_true_eq]
  exact ⟨fun ⟨h1, h2⟩ => ⟨h1, h2⟩, fun ⟨h1, h2⟩ => ⟨h1, h2⟩⟩

/-- What the payload and the speed check note (R24, R25). -/
def loadNotes (s : State) (f : Frame) (r : Report) : BitVec 16 :=
  (if (s.svt.working.winder.get f).pl < r.m then 0x0004 else 0) |||
    (if (s.svt.tuning.get f).vl < r.v.natAbs then 0x0008 else 0)

/-- What the grant check notes (R26). -/
def grantNotes (s : State) (f : Frame) (n : Run) : BitVec 16 :=
  match s.grant f with
  | some g => if g.lo ≤ n.lo ∧ n.hi ≤ g.hi then 0 else 0x0010
  | none => 0x0010

theorem loadAndSpeed_eq (s : State) (f : Frame) (r : Report) : loadAndSpeed s f r = loadNotes s f r := by
  simp only [loadAndSpeed, loadNotes, notedIf, decide_eq_true_eq]
  rfl

theorem trespass_eq (s : State) (f : Frame) (n : Run) :
    notedIf (!n.within (s.grant f)) .trespass = grantNotes s f n := by
  unfold grantNotes
  cases s.grant f with
  | none => rfl
  | some g =>
    have hwithin : n.within (some g) = true ↔ g.lo ≤ n.lo ∧ n.hi ≤ g.hi := by simp [Run.within]
    dsimp only
    by_cases h : g.lo ≤ n.lo ∧ n.hi ≤ g.hi
    · rw [if_pos h, hwithin.2 h]
      rfl
    · have hout : n.within (some g) = false := by simpa using mt hwithin.1 h
      rw [if_neg h, hout]
      rfl

/-- What an accepted report of a frame without a transfer notes (R24 to R27). -/
theorem noted_idle {s : State} {f : Frame} (h : s.transfer f = none) (r : Report) :
    noted s f r = loadNotes s f r ||| grantNotes s f (reportEnvelope s f r) := by
  rw [noted, loadAndSpeed_eq, trespass_eq, State.inFlight, h]
  exact BitVec.or_zero

theorem loadNotes_eq_zero {s : State} {f : Frame} {r : Report} (hm : r.m ≤ (s.svt.working.winder.get f).pl)
    (hv : r.v.natAbs ≤ (s.svt.tuning.get f).vl) : loadNotes s f r = 0 := by
  rw [loadNotes, if_neg (by omega), if_neg (by omega)]
  rfl

theorem grantNotes_eq_zero {s : State} {f : Frame} {g n : Run} (hg : s.grant f = some g) (hlo : g.lo ≤ n.lo)
    (hhi : n.hi ≤ g.hi) : grantNotes s f n = 0 := by
  rw [grantNotes, hg]
  exact if_pos ⟨hlo, hhi⟩

/-! ### The report as it is kept (R20, R23) -/

theorem acceptReport_eq (f : Frame) (r : Report) (s : State) : acceptReport f r s = kept f r s := rfl

theorem kept_tracker (f : Frame) (r : Report) (s : State) : (kept f r s).tracker f = { s.tracker f with
    last := some r, count := 0, timer := some (r.arrival + BitVec.ofNat 32 (s.svt.working.winder.get f).rto) } :=
  Pair.get_set_self _ _ _

theorem kept_lastReport (f : Frame) (r : Report) (s : State) : (kept f r s).lastReport f = some r :=
  congrArg Tracker.last (kept_tracker f r s)

theorem kept_notes (f : Frame) (r : Report) (s : State) : loadNotes (kept f r s) f r = loadNotes s f r ∧
    ∀ n, grantNotes (kept f r s) f n = grantNotes s f n :=
  ⟨rfl, fun _ => rfl⟩

/-! ### A report by the state it finds (R20, R23, R28, R33) -/

section
variable {s : State} {f : Frame} {r : Report} (hmode : s.mdc.mode ≠ .lockout)
include hmode

theorem takeReport_tracking (hstate : (s.tracker f).state = .tracked ∨ (s.tracker f).state = .stale)
    (hplausible : PlausibleReport s f r) : takeReport f r s = (checkedReport f r s, .ok) := by
  rw [takeReport, if_neg hmode]
  rcases hstate with h | h
  · rw [h]
    exact if_pos ((plausible_iff s f r).2 hplausible)
  · rw [h]
    exact if_pos ((plausible_iff s f r).2 hplausible)

theorem takeReport_rejected (hstate : (s.tracker f).state = .tracked ∨ (s.tracker f).state = .stale)
    (hplausible : ¬ PlausibleReport s f r) : takeReport f r s = (rejectReport f s, .implausible) := by
  have hno : ¬ plausible s f r = true := mt (plausible_iff s f r).1 hplausible
  rw [takeReport, if_neg hmode]
  rcases hstate with h | h
  · rw [h]
    exact if_neg hno
  · rw [h]
    exact if_neg hno

theorem takeReport_tripped (hstate : (s.tracker f).state = .tripped) (hplausible : PlausibleReport s f r) :
    takeReport f r s = (reportToTransfer f r false (kept f r s), .ok) := by
  rw [takeReport, if_neg hmode, hstate]
  exact if_pos ((plausible_iff s f r).2 hplausible)

theorem takeReport_tripped_rejected (hstate : (s.tracker f).state = .tripped) (hplausible : ¬ PlausibleReport s f r) :
    takeReport f r s = (countRejection f s, .implausible) := by
  rw [takeReport, if_neg hmode, hstate]
  exact if_neg (mt (plausible_iff s f r).1 hplausible)

end

theorem reportToTransfer_idle {s : State} {f : Frame} (h : s.transfer f = none) (r : Report) (b : Bool) :
    reportToTransfer f r b s = s := by
  rw [reportToTransfer, h]

/-- A report notes nothing: the frame settles (R28). -/
theorem checkedReport_clear {s : State} {f : Frame} {r : Report} (hidle : s.transfer f = none)
    (hnotes : loadNotes s f r ||| grantNotes s f (reportEnvelope s f r) = 0) :
    checkedReport f r s = reportToTransfer f r false (settleReport f r (kept f r s)) := by
  have hnoted : noted (kept f r s) f r = 0 := (noted_idle (s := kept f r s) hidle r).trans hnotes
  unfold checkedReport
  simp only [acceptReport_eq, hnoted]
  rfl

/-- A report notes reasons: the frame trips (R28). -/
theorem checkedReport_tripped {s : State} {f : Frame} {r : Report} (hidle : s.transfer f = none)
    (hnotes : loadNotes s f r ||| grantNotes s f (reportEnvelope s f r) ≠ 0) : checkedReport f r s =
      trip f (loadNotes s f r ||| grantNotes s f (reportEnvelope s f r)) (kept f r s) := by
  have hnoted : noted (kept f r s) f r = loadNotes s f r ||| grantNotes s f (reportEnvelope s f r) :=
    noted_idle (s := kept f r s) hidle r
  have hflight : (trip f (loadNotes s f r ||| grantNotes s f (reportEnvelope s f r)) (kept f r s)).transfer f = none := by
    rw [State.transfer, trip_frame]
    exact hidle
  unfold checkedReport
  simp only [acceptReport_eq, hnoted]
  rw [tripOr, if_neg hnotes, reportToTransfer_idle hflight]

/-! ### Trips (R32) -/

/-- A trip that changes state or reasons raises FRAME_STATE, and leaves RUN (R19, R32, R149). -/
theorem trip_eq_tripped {s : State} {f : Frame} {x : BitVec 16}
    (h : (s.tracker f).state ≠ .tripped ∨ (s.tracker f).reasons ||| x ≠ (s.tracker f).reasons) :
    trip f x s = tripped f x s := by
  have hmoved : moveTracker f ((s.tracker f).trip x) s = (s.setTracker f { s.tracker f with
      state := .tripped, reasons := (s.tracker f).reasons ||| x }).raiseFrame f .frameState := by
    unfold moveTracker
    dsimp only
    rw [if_neg]
    · rfl
    · rintro ⟨hstate, hreasons⟩
      rcases h with h | h
      · exact h hstate
      · exact h hreasons.symm
  rw [trip, hmoved]
  rfl

theorem tripped_blocks (f : Frame) (x : BitVec 16) (s : State) :
    (tripped f x s).tracker f = { s.tracker f with state := .tripped, reasons := (s.tracker f).reasons ||| x } ∧
      (tripped f x s).gru = s.gru ∧
      (tripped f x s).mdc.mode = (if s.mdc.mode = .run then .hold else s.mdc.mode) := by
  unfold tripped
  dsimp only
  split
  · exact ⟨Pair.get_set_self _ _ _, rfl, rfl⟩
  · exact ⟨Pair.get_set_self _ _ _, rfl, rfl⟩

theorem faultLine_of_tripped {s : State} {f : Frame} (h : (s.tracker f).state = .tripped) : s.drive.mdc.fault = true :=
  (faultLine_iff s).2 (.inr (.inr ⟨f, h⟩))

theorem hold_of_held {m : Mode} (h : m ≠ .lockout) : (if m = .run then Mode.hold else m) = .hold := by
  cases m with
  | run => rfl
  | hold => rfl
  | lockout => exact absurd rfl h

/-- Settles O37: the notes of the checks, taken together, trip the frame, and a trip leaves RUN. -/
theorem reasonsNotedByAReportTripTheFrame : Obligations.ReasonsNotedByAReportTripTheFrame := by
  intro p f e v m flags s r n noted h hrole hmode hstate hidle hplausible hnoted
  have hnotes : noted = loadNotes s f r ||| grantNotes s f (reportEnvelope s f r) := rfl
  have htake := (takeReport_tracking hmode hstate hplausible).trans
    (congrArg (·, Status.ok) (checkedReport_tripped hidle (hnotes ▸ hnoted)))
  rw [← hnotes, trip_eq_tripped (.inl (by
    rw [kept_tracker]
    rcases hstate with hstate | hstate <;> simp [hstate]))] at htake
  obtain ⟨htracker, hgru, htrippedMode⟩ := tripped_blocks f noted (kept f r s)
  have hhold : (tripped f noted (kept f r s)).mdc.mode = .hold := htrippedMode.trans (hold_of_held hmode)
  have hexec := exec_position h hrole htake
  rw [htracker, kept_tracker] at hexec
  refine ⟨_, hexec, rfl, (congrArg Gru.grants hgru :), hhold,
    faultLine_of_tripped (s := tripped f noted (kept f r s)) (f := f) (by rw [htracker]),
    drive_permit_off (s := tripped f noted (kept f r s)) (by rw [hhold]; decide)⟩

/-! ### Rejections (R23, R33) -/

theorem countRejection_tracker (f : Frame) (s : State) :
    (countRejection f s).tracker f = { s.tracker f with count := min ((s.tracker f).count + 1) 255 } :=
  Pair.get_set_self _ _ _

/-- Settles O38: the report that is not plausible, by the state it finds and the count it brings. -/
theorem implausibleReportsAreCountedAndTheThirdTrips : Obligations.ImplausibleReportsAreCountedAndTheThirdTrips := by
  intro p f e v m flags s r counted answered h hrole
  have hanswer {u : State} {st : Status} (ht : takeReport f r s = (u, st)) :
      answered st.code (u.tracker f).state (u.tracker f).reasons u := exec_position h hrole ht
  have hcounted : counted.tracker f = { s.tracker f with count := min ((s.tracker f).count + 1) 255 } :=
    countRejection_tracker f s
  refine ⟨fun hm => hanswer (if_pos hm), fun hm hstate hplausible hcount => ?_,
    fun hm hstate hplausible hcount => ?_, fun hm hstate hplausible => ?_⟩
  · have hkeep : rejectReport f s = counted := if_neg (by
      rw [countRejection_tracker]
      dsimp only
      omega)
    have hanswered := hanswer ((takeReport_rejected hm hstate hplausible).trans (congrArg (·, Status.implausible) hkeep))
    rw [hcounted] at hanswered
    exact hanswered
  · have htrip : rejectReport f s = tripped f 0x0002 counted := by
      refine (if_pos (by
        rw [countRejection_tracker]
        dsimp only
        omega)).trans (trip_eq_tripped (.inl ?_))
      rw [countRejection_tracker]
      rcases hstate with hstate | hstate <;> simp [hstate]
    have hanswered := hanswer ((takeReport_rejected hm hstate hplausible).trans (congrArg (·, Status.implausible) htrip))
    rw [(tripped_blocks f 0x0002 counted).1, hcounted] at hanswered
    exact hanswered
  · have hanswered := hanswer (takeReport_tripped_rejected hm hstate hplausible)
    rw [countRejection_tracker] at hanswered
    rw [hstate] at hanswered
    exact hanswered

end Sys2Proof.Machine
end

section
/-! SUPPORT. O35, O36, O40, O42 and O41: trims, clearances and rounds around a report and a travel request. -/

namespace Sys2Proof.Machine

/-! ### Trims of a contained envelope (R51, R58) -/

/-- The run e lies in the grant g. -/
structure Run.In (e g : Run) : Prop where
  lo : g.lo ≤ e.lo
  hi : e.hi ≤ g.hi

theorem clip_of_in {e g : Run} (h : e.In g) (hrun : e.lo ≤ e.hi) : g.clip e = e := by
  obtain ⟨hlo, hhi⟩ := h
  rw [Run.clip, Nat.max_eq_right hlo, Nat.min_eq_right hhi, if_pos hrun]

/-- A trim with a request in force keeps the zones ahead up to the target window (R58). -/
theorem clip_trimTarget {e g : Run} (h : e.In g) (hrun : e.lo ≤ e.hi) (sv : Survey) (f : Frame) (m : Nat) (q : Travel) :
    g.clip (trimTarget sv f e m (some q)) = trimmed q.dir g e (targetWindow sv f q m) := by
  obtain ⟨hlo, hhi⟩ := h
  dsimp only [trimTarget]
  generalize targetWindow sv f q m = w
  cases q.dir with
  | up =>
    rw [Run.clip, trimmed]
    dsimp only
    rw [Nat.max_eq_right hlo, if_pos (by omega)]
  | down =>
    rw [Run.clip, trimmed]
    dsimp only
    rw [Nat.min_eq_right hhi, if_pos (by omega)]

theorem trimmed_in {e g : Run} (h : e.In g) (dir : Dir) (w : Run) : e.In (trimmed dir g e w) := by
  obtain ⟨hlo, hhi⟩ := h
  cases dir with
  | up => exact ⟨Nat.le_refl _, by change e.hi ≤ min g.hi (max e.hi w.hi); omega⟩
  | down => exact ⟨by change max g.lo (min e.lo w.lo) ≤ e.lo; omega, Nat.le_refl _⟩

theorem removesAhead_eq (dir : Dir) (g n : Run) : removesAhead (some dir) g n = cutAhead dir g n := by
  cases dir <;> rfl

theorem trimTo_of_grant {s : State} {f : Frame} {g : Run} (hg : s.grant f = some g) (n : Run) (d : Option Dir) :
    trimTo f n d s = regranted f (g.clip n) (removesAhead d g (g.clip n)) s := by
  rw [trimTo, hg]
  rfl

/-- What a trim needs: a report, a tracked frame without a transfer, and the report's envelope in the grant (R58). -/
structure Trimmable (s : State) (f : Frame) (r : Report) (g : Run) : Prop where
  report : s.lastReport f = some r
  tracked : (s.tracker f).state = .tracked
  idle : s.transfer f = none
  grant : s.grant f = some g
  contained : (reportEnvelope s f r).In g

section
variable {s : State} {f : Frame} {r : Report} {g : Run} (h : Trimmable s f r g)
include h

theorem Trimmable.mayTrim : mayTrim s f = true := by
  simp [Machine.mayTrim, State.inFlight, h.tracked, h.idle]

/-- Without a request the grant is cut to the envelope (R58). -/
theorem Trimmable.trim_idle (hq : s.request f = none) :
    trim f s = regranted f (reportEnvelope s f r) (reportEnvelope s f r != g) s := by
  rw [trim, h.report, hq]
  dsimp only
  rw [if_pos h.mayTrim, trimTo_of_grant h.grant]
  simp only [trimTarget, Option.map_none, clip_of_in h.contained (reportEnvelope_run s f r)]
  rfl

/-- With a request in force the zones ahead stay up to the target window (R58). -/
theorem Trimmable.trim_request {q : Travel} (hq : s.request f = some q) :
    trim f s = regranted f (trimmed q.dir g (reportEnvelope s f r) (targetWindow s.svt.working f q r.m))
      (cutAhead q.dir g (trimmed q.dir g (reportEnvelope s f r) (targetWindow s.svt.working f q r.m))) s := by
  rw [trim, h.report, hq]
  dsimp only
  rw [if_pos h.mayTrim, trimTo_of_grant h.grant, clip_trimTarget h.contained (reportEnvelope_run s f r),
    Option.map_some, removesAhead_eq]

end

theorem regranted_blocks (f : Frame) (n : Run) (b : Bool) (s : State) :
    regranted f n b s = { s with
      ports := (regranted f n b s).ports, gru := { s.gru with grants := s.gru.grants.set f (some n) } } := by
  unfold regranted
  split <;> rfl

theorem regranted_grant (f : Frame) (n : Run) (b : Bool) (s : State) : (regranted f n b s).grant f = some n := by
  rw [State.grant, regranted_blocks]
  exact Pair.get_set_self _ _ _

/-- A grant cut to itself stays, and nothing is announced. -/
theorem regranted_self {s : State} {f : Frame} {g : Run} (hg : s.grant f = some g) : regranted f g false s = s := by
  have hset : s.gru.grants.set f (some g) = s.gru.grants := hg ▸ Pair.set_get_self _ _
  change { s with gru := { s.gru with grants := s.gru.grants.set f (some g) } } = s
  rw [hset]

theorem regranted_eq {s : State} {f : Frame} {g : Run} (hg : s.grant f = some g) (n : Run) :
    regranted f n (n != g) s = if n = g then s else regranted f n true s := by
  split
  · next h =>
    subst h
    rw [bne_self_eq_false, regranted_self hg]
  · next h => rw [bne_iff_ne.2 h]

/-! ### Clearances (R50) -/

/-- The clearance before its trim: request, end reason, flag, indication and tuning (R17, R50, R81). -/
def endedRequest (f : Frame) (why : EndReason) (s : State) : State :=
  let t := s.setRequest f none
  let t := t.setGru { t.gru with lastEnd := t.gru.lastEnd.set f why }
  takePendingTuning f ((t.raiseWinder f .requestEnded).setBlocked f false)

theorem clearRequest_eq {why : EndReason} (h : why ≠ .cleared) (f : Frame) (s : State) :
    clearRequest f why s = trim f (endedRequest f why s) := if_neg h

theorem endedRequest_frame (f : Frame) (why : EndReason) (s : State) : endedRequest f why s = { s with
    ports := (endedRequest f why s).ports
    gru := { s.gru with requests := s.gru.requests.set f none, lastEnd := s.gru.lastEnd.set f why }
    svt := { s.svt with tuning := s.svt.tuning.set f (s.svt.tuning.get f).takeOver }
    arb := (endedRequest f why s).arb } := by
  unfold endedRequest
  dsimp only
  conv_lhs => rw [takePendingTuning_frame]
  conv_rhs => rw [takePendingTuning_frame]
  rfl

theorem endedRequest_flag {s : State} {f : Frame} {w : PortId} (hw : (s.port w).role = winderRole f)
    (why : EndReason) : ((endedRequest f why s).port w).flags.getLsbD 5 = true := by
  have hraised (u : State) (hu : (u.port w).role = winderRole f) :
      (((u.raiseWinder f .requestEnded).setBlocked f false).port w).flags.getLsbD 5 = true := by
    have hport : ((u.raiseWinder f .requestEnded).setBlocked f false).port w =
        (u.raiseWinder f .requestEnded).port w := rfl
    rw [hport]
    exact flag_raiseOn (by rw [beq_iff_eq]; exact hu) rfl
  exact ((takePendingTuning_steady f _).port w).flag (hraised _ hw)

theorem clearRequest_flag {s : State} {f : Frame} {w : PortId} (hw : (s.port w).role = winderRole f)
    (why : EndReason) : ((clearRequest f why s).port w).flags.getLsbD 5 = true := by
  unfold clearRequest
  dsimp only
  split
  · exact endedRequest_flag hw why
  · exact ((trim_steady f _).port w).flag (endedRequest_flag hw why)

theorem takePendingTuning_blocked (f : Frame) (s : State) :
    (takePendingTuning f s).arb.blockedReported = s.arb.blockedReported := by
  have htable (a : Arb) : a.takeTable.blockedReported = a.blockedReported := by
    unfold Arb.takeTable
    split <;> rfl
  unfold takePendingTuning
  dsimp only
  split
  · exact htable s.arb
  · rfl

theorem clearRequest_blocked (f : Frame) (why : EndReason) (s : State) :
    (clearRequest f why s).arb.blockedReported = s.arb.blockedReported.set f false := by
  have htrim (u : State) : (trim f u).arb = u.arb := by rw [trim_frame]
  unfold clearRequest
  dsimp only
  split
  · exact takePendingTuning_blocked f _
  · rw [htrim]
    exact takePendingTuning_blocked f _

/-- A clearance cuts a tracked frame's grant to its envelope (R50, R58). -/
theorem clearRequest_grant {s : State} {f : Frame} {r : Report} {g : Run} (h : Trimmable s f r g) {why : EndReason}
    (hwhy : why ≠ .cleared) : (clearRequest f why s).grant f = some (reportEnvelope s f r) := by
  have hframe := endedRequest_frame f why s
  have hended : Trimmable (endedRequest f why s) f r g := by
    rw [hframe]
    exact ⟨h.report, h.tracked, h.idle, h.grant, h.contained⟩
  have hrequest : (endedRequest f why s).request f = none := by
    rw [State.request, hframe]
    exact Pair.get_set_self _ _ _
  have henvelope : reportEnvelope (endedRequest f why s) f r = reportEnvelope s f r := by
    rw [hframe]
    rfl
  rw [clearRequest_eq hwhy, hended.trim_idle hrequest, regranted_grant, henvelope]

/-- A clearance leaves the grant of a frame that is not trimmed (R59). -/
theorem clearRequest_grants {s : State} {f : Frame} (h : mayTrim s f = false) (why : EndReason) :
    (clearRequest f why s).gru.grants = s.gru.grants := by
  have hframe := endedRequest_frame f why s
  have hgrants : (endedRequest f why s).gru.grants = s.gru.grants := (congrArg (fun u => u.gru.grants) hframe :)
  by_cases hwhy : why = .cleared
  · rw [clearRequest]
    dsimp only
    rw [if_pos hwhy]
    exact hgrants
  · have hno : mayTrim (endedRequest f why s) f = false := by
      rw [hframe]
      exact h
    have htrim : trim f (endedRequest f why s) = endedRequest f why s := by
      unfold trim
      split
      · rw [hno]
        rfl
      · rfl
    rw [clearRequest_eq hwhy, htrim, hgrants]

theorem trim_grant_other (f : Frame) (s : State) : (trim f s).grant f.other = s.grant f.other := by
  have hto (n : Run) (d : Option Dir) : (trimTo f n d s).grant f.other = s.grant f.other := by
    unfold trimTo
    split
    · dsimp only
      split <;> exact Pair.get_set_other _ _ _
    · rfl
  unfold trim
  split
  · split
    · exact hto _ _
    · rfl
  · rfl

theorem clearRequest_grant_other (f : Frame) (why : EndReason) (s : State) :
    (clearRequest f why s).grant f.other = s.grant f.other := by
  have hgrants : (endedRequest f why s).grant f.other = s.grant f.other :=
    (congrArg (fun u => u.gru.grants.get f.other) (endedRequest_frame f why s) :)
  by_cases hwhy : why = .cleared
  · rw [clearRequest]
    dsimp only
    rw [if_pos hwhy]
    exact hgrants
  · rw [clearRequest_eq hwhy, trim_grant_other, hgrants]

/-! ### Rounds that leave a frame without a request alone (R72, R78) -/

section
variable {s : State} {f : Frame} (h : s.request f = none)
include h

theorem demand_of_noRequest : demand s f = none := by
  unfold demand
  rw [h]

theorem servedRun_of_noRequest : servedRun s f = none := by
  rw [servedRun, eligibleDemand, h]

theorem deadlocked_of_noRequest : deadlocked s = false := by
  have hno : demandsToward s f = false := by
    rw [demandsToward, demand_of_noRequest h]
    rfl
  unfold deadlocked
  cases f with
  | U => simp [hno]
  | L => simp [hno]

theorem contended_of_noRequest : contended s = false := by
  have hno : eligibleDemand s f = none := by rw [eligibleDemand, h]
  unfold contended
  cases f with
  | U => rw [hno]
  | L =>
    rw [hno]
    split
    · next hl => cases hl
    · rfl

end

theorem applyServed_none (f : Frame) (s : State) : applyServed f none s = s := rfl

theorem reportBlocked_gru (f : Frame) (b : Bool) (s : State) : (reportBlocked f b s).gru = s.gru := by
  unfold reportBlocked
  split <;> rfl

/-- The grants a round serves: to each frame what is left of it after the deadlock step (R75). -/
theorem holdRound_gru (s : State) : (holdRound s).gru = (serviceStep (deadlockStep s)).1.gru := by
  unfold holdRound
  dsimp only
  rw [reportBlocked_gru, reportBlocked_gru]

theorem applyServed_gru (f : Frame) (x : Option Run) (s : State) :
    (applyServed f x s).gru = { s.gru with grants := (applyServed f x s).gru.grants } := by
  have h := applyServed_frame f x s
  exact (congrArg State.gru h :)

theorem applyServed_grant_other' (f : Frame) (x : Option Run) (s : State) :
    (applyServed f x s).grant f.other = s.grant f.other := applyServed_grant_other f x s

/-- A round leaves the grant, the request and the end reason of a frame that holds no request (R72, R78). -/
theorem holdRound_noRequest {s : State} {f : Frame} (h : s.request f = none) :
    (holdRound s).grant f = s.grant f ∧ (holdRound s).request f = none ∧
      (holdRound s).gru.lastEnd.get f = s.gru.lastEnd.get f := by
  have hdead : deadlockStep s = s := by
    rw [deadlockStep, deadlocked_of_noRequest h]
    rfl
  have hgru : (holdRound s).gru = { s.gru with grants := (holdRound s).gru.grants } ∧
      (holdRound s).grant f = s.grant f := by
    unfold State.grant
    rw [holdRound_gru, hdead, serviceStep, contended_of_noRequest h]
    rw [if_neg (by decide)]
    constructor
    · exact (applyServed_gru .L _ _).trans (by rw [applyServed_gru .U])
    · cases f with
      | U =>
        rw [servedRun_of_noRequest h]
        exact applyServed_grant_other .L _ s
      | L =>
        rw [servedRun_of_noRequest h]
        exact applyServed_grant_other .U _ s
  obtain ⟨hgru, hgrant⟩ := hgru
  refine ⟨hgrant, ?_, ?_⟩
  · rw [State.request, hgru]
    exact h
  · rw [hgru]

theorem askRoundIf_noRequest {s : State} {f : Frame} (h : s.request f = none) (b : Bool) :
    (askRoundIf b s).grant f = s.grant f ∧ (askRoundIf b s).request f = none ∧
      (askRoundIf b s).gru.lastEnd.get f = s.gru.lastEnd.get f := by
  unfold askRoundIf askRound
  split
  · split
    · exact holdRound_noRequest h
    · exact ⟨rfl, h, rfl⟩
  · exact ⟨rfl, h, rfl⟩

theorem askRoundIf_frame (b : Bool) (s : State) : RoundFrame s (askRoundIf b s) := by
  unfold askRoundIf
  split
  · exact askRound_frame s
  · exact .refl s

end Sys2Proof.Machine
end

section
/-! SUPPORT. O35, O36, O40, O42, O41 and O39: reports and travel requests as they act on the grants. -/

namespace Sys2Proof.Machine

/-! ### GRU's work on a report (R58 to R61) -/

theorem tuningChanged_same {s t : State} (hsvt : t.svt = s.svt) (harb : t.arb = s.arb) : tuningChanged s t = false := by
  rw [tuningChanged, hsvt, harb]
  cases s.arb.pendingTable <;> simp

theorem regranted_untuned (f : Frame) (n : Run) (b : Bool) (s : State) :
    tuningChanged s (regranted f n b s) = false := by
  have h := regranted_blocks f n b s
  exact tuningChanged_same (congrArg State.svt h :) (congrArg State.arb h :)

theorem regranted_request (f : Frame) (n : Run) (b : Bool) (s : State) (g : Frame) :
    (regranted f n b s).request g = s.request g :=
  (congrArg (fun u => u.gru.requests.get g) (regranted_blocks f n b s) :)

theorem regranted_ftk (f : Frame) (n : Run) (b : Bool) (s : State) : (regranted f n b s).ftk = s.ftk :=
  (congrArg State.ftk (regranted_blocks f n b s) :)

/-- The frame is at rest within LVT of its target (R60). -/
def Arrives (s : State) (q : Travel) (r : Report) : Prop :=
  r.v.natAbs ≤ 20 ∧ (r.e - q.target) + (q.target - r.e) ≤ s.svt.working.lvt

theorem arrived_of_noRequest {s : State} {f : Frame} (h : s.request f = none) : arrived s f = false := by
  rw [arrived, h]

theorem arrive_of_noRequest {s : State} {f : Frame} (h : s.request f = none) : arrive f s = s := by
  rw [arrive, arrived_of_noRequest h]
  rfl

section
variable {s : State} {f : Frame} {r : Report} {g : Run} (h : Trimmable s f r g)
include h

/-- A trim leaves what the next one needs, about a run that still holds the envelope. -/
theorem Trimmable.regranted {n : Run} (hn : (reportEnvelope s f r).In n) (b : Bool) :
    Trimmable (Machine.regranted f n b s) f r n := by
  have hblocks := regranted_blocks f n b s
  have hgrant := regranted_grant f n b s
  rw [hblocks] at hgrant ⊢
  exact ⟨h.report, h.tracked, h.idle, hgrant, hn⟩

theorem Trimmable.arrived_iff {q : Travel} (hq : s.request f = some q) : arrived s f = true ↔ Arrives s q r := by
  rw [arrived, hq, h.report]
  have hapart : (apart r.e q.target ≤ s.svt.working.lvt) = (r.e - q.target + (q.target - r.e) ≤ s.svt.working.lvt) := rfl
  simp only [State.inFlight, h.tracked, h.idle, Report.atRest, Config.restV, Arrives, hapart]
  simp

/-- Without a request a report cuts the grant to its envelope, and asks for a round where a zone was freed (R58, R61). -/
theorem Trimmable.reportToGrants_idle (hq : s.request f = none) (recovery : Bool) : reportToGrants f recovery s =
    if reportEnvelope s f r = g then askRoundIf recovery s
      else askRound (Machine.regranted f (reportEnvelope s f r) true s) := by
  have htrim : arrive f (trim f s) =
      if reportEnvelope s f r = g then s else Machine.regranted f (reportEnvelope s f r) true s := by
    rw [h.trim_idle hq, arrive_of_noRequest ((regranted_request _ _ _ _ _).trans hq), regranted_eq h.grant]
  unfold reportToGrants
  rw [htrim]
  by_cases hg : reportEnvelope s f r = g
  · have hsame : tuningChanged s s = false := tuningChanged_same rfl rfl
    simp only [if_pos hg, bne_self_eq_false, demand_of_noRequest hq, Option.isSome_none, hsame, Bool.or_false]
  · have hchanged : ((Machine.regranted f (reportEnvelope s f r) true s).grant f != s.grant f) = true := by
      rw [regranted_grant, h.grant]
      simpa using hg
    simp only [if_neg hg, hchanged, Bool.or_true, Bool.true_or]
    rfl

section
variable {q : Travel} (hq : s.request f = some q)
include hq

/-- A report under way trims, and asks for a round where a zone was freed or a demand stands (R58, R61). -/
theorem Trimmable.reportToGrants_underWay (hno : ¬ Arrives s q r) (recovery : Bool) :
    let n := trimmed q.dir g (reportEnvelope s f r) (targetWindow s.svt.working f q r.m)
    let u := Machine.regranted f n (cutAhead q.dir g n) s
    reportToGrants f recovery s = askRoundIf (recovery || n != g || (demand u f).isSome) u := by
  intro n u
  have hu : Trimmable u f r n := h.regranted (trimmed_in h.contained _ _) _
  have hblocks := regranted_blocks f n (cutAhead q.dir g n) s
  have hno' : ¬ Arrives u q r := by
    have hsvt : u.svt = s.svt := (congrArg State.svt hblocks :)
    unfold Arrives
    rw [hsvt]
    exact hno
  have harrive : arrive f (trim f s) = u := by
    rw [h.trim_request hq, arrive, if_neg (mt (hu.arrived_iff ((regranted_request _ _ _ _ _).trans hq)).1 hno')]
  have htuning : tuningChanged s u = false := regranted_untuned _ _ _ _
  have hchanged : (u.grant f != s.grant f) = (n != g) := by
    rw [hu.grant, h.grant]
    rfl
  unfold reportToGrants
  rw [harrive]
  dsimp only
  rw [htuning, hchanged, Bool.or_false]

/-- On arrival the request is cleared (R60). -/
theorem Trimmable.reportToGrants_arrived (hyes : Arrives s q r) (recovery : Bool) :
    let n := trimmed q.dir g (reportEnvelope s f r) (targetWindow s.svt.working f q r.m)
    ∃ b, reportToGrants f recovery s =
      askRoundIf b (clearRequest f .arrived (Machine.regranted f n (cutAhead q.dir g n) s)) := by
  intro n
  have hu : Trimmable (Machine.regranted f n (cutAhead q.dir g n) s) f r n :=
    h.regranted (trimmed_in h.contained _ _) _
  have hblocks := regranted_blocks f n (cutAhead q.dir g n) s
  have hsvt : (Machine.regranted f n (cutAhead q.dir g n) s).svt = s.svt := (congrArg State.svt hblocks :)
  have hyes' : Arrives (Machine.regranted f n (cutAhead q.dir g n) s) q r := by
    unfold Arrives
    rw [hsvt]
    exact hyes
  have harrive : arrive f (trim f s) = clearRequest f .arrived (Machine.regranted f n (cutAhead q.dir g n) s) := by
    rw [h.trim_request hq, arrive, if_pos ((hu.arrived_iff ((regranted_request _ _ _ _ _).trans hq)).2 hyes')]
  unfold reportToGrants
  rw [harrive]
  exact ⟨_, rfl⟩

/-- What the arrival leaves: no request, the envelope as the grant, and everything but ARB and the tuning (R50, R60). -/
theorem Trimmable.arrival (hyes : Arrives s q r) (recovery : Bool) :
    let t := reportToGrants f recovery s
    t.ftk = s.ftk ∧ t.request f = none ∧ t.gru.lastEnd.get f = .arrived ∧
      t.grant f = some (reportEnvelope s f r) ∧
      (∀ w, (s.port w).role = winderRole f → (t.port w).flags.getLsbD 5 = true) ∧
      t.inv = s.inv ∧ t.tku = s.tku ∧ t.sti = s.sti ∧ t.mdc = s.mdc := by
  intro t
  obtain ⟨b, hb⟩ := h.reportToGrants_arrived hq hyes recovery
  generalize hn : trimmed q.dir g (reportEnvelope s f r) (targetWindow s.svt.working f q r.m) = n at hb
  have hin : (reportEnvelope s f r).In n := hn ▸ trimmed_in h.contained _ _
  generalize hc : cutAhead q.dir g n = c at hb
  have hblocks := regranted_blocks f n c s
  have hu := h.regranted hin c
  have henvelope : reportEnvelope (Machine.regranted f n c s) f r = reportEnvelope s f r := by
    have hsvt : (Machine.regranted f n c s).svt = s.svt := (congrArg State.svt hblocks :)
    unfold reportEnvelope
    rw [hsvt]
  have hports : ∀ w, ((Machine.regranted f n c s).port w).role = (s.port w).role := fun w => by
    unfold Machine.regranted
    split
    · rw [State.port_raiseWinder]
      split <;> rfl
    · rfl
  have hround : RoundFrame s (Machine.regranted f n c s) := by
    unfold RoundFrame
    conv_lhs => rw [hblocks]
    conv_rhs => rw [hblocks]
  generalize Machine.regranted f n c s = u at hb hu henvelope hports hround
  obtain ⟨hrequest, hend, -⟩ := clearRequest_request f .arrived u
  have hgrant := clearRequest_grant hu (why := .arrived) (by decide)
  have hflag (w : PortId) (hw : (s.port w).role = winderRole f) := clearRequest_flag (s := u) (f := f) (w := w)
    ((hports w).trans hw) .arrived
  have hcleared := hround.trans (clearRequest_round f .arrived u)
  generalize clearRequest f .arrived u = x at hb hrequest hend hgrant hflag hcleared
  obtain ⟨hgrant', hrequest', hend'⟩ := askRoundIf_noRequest hrequest b
  have hframe := hcleared.trans (askRoundIf_frame b x)
  have hsteady := askRoundIf_steady b x
  rw [← hb] at hgrant' hrequest' hend' hframe hsteady
  unfold RoundFrame at hframe
  exact ⟨(congrArg State.ftk hframe :), hrequest', hend'.trans hend, hgrant'.trans (hgrant.trans (by rw [henvelope])),
    fun w hw => (hsteady.port w).flag (hflag w hw), (congrArg State.inv hframe :), (congrArg State.tku hframe :),
    (congrArg State.sti hframe :), (congrArg State.mdc hframe :)⟩

end

end

/-! ### An accepted report of a TRACKED frame (R28) -/

theorem tracker_of_ftk {s t : State} (h : t.ftk = s.ftk) (f : Frame) : t.tracker f = s.tracker f := by
  unfold State.tracker
  rw [h]

theorem askRound_ftk (s : State) : (askRound s).ftk = s.ftk := by
  have h := askRound_frame s
  unfold RoundFrame at h
  exact (congrArg State.ftk h :)

theorem askRoundIf_ftk (b : Bool) (s : State) : (askRoundIf b s).ftk = s.ftk := by
  unfold askRoundIf
  split
  · exact askRound_ftk s
  · rfl

/-- What a report must pass to settle a frame without a transfer (R23 to R27). -/
structure Passing (s : State) (f : Frame) (r : Report) (g : Run) : Prop where
  idle : s.transfer f = none
  grant : s.grant f = some g
  plausible : PlausibleReport s f r
  load : r.m ≤ (s.svt.working.winder.get f).pl
  speed : r.v.natAbs ≤ (s.svt.tuning.get f).vl
  contained : (reportEnvelope s f r).In g

section
variable {s : State} {f : Frame} {r : Report} {g : Run} (h : Passing s f r g) (hmode : s.mdc.mode ≠ .lockout)
include h

theorem Passing.notes : loadNotes s f r ||| grantNotes s f (reportEnvelope s f r) = 0 := by
  rw [loadNotes_eq_zero h.load h.speed, grantNotes_eq_zero h.grant h.contained.lo h.contained.hi]
  rfl

include hmode

/-- A report of a frame without a transfer that notes nothing settles the frame (R28, R31). -/
theorem Passing.takeReport (hstate : (s.tracker f).state = .tracked ∨ (s.tracker f).state = .stale) :
    Machine.takeReport f r s = (settleReport f r (kept f r s), .ok) := by
  rw [takeReport_tracking hmode hstate h.plausible, checkedReport_clear h.idle h.notes, reportToTransfer_idle]
  have hframe := (settleReport_steady f r (kept f r s)).port
  have hidle : (settleReport f r (kept f r s)).xfc = s.xfc := by
    have hround (b : Bool) (u : State) : (reportToGrants f b u).xfc = u.xfc := by
      have harrive (x : State) : (arrive f x).xfc = x.xfc := by
        unfold arrive
        split
        · rw [clearRequest_frame]
        · rfl
      have htrim : (trim f u).xfc = u.xfc := by rw [trim_frame]
      have hask := askRoundIf_frame (b || (arrive f (trim f u)).grant f != u.grant f ||
        (demand (arrive f (trim f u)) f).isSome || tuningChanged u (arrive f (trim f u))) (arrive f (trim f u))
      unfold RoundFrame at hask
      exact (congrArg State.xfc hask :).trans ((harrive _).trans htrim)
    have htracking (u : State) : (setTracking f .tracked u).xfc = u.xfc := by
      unfold setTracking
      rw [moveTracker_frame]
    unfold settleReport
    split
    · exact hround false _
    · split
      · exact (hround true _).trans (htracking _)
      · rfl
    · rfl
  rw [State.transfer, hidle]
  exact h.idle

theorem Passing.takeReport_tracked (hstate : (s.tracker f).state = .tracked) :
    Machine.takeReport f r s = (reportToGrants f false (kept f r s), .ok) := by
  rw [h.takeReport hmode (.inl hstate), settleReport, kept_tracker, hstate]

end

theorem Passing.trimmable {s : State} {f : Frame} {r : Report} {g : Run} (h : Passing s f r g)
    (hstate : (s.tracker f).state = .tracked) : Trimmable (kept f r s) f r g where
  report := kept_lastReport f r s
  tracked := by rw [kept_tracker]; exact hstate
  idle := h.idle
  grant := h.grant
  contained := h.contained

/-- Settles O35: without a request the trim is to the envelope, and a freed zone asks for the round. -/
theorem aContainedReportCutsTheGrantToItsEnvelope : Obligations.AContainedReportCutsTheGrantToItsEnvelope := by
  intro p f e v m flags g s r n h hrole hmode hstate hrequest hidle hgrant hplausible hload hspeed hlo hhi
  have hpassing : Passing s f r g := ⟨hidle, hgrant, hplausible, hload, hspeed, ⟨hlo, hhi⟩⟩
  have htake := hpassing.takeReport_tracked hmode hstate
  rw [(hpassing.trimmable hstate).reportToGrants_idle (s := kept f r s) hrequest] at htake
  have hexec := exec_position h hrole htake
  have hftk : (if reportEnvelope (kept f r s) f r = g then askRoundIf false (kept f r s)
      else askRound (regranted f (reportEnvelope (kept f r s) f r) true (kept f r s))).ftk = (kept f r s).ftk := by
    split
    · rfl
    · rw [askRound_ftk, regranted_ftk]
  rw [tracker_of_ftk hftk, kept_tracker, hstate] at hexec
  refine hexec.trans ?_
  change Host.Outcome.next (replied p .position _ (State.drive (if n = g then _ else _))) = _
  split <;> rfl

/-- Settles O36: the trim with the request in force, or the clearance of one that has arrived. -/
theorem aReportUnderWayTrimsOrEndsTheRequest : Obligations.AReportUnderWayTrimsOrEndsTheRequest := by
  intro p f e v m flags g q s r n n' u arrived h hrole hmode hstate hrequest hidle hgrant hplausible hload hspeed hlo hhi
  have hpassing : Passing s f r g := ⟨hidle, hgrant, hplausible, hload, hspeed, ⟨hlo, hhi⟩⟩
  have htrimmable := hpassing.trimmable hstate
  have htake := hpassing.takeReport_tracked hmode hstate
  constructor
  · intro hno
    rw [htrimmable.reportToGrants_underWay (s := kept f r s) hrequest hno] at htake
    have hexec := exec_position h hrole htake
    rw [tracker_of_ftk ((askRoundIf_ftk _ _).trans (regranted_ftk _ _ _ _)), kept_tracker, hstate] at hexec
    refine hexec.trans (congrArg (fun x => Host.Outcome.next (replied p .position _ (State.drive x))) ?_)
    have hcondition : (false || n' != g || (demand u f).isSome) = true ↔ n' ≠ g ∨ demand u f ≠ none := by
      simp [Option.isSome_iff_ne_none]
    exact if_congr hcondition rfl rfl
  · intro hyes
    obtain ⟨hftk, hnone, hend, hcut, hflag, hinv, htku, hsti, hmdc⟩ :=
      htrimmable.arrival (s := kept f r s) hrequest hyes false
    refine ⟨_, exec_position h hrole htake, tracker_of_ftk hftk f, hnone, hend, hcut, fun w hw => ?_, hinv, htku, hsti,
      (congrArg Mdc.mode hmdc :)⟩
    rw [replied_flags, drive_flags]
    exact hflag w hw

end Sys2Proof.Machine
end

section
/-! SUPPORT. O40: the staleness timer, and the report at rest that brings a STALE frame back. -/

namespace Sys2Proof.Machine

theorem timerDue_iff (now x : BitVec 32) : timerDue now (some x) = true ↔ (now - x).toNat < 2147483648 :=
  decide_eq_true_iff

/-- A change of the tracking state raises FRAME_STATE (R19). -/
theorem setTracking_eq {s : State} {f : Frame} {x : Tracking} (h : (s.tracker f).state ≠ x) :
    setTracking f x s = (s.setTracker f { s.tracker f with state := x }).raiseFrame f .frameState :=
  if_neg fun hsame => h hsame.1

/-! ### The staleness timer (R30) -/

section
variable {s : State} {f : Frame}

theorem stalenessExpires_due (h : stalenessDue s f = true) : stalenessExpires f s = (stalenessEnds f s).drive :=
  if_pos h

theorem stalenessExpires_early (h : stalenessDue s f = false) : stalenessExpires f s = s :=
  if_neg (by rw [h]; exact Bool.false_ne_true)

theorem stalenessEnds_tracked (h : (s.tracker f).state = .tracked) : stalenessEnds f s =
    (s.setTracker f { s.tracker f with timer := none, state := .stale }).raiseFrame f .frameState := by
  have hstopped : (s.setTracker f { s.tracker f with timer := none }).tracker f = { s.tracker f with timer := none } :=
    Pair.get_set_self _ _ _
  refine (if_pos h).trans ((setTracking_eq ?_).trans ?_)
  · rw [hstopped, h]
    nofun
  · rw [hstopped]
    cases f <;> rfl

theorem stalenessEnds_of_ne (h : (s.tracker f).state ≠ .tracked) :
    stalenessEnds f s = s.setTracker f { s.tracker f with timer := none } :=
  if_neg h

end

/-! ### Recovery (R31) -/

section
variable {s : State} {f : Frame} {r : Report} {g : Run} (h : Passing s f r g) (hmode : s.mdc.mode ≠ .lockout)
  (hstate : (s.tracker f).state = .stale)

theorem recovered_tracker (f : Frame) (r : Report) (s : State) :
    (recovered f r s).tracker f = { (kept f r s).tracker f with state := .tracked } :=
  Pair.get_set_self _ _ _

include h in
theorem Passing.recovered_trimmable : Trimmable (recovered f r s) f r g where
  report := (congrArg Tracker.last (recovered_tracker f r s)).trans (kept_lastReport f r s)
  tracked := by rw [recovered_tracker]
  idle := h.idle
  grant := h.grant
  contained := h.contained

include h hmode hstate

/-- In motion the frame stays STALE (R31). -/
theorem Passing.takeReport_moving (hv : 20 < r.v.natAbs) : Machine.takeReport f r s = (kept f r s, .ok) := by
  have hmoving : r.atRest = false := by
    rw [Report.atRest, decide_eq_false_iff_not]
    simp only [Config.restV]
    omega
  rw [h.takeReport hmode (.inr hstate), settleReport, kept_tracker, hstate, hmoving]
  rfl

/-- At rest it comes back to TRACKED (R31). -/
theorem Passing.takeReport_recovered (hv : r.v.natAbs ≤ 20) :
    Machine.takeReport f r s = (reportToGrants f true (recovered f r s), .ok) := by
  have hrest : r.atRest = true := by
    rw [Report.atRest, decide_eq_true_eq]
    exact hv
  have hback : setTracking f .tracked (kept f r s) = recovered f r s := setTracking_eq (by
    rw [kept_tracker, hstate]
    nofun)
  rw [h.takeReport hmode (.inr hstate), settleReport, kept_tracker, hstate, hrest, if_pos rfl, hback]

end

/-- Settles O40: the timer by the clock, and the report of a STALE frame by its speed and the request held. -/
theorem aStaleFrameReturnsByAReportAtRest : Obligations.AStaleFrameReturnsByAReportAtRest := by
  intro p f e v m flags g q s r n back n' arrived stopped passes
  have hpassing : passes → Passing s f r g := fun ⟨_, _, _, _, hidle, hgrant, hplausible, hload, hspeed, hlo, hhi⟩ =>
    ⟨hidle, hgrant, hplausible, hload, hspeed, ⟨hlo, hhi⟩⟩
  have hanswer (hp : passes) {u : State} (ht : takeReport f r s = (u, .ok)) := exec_position hp.1 hp.2.1 ht
  have hmoved : passes → 20 < r.v.natAbs → takeReport f r s = (kept f r s, .ok) := fun hp hv =>
    (hpassing hp).takeReport_moving hp.2.2.1 hp.2.2.2.1 hv
  have htake : passes → r.v.natAbs ≤ 20 → takeReport f r s = (reportToGrants f true back, .ok) := fun hp hv =>
    (hpassing hp).takeReport_recovered hp.2.2.1 hp.2.2.2.1 hv
  have hback : back.tracker f = { s.tracker f with
      last := some r, count := 0, timer := some (r.arrival + BitVec.ofNat 32 (s.svt.working.winder.get f).rto),
      state := .tracked } := by
    rw [recovered_tracker, kept_tracker]
  refine ⟨fun x hx hdue ht => ?_, fun x hx hdue ht => ?_, fun x hx hearly => ?_, fun hx => ?_, fun hp hv => ?_,
    fun hp hq hv => ?_, fun hp hq hv => ⟨fun hno => ?_, fun hyes => ?_⟩⟩
  · have hdue : stalenessDue s f = true := by rw [stalenessDue, hx, timerDue_iff]; exact hdue
    exact congrArg Host.Outcome.next ((stalenessExpires_due hdue).trans (congrArg State.drive (stalenessEnds_tracked ht)))
  · have hdue : stalenessDue s f = true := by rw [stalenessDue, hx, timerDue_iff]; exact hdue
    exact congrArg Host.Outcome.next ((stalenessExpires_due hdue).trans (congrArg State.drive (stalenessEnds_of_ne ht)))
  · have hearly : stalenessDue s f = false := by
      rw [stalenessDue, hx, ← Bool.not_eq_true, timerDue_iff]
      omega
    exact congrArg Host.Outcome.next (stalenessExpires_early hearly)
  · have hearly : stalenessDue s f = false := by
      rw [stalenessDue, hx]
      rfl
    exact congrArg Host.Outcome.next (stalenessExpires_early hearly)
  · have hexec := hanswer hp (hmoved hp hv)
    rw [kept_tracker, hp.2.2.2.1] at hexec
    exact hexec
  · have ht : takeReport f r s = (if n = g then askRoundIf true back else askRound (regranted f n true back), .ok) :=
      (htake hp hv).trans (congrArg (·, Status.ok) ((hpassing hp).recovered_trimmable.reportToGrants_idle hq true))
    have hftk : (if n = g then askRoundIf true back else askRound (regranted f n true back)).ftk = back.ftk := by
      split
      · exact askRound_ftk _
      · rw [askRound_ftk, regranted_ftk]
    have hexec := hanswer hp ht
    rw [tracker_of_ftk hftk, hback] at hexec
    refine hexec.trans (congrArg (fun x => Host.Outcome.next (replied p .position _ (State.drive x))) ?_)
    exact (apply_ite askRound (n = g) back (regranted f n true back)).symm
  · have ht := htake hp hv
    rw [((hpassing hp).recovered_trimmable).reportToGrants_underWay hq fun ha => hno ha.2] at ht
    have hexec := hanswer hp ht
    rw [tracker_of_ftk ((askRoundIf_ftk _ _).trans (regranted_ftk _ _ _ _)), hback] at hexec
    exact hexec
  · obtain ⟨hftk, hnone, hend, hcut, hflag, hinv, htku, hsti, hmdc⟩ :=
      ((hpassing hp).recovered_trimmable).arrival hq ⟨hv, hyes⟩ true
    refine ⟨_, hanswer hp (htake hp hv), tracker_of_ftk hftk f, hnone, hend, hcut, fun w hw => ?_, hinv, htku, hsti,
      (congrArg Mdc.mode hmdc :)⟩
    rw [replied_flags, drive_flags]
    have hraised : Steady (kept f r s) back := Steady.raiseFrame (.of_blocks rfl) f .frameState
    exact hflag w ((hraised.port w).role.trans hw)

end Sys2Proof.Machine
end

section
/-! SUPPORT. O41, O42: the travel requests. -/

namespace Sys2Proof.Machine

/-! ### What a round leaves of a frame without a request (R77, R79, R81) -/

theorem reportBlocked_of_noRequest {s : State} {f : Frame} (h : s.request f = none) (g : Frame) (b : Bool) :
    (reportBlocked g b s).arb.blockedReported.get f = s.arb.blockedReported.get f ∧
      (reportBlocked g b s).request f = none := by
  unfold reportBlocked
  split
  · next hreported =>
    have hne : f ≠ g := by
      rintro rfl
      rw [blocked, h] at hreported
      simp at hreported
    exact ⟨(Pair.get_set _ _ _ _).trans (if_neg hne), h⟩
  · exact ⟨rfl, h⟩

/-- A round leaves the indication of a frame that holds no request, and every tuning (R79, R81). -/
theorem holdRound_noRequest_keeps {s : State} {f : Frame} (h : s.request f = none) :
    (holdRound s).arb.blockedReported.get f = s.arb.blockedReported.get f ∧ (holdRound s).svt = s.svt := by
  have hdead : deadlockStep s = s := by
    rw [deadlockStep, deadlocked_of_noRequest h]
    rfl
  have hserved (g : Frame) (x : Option Run) (u : State) :
      (applyServed g x u).arb = u.arb ∧ (applyServed g x u).svt = u.svt ∧ (applyServed g x u).gru.requests = u.gru.requests := by
    rw [applyServed_frame]
    exact ⟨rfl, rfl, rfl⟩
  have hservice : (serviceStep s).1.arb = s.arb ∧ (serviceStep s).1.svt = s.svt ∧
      (serviceStep s).1.gru.requests = s.gru.requests := by
    rw [serviceStep, contended_of_noRequest h, if_neg (by decide)]
    obtain ⟨harb, hsvt, hrequests⟩ := hserved .U (servedRun s .U) s
    obtain ⟨harb', hsvt', hrequests'⟩ := hserved .L (servedRun s .L) (applyServed .U (servedRun s .U) s)
    exact ⟨harb'.trans harb, hsvt'.trans hsvt, hrequests'.trans hrequests⟩
  obtain ⟨harb, hsvt, hrequests⟩ := hservice
  have hnone : (serviceStep s).1.request f = none := by
    rw [State.request, hrequests]
    exact h
  have hkept (g : Frame) (b : Bool) (u : State) : (reportBlocked g b u).svt = u.svt := by
    unfold reportBlocked
    split <;> rfl
  obtain ⟨hU, hUnone⟩ := reportBlocked_of_noRequest hnone .U (serviceStep s).2.u
  obtain ⟨hL, -⟩ := reportBlocked_of_noRequest hUnone .L (serviceStep s).2.l
  unfold holdRound
  rw [hdead]
  exact ⟨hL.trans (hU.trans (by rw [harb])), (hkept _ _ _).trans ((hkept _ _ _).trans hsvt)⟩

theorem askRoundIf_noRequest_keeps {s : State} {f : Frame} (h : s.request f = none) (b : Bool) :
    (askRoundIf b s).arb.blockedReported.get f = s.arb.blockedReported.get f ∧ (askRoundIf b s).svt = s.svt := by
  unfold askRoundIf askRound
  split
  · split
    · exact holdRound_noRequest_keeps h
    · exact ⟨rfl, rfl⟩
  · exact ⟨rfl, rfl⟩

/-! ### RELEASE_TRAVEL (R56) -/

/-- A clearance takes the frame's pending tuning over (R17). -/
theorem clearRequest_tuning (f : Frame) (why : EndReason) (s : State) :
    (clearRequest f why s).svt.tuning.get f = (s.svt.tuning.get f).takeOver :=
  (congrArg (fun u => u.svt.tuning.get f) (clearRequest_frame f why s)).trans (Pair.get_set_self _ _ _)

theorem releaseTravel_held {s : State} {f : Frame} (h : s.request f ≠ none) :
    ∃ b, releaseTravel f s = answer (askRoundIf b (clearRequest f .released s)).drive .ok :=
  ⟨_, if_neg (by simpa using h)⟩

/-- Settles O42: the clearance, and the round after it, which leaves a frame without a request alone. -/
theorem releaseTravelEndsTheRequest : Obligations.ReleaseTravelEndsTheRequest := by
  intro p f s h hrole
  have hexec {u : State} {payload : List Byte} (hb : releaseTravel f s = (u, payload)) :
      exec (.releaseTravel p) s = .next (replied p .releaseTravel payload u) :=
    exec_of_admitted rfl h ((forWinder_eq hrole (fun f => releaseTravel f)).trans hb)
  constructor
  · intro hnone
    exact hexec (if_pos (by rw [hnone]; rfl))
  · intro hheld
    obtain ⟨b, hb⟩ := releaseTravel_held hheld
    obtain ⟨hnone, hend, hother⟩ := clearRequest_request f .released s
    have hblocked := clearRequest_blocked f .released s
    have htuning := clearRequest_tuning f .released s
    have hgrantOther := clearRequest_grant_other f .released s
    have hround := clearRequest_round f .released s
    have hsteady := clearRequest_steady f .released s
    have hflag := fun w hw => clearRequest_flag (s := s) (f := f) (w := w) hw .released
    have hstill : (s.tracker f).state ≠ .tracked → (clearRequest f .released s).grant f = s.grant f := fun hstate =>
      (congrArg (·.get f) (clearRequest_grants (s := s) (f := f) (by simp [mayTrim, hstate]) .released) :)
    have hcut (r : Report) (g : Run) (htrim : Trimmable s f r g) :
        (clearRequest f .released s).grant f = some (reportEnvelope s f r) := clearRequest_grant htrim (by decide)
    generalize clearRequest f .released s = u at *
    obtain ⟨hgrant', hnone', hend'⟩ := askRoundIf_noRequest hnone b
    obtain ⟨hblocked', hsvt'⟩ := askRoundIf_noRequest_keeps hnone b
    have hframe := hround.trans (askRoundIf_frame b u)
    have hsteady' := askRoundIf_steady b u
    have hmode : u.mdc.mode = s.mdc.mode := by
      unfold RoundFrame at hround
      exact (congrArg (fun x => x.mdc.mode) hround :)
    have hstay : s.mdc.mode ≠ .run → askRoundIf b u = u := fun hm => askRoundIf_of_ne b (by rw [hmode]; exact hm)
    generalize askRoundIf b u = t at *
    unfold RoundFrame at hframe
    refine ⟨_, hexec hb, hnone', hend'.trans hend, ?_, ?_, fun w hw => ?_, ?_, fun hstate => hgrant'.trans (hstill hstate),
      fun r g hstate hidle hreport hgrant hlo hhi => hgrant'.trans (hcut r g ⟨hreport, hstate, hidle, hgrant, ⟨hlo, hhi⟩⟩),
      fun hm => ?_, (congrArg State.ftk hframe :), (congrArg State.inv hframe :), (congrArg State.tku hframe :),
      (congrArg State.sti hframe :), (congrArg (fun x => x.mdc.mode) hframe :)⟩
    · refine hblocked'.trans ?_
      rw [hblocked]
      exact Pair.get_set_self _ _ _
    · exact (congrArg (fun x => x.tuning.get f) hsvt').trans htuning
    · rw [replied_flags, drive_flags]
      exact (hsteady'.port w).flag (hflag w hw)
    · exact replied_replies ((hsteady.trans hsteady').drive) p _ _
    · have htu := hstay hm
      exact ⟨(congrArg (·.grant f.other) htu).trans hgrantOther, (congrArg (·.request f.other) htu).trans hother⟩

/-! ### REQUEST_TRAVEL (R52 to R55) -/

section
variable {s : State} {f : Frame} {r : Report} {g : Run} (h : Trimmable s f r g) (q : Travel)
include h

/-- A request stored trims the grant with it in force (R53). -/
theorem Trimmable.storeTravel : Machine.storeTravel f q s = askRound
    (Machine.regranted f (trimmed q.dir g (reportEnvelope s f r) (targetWindow s.svt.working f q r.m))
      (cutAhead q.dir g (trimmed q.dir g (reportEnvelope s f r) (targetWindow s.svt.working f q r.m)))
      (placeRequest f q s)) := by
  have hplaced : Trimmable (placeRequest f q s) f r g := ⟨h.report, h.tracked, h.idle, h.grant, h.contained⟩
  have hrequest : (placeRequest f q s).request f = some q := Pair.get_set_self _ _ _
  exact congrArg askRound (hplaced.trim_request hrequest)

/-- A request in the other direction takes the place of the old after a trim to the envelope (R54). -/
theorem Trimmable.reverseTravel (old : Dir) : Machine.reverseTravel f q r old s = askRound
    (placeRequest f q (Machine.regranted f (reportEnvelope s f r) (cutAhead old g (reportEnvelope s f r)) s)) := by
  refine congrArg (fun u => askRound (placeRequest f q u)) ?_
  rw [trimTo_of_grant h.grant, clip_of_in h.contained (reportEnvelope_run s f r), removesAhead_eq]

end

/-- Settles O41: the checks of R52 in their order, and the request by the one the frame holds. -/
theorem requestTravelPlacesTheRequest : Obligations.RequestTravelPlacesTheRequest := by
  intro p f target s no taken h hrole
  have hexec {u : State} {payload : List Byte} (hb : requestTravel f target.toNat s = (u, payload)) :
      exec (.requestTravel p target) s = .next (replied p .requestTravel payload u) :=
    exec_of_admitted rfl h ((forWinder_eq hrole (fun f => requestTravel f target.toNat)).trans hb)
  have htaken {u : State} (hb : requestTravel f target.toNat s = answer (askRound u).drive (travelStatus s)) : taken u := by
    refine (hexec hb).trans ?_
    unfold travelStatus
    split <;> rfl
  refine ⟨fun hm => hexec (if_pos hm), fun hm hstate => hexec ((if_neg hm).trans (if_pos hstate)), ?_⟩
  intro r g hm hstate hreport hgrant e dir q n placed hlo hhi
  have hchecked : requestTravel f target.toNat s =
      if !inShaft s target.toNat then answer s .range
      else if apart target.toNat r.e ≤ s.svt.working.lvt then answer s .noTravel
      else if s.inFlight f then answer s .busy
      else takeTravel f q r s := by
    rw [requestTravel, if_neg hm, if_neg (not_not.2 hstate), hreport]
    rfl
  split
  · next hrange =>
    exact hexec (hchecked.trans (if_pos (by simpa [inShaft] using hrange)))
  next hrange =>
  rw [if_neg (by simpa [inShaft] using hrange)] at hchecked
  split
  · next hnear => exact hexec (hchecked.trans (if_pos hnear))
  next hnear =>
  rw [if_neg (show ¬ apart target.toNat r.e ≤ s.svt.working.lvt from hnear)] at hchecked
  split
  · next hbusy => exact hexec (hchecked.trans (if_pos (by simpa [State.inFlight, Option.isSome_iff_ne_none] using hbusy)))
  next hidle =>
  rw [not_not] at hidle
  have htrim : Trimmable s f r g := ⟨hreport, hstate, hidle, hgrant, ⟨hlo, hhi⟩⟩
  rw [if_neg (by simp [State.inFlight, hidle])] at hchecked
  refine ⟨fun hnone => htaken ?_, fun old hold hdir => htaken ?_, fun old hold hdir hv => hexec ?_,
    fun old hold hdir hv => htaken ?_⟩
  · rw [hchecked, takeTravel, hnone]
    exact congrArg (fun u => answer (State.drive u) (travelStatus s)) (htrim.storeTravel q)
  · rw [hchecked, takeTravel, hold]
    exact (if_pos hdir).trans (congrArg (fun u => answer (State.drive u) (travelStatus s)) (htrim.storeTravel q))
  · rw [hchecked, takeTravel, hold]
    refine (if_neg hdir).trans (if_neg ?_)
    rw [Report.atRest, decide_eq_true_eq]
    simp only [Config.restV]
    omega
  · rw [hchecked, takeTravel, hold]
    refine (if_neg hdir).trans ((if_pos ?_).trans
      (congrArg (fun u => answer (State.drive u) (travelStatus s)) (htrim.reverseTravel q old.dir)))
    rw [Report.atRest, decide_eq_true_eq]
    exact hv

end Sys2Proof.Machine
end

section
/-! SUPPORT. O39, O34: the acquisition of a frame, and the return of a tripped one. -/

namespace Sys2Proof.Machine

/-! ### The zones of an envelope (R20, R156) -/

theorem zonesFree_iff (s : State) (n : Run) :
    n.zones.all (zoneFree s) = true ↔ ∀ z, n.lo ≤ z → z ≤ n.hi → zoneOwner s z = none := by
  simp only [List.all_eq_true, mem_zones, zoneFree, Option.isNone_iff_eq_none, and_imp]

theorem zonesFreeOrOwn_iff (s : State) (f : Frame) (n : Run) :
    n.zones.all (zoneFreeOrOwn s f) = true ↔ ∀ z, n.lo ≤ z → z ≤ n.hi → zoneOwner s z ≠ some f.other := by
  simp only [List.all_eq_true, mem_zones, zoneFreeOrOwn, bne_iff_ne, and_imp]

theorem canAcquire_iff (s : State) (f : Frame) (n : Run) : canAcquire s f n = true ↔
    (∀ z, n.lo ≤ z → z ≤ n.hi → zoneOwner s z = none) ∧ OnOwnSide s f n := by
  rw [canAcquire, Bool.and_eq_true, zonesFree_iff, ownSide_iff]

theorem mayReform_iff (s : State) (f : Frame) (n : Run) : mayReform s f n = true ↔
    (∀ z, n.lo ≤ z → z ≤ n.hi → zoneOwner s z ≠ some f.other) ∧ OnOwnSide s f n := by
  rw [mayReform, Bool.and_eq_true, zonesFreeOrOwn_iff, ownSide_iff]

/-! ### Acquisition (R20, R21) -/

section
variable {s : State} {f : Frame} {r : Report} (hmode : s.mdc.mode ≠ .lockout) (hstate : (s.tracker f).state = .unknown)
include hmode hstate

theorem takeReport_unknown_beyond (h : s.svt.working.sl < r.e + s.svt.working.fh) :
    takeReport f r s = (s, .implausible) := by
  rw [takeReport, if_neg hmode, hstate]
  exact if_neg (by rw [inShaft, decide_eq_true_eq]; omega)

theorem takeReport_unknown (h : r.e + s.svt.working.fh ≤ s.svt.working.sl) :
    takeReport f r s = (acquire f r s, .ok) := by
  rw [takeReport, if_neg hmode, hstate]
  exact if_pos (by rw [inShaft, decide_eq_true_eq]; exact h)

end

/-- The frame TRACKED with the envelope of its first report as its grant (R20). -/
def acquired (f : Frame) (r : Report) (s : State) : State :=
  ((regranted f (reportEnvelope s f r) true (kept f r s)).setTracker f
    { (kept f r s).tracker f with state := .tracked }).raiseFrame f .frameState

theorem acquired_tracker (f : Frame) (r : Report) (s : State) :
    (acquired f r s).tracker f = { (kept f r s).tracker f with state := .tracked } :=
  Pair.get_set_self _ _ _

theorem acquired_grant (f : Frame) (r : Report) (s : State) :
    (acquired f r s).grant f = some (reportEnvelope s f r) := regranted_grant f _ true (kept f r s)

theorem acquire_free {s : State} {f : Frame} {r : Report} (hstate : (s.tracker f).state = .unknown)
    (hfree : canAcquire s f (reportEnvelope s f r) = true) :
    acquire f r s = tripOr f (loadNotes s f r) askRound (acquired f r s) := by
  have hmoved : setTracking f .tracked (regranted f (reportEnvelope s f r) true (kept f r s)) = acquired f r s :=
    setTracking_eq (by
      rw [tracker_of_ftk (regranted_ftk _ _ _ _), kept_tracker, hstate]
      nofun)
  rw [← (kept_notes f r s).1, ← loadAndSpeed_eq, ← hmoved]
  exact if_pos hfree

theorem acquire_taken {s : State} {f : Frame} {r : Report} (hstate : (s.tracker f).state = .unknown)
    (hfree : canAcquire s f (reportEnvelope s f r) = false) :
    acquire f r s = tripped f (0x0001 ||| loadNotes s f r) (kept f r s) := by
  have htrip := trip_eq_tripped (s := kept f r s) (f := f) (x := 0x0001 ||| loadNotes s f r) (.inl (by
    rw [kept_tracker, hstate]
    nofun))
  rw [← htrip, ← (kept_notes f r s).1, ← loadAndSpeed_eq]
  exact if_neg (by
    rw [Bool.not_eq_true]
    exact hfree)

/-- Settles O39: the first report by its range, the zones of its envelope and what it notes. -/
theorem theFirstReportAcquiresTheFrame : Obligations.TheFirstReportAcquiresTheFrame := by
  intro p f e v m flags s r n k noted free back answered h hrole hmode hstate
  have hanswer {u : State} {st : Status} (ht : takeReport f r s = (u, st)) :
      answered st.code (u.tracker f).state (u.tracker f).reasons u := exec_position h hrole ht
  have hfree : canAcquire s f n = true ↔ free := canAcquire_iff s f n
  have hback : back = acquired f r s := rfl
  have htracker := acquired_tracker f r s
  rw [kept_tracker] at htracker
  refine ⟨fun hbeyond => ?_, fun hrange hf hnone => ?_, fun hrange hf hsome => ?_, fun hrange hf => ?_⟩
  · have hanswered := hanswer (takeReport_unknown_beyond hmode hstate hbeyond)
    rw [hstate] at hanswered
    exact hanswered
  · have hacquired : acquire f r s = askRound back := (acquire_free hstate (hfree.2 hf)).trans (if_pos hnone)
    have hanswered := hanswer ((takeReport_unknown hmode hstate hrange).trans (congrArg (·, Status.ok) hacquired))
    rw [tracker_of_ftk (askRound_ftk back), hback, htracker] at hanswered
    exact hanswered
  · have hacquired : acquire f r s = tripped f noted (acquired f r s) :=
      (acquire_free hstate (hfree.2 hf)).trans ((if_neg hsome).trans (trip_eq_tripped (.inl (by
        rw [htracker]
        nofun))))
    obtain ⟨htripped, hgru, hheld⟩ := tripped_blocks f noted (acquired f r s)
    refine ⟨_, hanswer ((takeReport_unknown hmode hstate hrange).trans (congrArg (·, Status.ok) hacquired)), ?_,
      hheld.trans (hold_of_held hmode), ?_⟩
    · exact (congrArg (fun x => x.grants.get f) hgru).trans (acquired_grant f r s)
    · refine htripped.trans ?_
      rw [htracker, kept_tracker]
  · have hacquired := acquire_taken hstate (Bool.not_eq_true _ ▸ mt hfree.1 hf)
    have hanswered := hanswer ((takeReport_unknown hmode hstate hrange).trans (congrArg (·, Status.ok) hacquired))
    rw [(tripped_blocks _ _ _).1, kept_tracker] at hanswered
    exact hanswered

/-! ### The first mass that a condition names (R156) -/

theorem find?_least {l : List Nat} (hl : l.Pairwise (· < ·)) {c : Nat → Bool} {n : Nat} (hn : n ∈ l) (hc : c n = true)
    (hleast : ∀ j ∈ l, j < n → c j = false) : l.find? c = some n := by
  obtain ⟨before, after, rfl⟩ := List.append_of_mem hn
  refine List.find?_eq_some_iff_append.2 ⟨hc, before, after, rfl, fun j hj => ?_⟩
  have hlt : j < n := (List.pairwise_append.1 hl).2.2 j hj n (.head _)
  rw [hleast j (List.mem_append_left _ hj) hlt]
  rfl

theorem massIds_sorted : massIds.Pairwise (· < ·) := by decide

theorem firstMass_least {s : State} {c : Mass → Bool} {id : Nat} (hid : id ∈ massIds) (hc : c (s.mass id) = true)
    (hleast : ∀ j ∈ massIds, j < id → c (s.mass j) = false) : firstMass s c = some id :=
  find?_least massIds_sorted (c := fun id => c (s.mass id)) hid hc hleast

theorem firstMass_eq_none {s : State} {c : Mass → Bool} (h : ∀ id ∈ massIds, c (s.mass id) = false) :
    firstMass s c = none :=
  List.find?_eq_none.2 fun id hid => by
    rw [h id hid]
    exact Bool.false_ne_true

/-! ### CLEAR_TRIP (R156, R157) -/

theorem barsClearing_iff (f : Frame) (x : Mass) : barsClearing f x = true ↔
    x.state = .unaccounted ∨ (x.state = .inTransfer ∧ x.frame = some f) := by
  simp only [barsClearing, Bool.or_eq_true, Bool.and_eq_true, beq_iff_eq]

theorem clearTrip_frame {s : State} {f : Frame} {frame : Nat} (hframe : frame = frameCode f) :
    (s.mdc.mode = .run → clearTrip frame s = answer s .mode) ∧
    (s.mdc.mode ≠ .run →
      ((s.tracker f).state = .unknown → clearTrip frame s = answer s .notTracked) ∧
      ((s.tracker f).state = .tracked ∨ (s.tracker f).state = .stale → clearTrip frame s = answer s .ok) ∧
      ((s.tracker f).state = .tripped → clearTrip frame s = clearTripOf f s)) := by
  rw [clearTrip, hframe, frameOfCode_frameCode]
  refine ⟨fun hrun => if_pos hrun, fun hrun => ⟨fun h => ?_, ?_, fun h => ?_⟩⟩
  · simp only [if_neg hrun, h]
  · rintro (h | h) <;> simp only [if_neg hrun, h]
  · simp only [if_neg hrun, h]

theorem clearTripOf_busy {s : State} {f : Frame} (h : s.transfer f ≠ none) : clearTripOf f s = answer s .busy :=
  if_pos (by simpa [State.inFlight, Option.isSome_iff_ne_none] using h)

theorem clearTripOf_noReport {s : State} {f : Frame} (hidle : s.transfer f = none)
    (h : (s.tracker f).timer = none ∨ s.lastReport f = none) : clearTripOf f s = answer s .notTracked := by
  unfold clearTripOf
  rcases h with h | h <;> simp [State.inFlight, hidle, h]

section
variable {s : State} {f : Frame} {r : Report} (hidle : s.transfer f = none) (htimer : (s.tracker f).timer ≠ none)
  (hreport : s.lastReport f = some r)
include hidle htimer hreport

theorem clearTripOf_moving (hv : 20 < r.v.natAbs) : clearTripOf f s = answer s .travelActive := by
  have hmoving : r.atRest = false := by
    rw [Report.atRest, decide_eq_false_iff_not]
    simp only [Config.restV]
    omega
  simp [clearTripOf, State.inFlight, hidle, htimer, hreport, hmoving]

section
variable (hv : r.v.natAbs ≤ 20)
include hv

theorem clearTripOf_heavy (hm : (s.svt.working.winder.get f).pl < r.m) : clearTripOf f s = answer s .limit := by
  have hrest : r.atRest = true := decide_eq_true hv
  simp [clearTripOf, State.inFlight, hidle, htimer, hreport, hrest, hm]

variable (hm : r.m ≤ (s.svt.working.winder.get f).pl)
include hm

theorem clearTripOf_barred {id : Nat} (hbar : firstMass s (barsClearing f) = some id) :
    clearTripOf f s = answerWith s .inventory (u8 id) := by
  have hrest : r.atRest = true := decide_eq_true hv
  simp [clearTripOf, State.inFlight, hidle, htimer, hreport, hrest, Nat.not_lt.2 hm, hbar]

variable (hbar : firstMass s (barsClearing f) = none)
include hbar

theorem clearTripOf_overlap (hreform : mayReform s f (reportEnvelope s f r) = false) :
    clearTripOf f s = answer s .overlap := by
  have hrest : r.atRest = true := decide_eq_true hv
  simp [clearTripOf, State.inFlight, hidle, htimer, hreport, hrest, Nat.not_lt.2 hm, hbar, hreform]

theorem clearTripOf_clear (hreform : mayReform s f (reportEnvelope s f r) = true) :
    clearTripOf f s = answerWith (clearTripped f (reportEnvelope s f r) s).drive .ok
      (u8 (reportEnvelope s f r).lo ++ u8 (reportEnvelope s f r).hi) := by
  have hrest : r.atRest = true := decide_eq_true hv
  simp [clearTripOf, State.inFlight, hidle, htimer, hreport, hrest, Nat.not_lt.2 hm, hbar, hreform]

end

end

/-- The frame goes back to TRACKED with the run as its grant; outside RUN no round follows (R71, R157). -/
theorem clearTripped_eq {s : State} {f : Frame} (hmode : s.mdc.mode ≠ .run) (hstate : (s.tracker f).state = .tripped)
    (n : Run) : clearTripped f n s =
      reformGrant f n ((s.setTracker f { s.tracker f with state := .tracked, reasons := 0 }).raiseFrame f .frameState) := by
  have hmoved : moveTracker f { s.tracker f with state := .tracked, reasons := 0 } s =
      (s.setTracker f { s.tracker f with state := .tracked, reasons := 0 }).raiseFrame f .frameState :=
    if_neg (by simp [hstate])
  have hframe (u : State) : (reformGrant f n u).mdc = u.mdc := by
    unfold reformGrant
    split <;> rfl
  rw [clearTripped, hmoved]
  exact askRound_of_ne (by rw [hframe]; exact hmode)

/-- Settles O34: the checks of R156 in their order, each with its refusal, and the frame that passes them. -/
theorem clearTripReturnsTheFrameToService : Obligations.ClearTripReturnsTheFrameToService := by
  intro p frame f s h cleared no
  have hexec {u : State} {payload : List Byte} (hb : clearTrip frame.toNat s = (u, payload)) :
      exec (.clearTrip p frame) s = .next (replied p .clearTrip payload u) := exec_of_admitted rfl h hb
  refine ⟨fun hcode => hexec ?_, fun hf hrun => hexec ((clearTrip_frame hf).1 hrun),
    fun hf hrun hstate => hexec (((clearTrip_frame hf).2 hrun).1 hstate),
    fun hf hrun hstate => hexec (((clearTrip_frame hf).2 hrun).2.1 hstate),
    fun hf hrun hstate hbusy => hexec ((((clearTrip_frame hf).2 hrun).2.2 hstate).trans (clearTripOf_busy hbusy)),
    fun hf hrun hstate hidle => ?_,
    fun r e hf hmode hstate hidle htimer hreport hv hm hbars he hzones hside => ?_⟩
  · rw [clearTrip, frameOfCode_none hcode]
    rfl
  · have htripped := ((clearTrip_frame (s := s) hf).2 hrun).2.2 hstate
    intro bars
    have hbars (id : Nat) : barsClearing f (s.mass id) = true ↔ bars id := barsClearing_iff f (s.mass id)
    refine ⟨fun hnone => hexec (htripped.trans (clearTripOf_noReport hidle hnone)), fun r htimer hreport =>
      ⟨fun hv => hexec (htripped.trans (clearTripOf_moving hidle htimer hreport hv)),
      fun hv hm => hexec (htripped.trans (clearTripOf_heavy hidle htimer hreport hv hm)),
      fun id hid hv hm hbar hleast => ?_, fun hv hm hnone hoverlap => ?_⟩⟩
    · refine hexec (htripped.trans (clearTripOf_barred hidle htimer hreport hv hm
        (firstMass_least hid ((hbars id).2 hbar) fun j hj hlt => ?_)))
      simpa using mt (hbars j).1 (hleast j hj hlt)
    · refine hexec (htripped.trans (clearTripOf_overlap hidle htimer hreport hv hm (firstMass_eq_none fun id hid => ?_) ?_))
      · simpa using mt (hbars id).1 (hnone id hid)
      · rw [← Bool.not_eq_true, mayReform_iff]
        rintro ⟨hzones, hside⟩
        rcases hoverlap with ⟨z, hlo, hhi, hz⟩ | hout
        · exact hzones z hlo hhi hz
        · exact hout hside
  · subst he
    have hrun : s.mdc.mode ≠ .run := by rw [hmode]; nofun
    have hnone : firstMass s (barsClearing f) = none := firstMass_eq_none fun id hid => by
      rw [← Bool.not_eq_true, barsClearing_iff]
      exact not_or.2 (hbars id hid)
    have hclear := clearTripOf_clear hidle htimer hreport hv hm hnone ((mayReform_iff _ _ _).2 ⟨hzones, hside⟩)
    rw [clearTripped_eq hrun hstate] at hclear
    have hexec := hexec ((((clearTrip_frame hf).2 hrun).2.2 hstate).trans hclear)
    refine ⟨_, hexec, congrArg (replied p .clearTrip _) ?_⟩
    exact apply_ite State.drive _ _ _

end Sys2Proof.Machine
end

section
/-! SUPPORT. O43: what a round changes when no deadlock is declared, and the deadlock step. -/

namespace Sys2Proof.Machine

/-! ### A round without a deadlock -/

/-- A round without a deadlock touches ports, grants and ARB's pointer and indications (R62, R77, R81). -/
def ServiceFrame (s t : State) : Prop :=
  t = { s with ports := t.ports, gru := { s.gru with grants := t.gru.grants }, arb := t.arb }

theorem ServiceFrame.refl (s : State) : ServiceFrame s s := rfl

theorem ServiceFrame.trans {s t u : State} (h1 : ServiceFrame s t) (h2 : ServiceFrame t u) : ServiceFrame s u := by
  unfold ServiceFrame at *
  rw [h2, h1]

theorem ServiceFrame.request {s t : State} (h : ServiceFrame s t) (f : Frame) : t.request f = s.request f := by
  unfold ServiceFrame at h
  exact (congrArg (fun u => u.request f) h :)

theorem ServiceFrame.lastEnd {s t : State} (h : ServiceFrame s t) : t.gru.lastEnd = s.gru.lastEnd := by
  unfold ServiceFrame at h
  exact (congrArg (fun u => u.gru.lastEnd) h :)

theorem applyServed_service (f : Frame) (x : Option Run) (s : State) : ServiceFrame s (applyServed f x s) := by
  have h := applyServed_frame f x s
  have harb : (applyServed f x s).arb = s.arb := (congrArg State.arb h :)
  unfold ServiceFrame
  conv_rhs => rw [harb]
  exact h

theorem reportBlocked_service (f : Frame) (b : Bool) (s : State) : ServiceFrame s (reportBlocked f b s) := by
  unfold reportBlocked
  split <;> rfl

theorem serviceStep_service (s : State) : ServiceFrame s (serviceStep s).1 := by
  unfold serviceStep
  split
  · exact ((applyServed_service _ _ _).trans (applyServed_service _ _ _)).trans rfl
  · exact (applyServed_service _ _ _).trans (applyServed_service _ _ _)

theorem holdRound_of_quiet {s : State} (h : deadlocked s = false) : holdRound s =
    reportBlocked .L (serviceStep s).2.l (reportBlocked .U (serviceStep s).2.u (serviceStep s).1) := by
  have hdead : deadlockStep s = s := by
    rw [deadlockStep, h]
    rfl
  rw [holdRound, hdead]

theorem holdRound_service {s : State} (h : deadlocked s = false) : ServiceFrame s (holdRound s) := by
  rw [holdRound_of_quiet h]
  exact ((serviceStep_service s).trans (reportBlocked_service _ _ _)).trans (reportBlocked_service _ _ _)

theorem applyServed_arb (f : Frame) (x : Option Run) (s : State) : (applyServed f x s).arb = s.arb := by
  rw [applyServed_frame]

theorem serviceStep_arb (s : State) :
    (serviceStep s).1.arb = if contended s then s.arb.advance else s.arb := by
  unfold serviceStep
  split
  · exact (congrArg Arb.advance ((applyServed_arb _ _ _).trans (applyServed_arb _ _ _)))
  · exact (applyServed_arb _ _ _).trans (applyServed_arb _ _ _)

theorem reportBlocked_arb (f : Frame) (b : Bool) (s : State) :
    (reportBlocked f b s).arb = { s.arb with blockedReported := (reportBlocked f b s).arb.blockedReported } := by
  unfold reportBlocked
  split <;> rfl

/-- The blocked step changes ARB's indications alone (R81). -/
theorem holdRound_arb {s : State} (h : deadlocked s = false) :
    (holdRound s).arb = { (if contended s then s.arb.advance else s.arb) with
      blockedReported := (holdRound s).arb.blockedReported } := by
  rw [holdRound_of_quiet h, ← serviceStep_arb]
  generalize serviceStep s = x
  conv_lhs => rw [reportBlocked_arb .L, reportBlocked_arb .U]

/-! ### The deadlock step (R78, R79) -/

/-- Both frames TRACKED and at rest, edge against edge, each with a demand toward the other (R78). -/
structure Deadlock (s : State) (u l : Run) : Prop where
  frames : ∀ f, (s.tracker f).state = .tracked ∧ frameAtRest s f = true
  demands : ∀ f, demandsToward s f = true
  up : s.grant .U = some u
  low : s.grant .L = some l
  edge : u.lo = l.hi + 1

theorem Deadlock.deadlocked {s : State} {u l : Run} (h : Deadlock s u l) : Machine.deadlocked s = true := by
  simp [Machine.deadlocked, h.frames, h.demands, h.up, h.low, h.edge]

theorem demandsToward_of {s : State} {f : Frame} {q : Travel} {d : Run} (hq : s.request f = some q)
    (hdir : q.dir = towardOther f) (hd : demand s f = some d) : demandsToward s f = true := by
  simp [demandsToward, hq, hdir, hd]

/-- The state after the deadlock step, where the loser's request has ended (R79). -/
def yielded (loser : Frame) (s : State) : State :=
  ((clearRequest loser .yield s).setArb
    { (clearRequest loser .yield s).arb.advance with lastLoser := some loser }).raiseWatchers .deadlock

theorem yielded_request (loser : Frame) (s : State) : (yielded loser s).request loser = none :=
  (clearRequest_request loser .yield s).1

/-- The round after the deadlock step is one that finds no deadlock. -/
theorem Deadlock.holdRound {s : State} {u l : Run} (h : Deadlock s u l) :
    Machine.holdRound s = Machine.holdRound (yielded (pointedFrame s.arb).other s) := by
  have hstep : deadlockStep s = yielded (pointedFrame s.arb).other s := if_pos h.deadlocked
  have hquiet := deadlocked_of_noRequest (yielded_request (pointedFrame s.arb).other s)
  rw [holdRound_of_quiet hquiet, Machine.holdRound, hstep]

theorem noRequests_of_held {s : State} {f : Frame} (h : s.request f ≠ none) : noRequests s = false := by
  have hsome := Option.isNone_eq_false_iff.2 (Option.isSome_iff_ne_none.2 h)
  cases f with
  | U => simp [noRequests, hsome]
  | L => simp [noRequests, hsome]

/-- A clearance that leaves the other frame's request takes no pending table over (R17). -/
theorem clearRequest_arb {s : State} {f : Frame} (h : s.request f.other ≠ none) (why : EndReason) :
    (clearRequest f why s).arb = { s.arb with blockedReported := s.arb.blockedReported.set f false } := by
  have hheld (u : State) (hu : u.request f.other ≠ none) : (takePendingTuning f u).arb = u.arb := by
    have hsome : noRequests (u.setSvt { u.svt with tuning := u.svt.tuning.set f (u.svt.tuning.get f).takeOver }) = false :=
      noRequests_of_held (f := f.other) hu
    unfold takePendingTuning
    dsimp only
    rw [hsome]
    rfl
  have hended (u : State) (hu : u.request f.other ≠ none) : (endedRequest f why u).arb =
      { u.arb with blockedReported := u.arb.blockedReported.set f false } :=
    hheld _ (by
      intro hnone
      exact hu ((Pair.get_set_other u.gru.requests f none).symm.trans hnone))
  by_cases hwhy : why = .cleared
  · rw [clearRequest]
    dsimp only
    rw [if_pos hwhy]
    exact hended s h
  · have htrim (u : State) : (trim f u).arb = u.arb := by rw [trim_frame]
    rw [clearRequest_eq hwhy, htrim]
    exact hended s h

theorem yielded_arb {s : State} {loser : Frame} (h : s.request loser.other ≠ none) :
    (yielded loser s).arb = { s.arb.advance with
      blockedReported := s.arb.blockedReported.set loser false, lastLoser := some loser } := by
  have harb : (yielded loser s).arb = { (clearRequest loser .yield s).arb.advance with lastLoser := some loser } := rfl
  rw [harb, clearRequest_arb h]
  rfl

theorem yielded_steady (loser : Frame) (s : State) : Steady (clearRequest loser .yield s) (yielded loser s) :=
  ((Steady.refl _).setArb _).raiseWatchers .deadlock

/-- Settles O43: the round is the one after the loser's clearance, which leaves a frame without a request alone. -/
theorem aDeadlockEndsTheLosersRequest : Obligations.ADeadlockEndsTheLosersRequest := by
  intro u l a b qu ql s hframes hu hl hedge hqu hql hdiru hdirl ha hb winner loser
  have hdead : Deadlock s u l := by
    refine ⟨fun f => ?_, fun f => ?_, hu, hl, hedge⟩
    · obtain ⟨hstate, -, r, hr, hv⟩ := hframes f
      refine ⟨hstate, ?_⟩
      rw [frameAtRest, hr]
      exact decide_eq_true hv
    · cases f with
      | U => exact demandsToward_of hqu hdiru ha
      | L => exact demandsToward_of hql hdirl hb
  have hwinner : loser.other = winner := Frame.other_other winner
  have hheld : s.request loser.other ≠ none := by
    cases loser.other with
    | U => rw [hqu]; nofun
    | L => rw [hql]; nofun
  have hround : holdRound s = holdRound (yielded loser s) := hdead.holdRound
  have hframe := holdRound_frame s
  unfold RoundFrame at hframe
  obtain ⟨hnone, hend, hother⟩ := clearRequest_request loser .yield s
  have hquiet := deadlocked_of_noRequest (yielded_request loser s)
  obtain ⟨hgrant, hnone', hend'⟩ := holdRound_noRequest (yielded_request loser s)
  have hservice := holdRound_service hquiet
  have harb := (holdRound_arb hquiet).trans
    (by rw [contended_of_noRequest (yielded_request loser s), if_neg Bool.false_ne_true, yielded_arb hheld])
  have hcleared := clearRequest_steady loser .yield s
  have hsteady := holdRound_steady (yielded loser s)
  have hlastEnd : (yielded loser s).gru.lastEnd = s.gru.lastEnd.set loser .yield :=
    (congrArg (fun x => x.gru.lastEnd) (clearRequest_frame loser .yield s) :)
  rw [← hround] at hgrant hnone' hend' hservice harb hsteady
  refine ⟨hnone', hend'.trans hend, ?_, ?_, by rw [harb], by rw [harb]; rfl, by rw [harb]; rfl, fun w hw => ?_,
    fun w hw => ?_, fun r g hr hg hlo hhi => ?_, (congrArg State.ftk hframe :), (congrArg State.inv hframe :),
    (congrArg State.tku hframe :), (congrArg State.mdc hframe :)⟩
  · rw [hservice.request, ← hwinner]
    exact hother
  · rw [hservice.lastEnd, hlastEnd, ← hwinner]
    exact Pair.get_set_other _ _ _
  · refine (hsteady.port w).flag ?_
    exact flag_raiseOn (s := (clearRequest loser .yield s).setArb _)
      ((congrArg isWatcher (hcleared.port w).role).trans hw) rfl
  · exact (hsteady.port w).flag (((yielded_steady loser s).port w).flag (clearRequest_flag hw .yield))
  · obtain ⟨hstate, hidle, -⟩ := hframes loser
    have htrim : Trimmable s loser r g := ⟨hr, hstate, hidle, hg, ⟨hlo, hhi⟩⟩
    exact hgrant.trans (clearRequest_grant htrim (by decide))

end Sys2Proof.Machine
end

section
/-! SUPPORT. O44: the runs a round serves, and the frames it reports as blocked. -/

namespace Sys2Proof.Machine

/-! ### Free extents (R73) -/

theorem freeUp_eq {s : State} : ∀ {n z k : Nat}, k ≤ n → (∀ i < k, zoneFree s (z + i) = true) →
    (k = n ∨ zoneFree s (z + k) = false) → freeUp s z n = k
  | 0, _, k, hk, _, _ => (Nat.le_zero.1 hk).symm
  | n + 1, z, 0, _, _, hend => by
    obtain hend | hend := hend
    · cases hend
    · rw [freeUp, show zoneFree s z = false from hend]
      rfl
  | n + 1, z, k + 1, hk, hfree, hend => by
    have hz : zoneFree s z = true := hfree 0 (Nat.succ_pos k)
    have hrest : freeUp s (z + 1) n = k := by
      refine freeUp_eq (Nat.le_of_succ_le_succ hk) (fun i hi => ?_) (hend.imp (fun h => by omega) fun h => ?_)
      · rw [Nat.add_right_comm]
        exact hfree (i + 1) (by omega)
      · rw [Nat.add_right_comm]
        exact h
    rw [freeUp, hz, if_pos rfl, hrest]

theorem freeDown_eq {s : State} : ∀ {n z k : Nat}, k ≤ n → (∀ i < k, zoneFree s (z - i) = true) →
    (k = n ∨ zoneFree s (z - k) = false) → freeDown s z n = k
  | 0, _, k, hk, _, _ => (Nat.le_zero.1 hk).symm
  | n + 1, z, 0, _, _, hend => by
    obtain hend | hend := hend
    · cases hend
    · rw [freeDown, show zoneFree s z = false from hend]
      rfl
  | n + 1, z, k + 1, hk, hfree, hend => by
    have hz : zoneFree s z = true := hfree 0 (Nat.succ_pos k)
    have hrest : freeDown s (z - 1) n = k := by
      refine freeDown_eq (Nat.le_of_succ_le_succ hk) (fun i hi => ?_) (hend.imp (fun h => by omega) fun h => ?_)
      · rw [Nat.sub_sub, Nat.add_comm 1 i]
        exact hfree (i + 1) (by omega)
      · rw [Nat.sub_sub, Nat.add_comm 1 k]
        exact h
    rw [freeDown, hz, if_pos rfl, hrest]

/-- Two grants, L's below U's (R46). -/
structure Grants (s : State) (u l : Run) : Prop where
  up : s.grant .U = some u
  low : s.grant .L = some l
  upRun : u.lo ≤ u.hi
  lowRun : l.lo ≤ l.hi
  apart : l.hi < u.lo

theorem Grants.zoneFree_iff {s : State} {u l : Run} (h : Grants s u l) (z : Nat) :
    zoneFree s z = true ↔ (z < u.lo ∨ u.hi < z) ∧ (z < l.lo ∨ l.hi < z) := by
  have hhas (r : Run) : r.has z = true ↔ ¬ (z < r.lo ∨ r.hi < z) := by
    simp only [Run.has, Bool.and_eq_true, decide_eq_true_eq]
    omega
  simp only [zoneFree, zoneOwner, h.up, h.low, grantHas]
  split
  · next hu => simp [(hhas u).1 hu]
  · next hu =>
    split
    · next hl => simp [(hhas l).1 hl]
    · next hl =>
      rw [hhas, not_not] at hu hl
      simp [hu, hl]

theorem Grants.not_free {s : State} {u l : Run} (h : Grants s u l) {z : Nat}
    (hz : (u.lo ≤ z ∧ z ≤ u.hi) ∨ (l.lo ≤ z ∧ z ≤ l.hi)) : zoneFree s z = false := by
  rw [← Bool.not_eq_true, h.zoneFree_iff]
  omega

/-! ### What a served run makes of its grant (R62) -/

section
variable {s : State} {f : Frame} {g d : Run} (hg : s.grant f = some g) (hrun : g.lo ≤ g.hi)
include hg hrun

theorem applyServed_up (hedge : d.lo = g.hi + 1) {k : Nat} (hk : freeUp s d.lo (d.hi + 1 - d.lo) = k) :
    (applyServed f (freeExtent s .up d) s).grant f = some ⟨g.lo, g.hi + k⟩ ∧
      (freeExtent s .up d).isNone = decide (k = 0) := by
  unfold freeExtent
  dsimp only
  rw [hk]
  split
  · next hzero =>
    subst hzero
    exact ⟨hg, rfl⟩
  · next hsome =>
    rw [applyServed_some hg]
    refine ⟨(Pair.get_set_self _ _ _).trans (congrArg some ?_), (decide_eq_false hsome).symm⟩
    rw [Run.hull, Run.mk.injEq]
    dsimp only
    omega

theorem applyServed_down (hedge : d.hi + 1 = g.lo) {k : Nat} (hk : freeDown s d.hi (d.hi + 1 - d.lo) = k) :
    (applyServed f (freeExtent s .down d) s).grant f = some ⟨g.lo - k, g.hi⟩ ∧
      (freeExtent s .down d).isNone = decide (k = 0) := by
  have hle := freeDown_le s (d.hi + 1 - d.lo) d.hi
  rw [hk] at hle
  unfold freeExtent
  dsimp only
  rw [hk]
  split
  · next hzero =>
    subst hzero
    exact ⟨hg, rfl⟩
  · next hsome =>
    rw [applyServed_some hg]
    refine ⟨(Pair.get_set_self _ _ _).trans (congrArg some ?_), (decide_eq_false hsome).symm⟩
    rw [Run.hull, Run.mk.injEq]
    dsimp only
    omega

end

/-! ### The four ways a demand can point -/

/-- The grant of U, or of L, with a demand served as far as the other grant lets it (R73). -/
def widened (u l : Run) : Frame → Dir → Run → Run
  | .U, .down, d => ⟨max d.lo (l.hi + 1), u.hi⟩
  | .U, .up, d => ⟨u.lo, d.hi⟩
  | .L, .up, d => ⟨l.lo, min d.hi (u.lo - 1)⟩
  | .L, .down, d => ⟨d.lo, l.hi⟩

/-- A demand follows on its grant's edge (R49). -/
def OnEdge (g : Run) : Dir → Run → Prop
  | .up, d => d.lo = g.hi + 1 ∧ d.lo ≤ d.hi
  | .down, d => d.hi + 1 = g.lo ∧ d.lo ≤ d.hi

/-- The grant of the frame that a pair of grants holds. -/
def grantOf (u l : Run) : Frame → Run
  | .U => u
  | .L => l

theorem Grants.grant {s : State} {u l : Run} (h : Grants s u l) (f : Frame) : s.grant f = some (grantOf u l f) := by
  cases f
  · exact h.up
  · exact h.low

theorem demand_onEdge {s : State} {f : Frame} {q : Travel} {g d : Run} (hq : s.request f = some q)
    (hg : s.grant f = some g) (hd : demand s f = some d) : OnEdge g q.dir d := by
  obtain ⟨t, g', ht, hg', hrun, hedge⟩ := demand_spec hd
  rw [hq] at ht
  rw [hg] at hg'
  cases ht
  cases hg'
  cases hdir : q.dir with
  | up =>
    rw [hdir] at hedge
    exact ⟨hedge, hrun⟩
  | down =>
    rw [hdir] at hedge
    exact ⟨hedge, hrun⟩

/-- A demand is served up to the other grant; it gets nothing where it points at that grant's edge (R73). -/
theorem Grants.served {s : State} {u l : Run} (h : Grants s u l) (f : Frame) {dir : Dir} {d : Run}
    (hedge : OnEdge (grantOf u l f) dir d) :
    (applyServed f (freeExtent s dir d) s).grant f = some (widened u l f dir d) ∧
      (freeExtent s dir d).isNone = decide (dir = towardOther f ∧ u.lo = l.hi + 1) := by
  have hup := h.upRun
  have hlow := h.lowRun
  have hapart := h.apart
  cases f with
  | U =>
    cases dir with
    | up =>
      obtain ⟨hlo, hrun⟩ := hedge
      have hk : freeUp s d.lo (d.hi + 1 - d.lo) = d.hi + 1 - d.lo :=
        freeUp_eq le_rfl (fun i hi => (h.zoneFree_iff _).2 (by dsimp only [grantOf] at hlo; omega)) (.inl rfl)
      obtain ⟨hgrant, hnone⟩ := applyServed_up h.up hup hlo hk
      refine ⟨hgrant.trans (congrArg some ?_), hnone.trans (decide_eq_decide.2 ?_)⟩
      · rw [widened, Run.mk.injEq]
        dsimp only [grantOf] at hlo
        omega
      · simp [towardOther]
        omega
    | down =>
      obtain ⟨hhi, hrun⟩ := hedge
      dsimp only [grantOf] at hhi
      have hk : freeDown s d.hi (d.hi + 1 - d.lo) = min (d.hi + 1 - d.lo) (u.lo - 1 - l.hi) := by
        refine freeDown_eq (by omega) (fun i hi => (h.zoneFree_iff _).2 (by omega)) ?_
        by_cases hall : d.hi + 1 - d.lo ≤ u.lo - 1 - l.hi
        · exact .inl (by omega)
        · exact .inr (h.not_free (by omega))
      obtain ⟨hgrant, hnone⟩ := applyServed_down h.up hup hhi hk
      refine ⟨hgrant.trans (congrArg some ?_), hnone.trans (decide_eq_decide.2 ?_)⟩
      · rw [widened, Run.mk.injEq]
        omega
      · simp only [towardOther, true_and]
        omega
  | L =>
    cases dir with
    | up =>
      obtain ⟨hlo, hrun⟩ := hedge
      dsimp only [grantOf] at hlo
      have hk : freeUp s d.lo (d.hi + 1 - d.lo) = min (d.hi + 1 - d.lo) (u.lo - 1 - l.hi) := by
        refine freeUp_eq (by omega) (fun i hi => (h.zoneFree_iff _).2 (by omega)) ?_
        by_cases hall : d.hi + 1 - d.lo ≤ u.lo - 1 - l.hi
        · exact .inl (by omega)
        · exact .inr (h.not_free (by omega))
      obtain ⟨hgrant, hnone⟩ := applyServed_up h.low hlow hlo hk
      refine ⟨hgrant.trans (congrArg some ?_), hnone.trans (decide_eq_decide.2 ?_)⟩
      · rw [widened, Run.mk.injEq]
        omega
      · simp only [towardOther, true_and]
        omega
    | down =>
      obtain ⟨hhi, hrun⟩ := hedge
      dsimp only [grantOf] at hhi
      have hk : freeDown s d.hi (d.hi + 1 - d.lo) = d.hi + 1 - d.lo :=
        freeDown_eq le_rfl (fun i hi => (h.zoneFree_iff _).2 (by omega)) (.inl rfl)
      obtain ⟨hgrant, hnone⟩ := applyServed_down h.low hlow hhi hk
      refine ⟨hgrant.trans (congrArg some ?_), hnone.trans (decide_eq_decide.2 ?_)⟩
      · rw [widened, Run.mk.injEq]
        omega
      · simp [towardOther]
        omega

end Sys2Proof.Machine
end

section
/-! SUPPORT. O44: the service and the blocked step, by the demands that stand. -/

namespace Sys2Proof.Machine

/-! ### The service step (R75, R76) -/

theorem applyServed_congr {s t : State} {f : Frame} (h : t.grant f = s.grant f) (x : Option Run) :
    (applyServed f x t).grant f = (applyServed f x s).grant f := by
  cases x with
  | none => exact h
  | some r =>
    unfold applyServed
    rw [h]
    cases hg : s.grant f with
    | none => exact h
    | some g => exact (Pair.get_set_self t.gru.grants f _).trans (Pair.get_set_self s.gru.grants f _).symm

section
variable {s : State} (h : contended s = false)
include h

theorem serviceStep_apart : serviceStep s =
    (applyServed .L (servedRun s .L) (applyServed .U (servedRun s .U) s),
      ⟨(servedRun s .U).isNone, (servedRun s .L).isNone⟩) :=
  if_neg (by rw [h]; exact Bool.false_ne_true)

theorem serviceStep_grant (f : Frame) :
    (serviceStep s).1.grant f = (applyServed f (servedRun s f) s).grant f ∧
      (serviceStep s).2.get f = (servedRun s f).isNone := by
  rw [serviceStep_apart h]
  cases f with
  | U => exact ⟨applyServed_grant_other .L _ _, rfl⟩
  | L => exact ⟨applyServed_congr (applyServed_grant_other .U _ _) _, rfl⟩

end

/-- In a contended round the pointed frame is served first, the other what is left (R76). -/
theorem serviceStep_contended {s : State} (h : contended s = true) {f : Frame} (hf : pointedFrame s.arb = f) :
    (serviceStep s).1.grant f = (applyServed f (servedRun s f) s).grant f ∧
      (serviceStep s).1.grant f.other =
        (applyServed f.other (servedRun (applyServed f (servedRun s f) s) f.other)
          (applyServed f (servedRun s f) s)).grant f.other ∧
      (serviceStep s).2 = (⟨false, false⟩ : Pair Bool).set f (servedRun s f).isNone := by
  have hstep : serviceStep s = _ := if_pos h
  rw [hstep]
  dsimp only
  rw [hf]
  refine ⟨?_, rfl, rfl⟩
  have hother := applyServed_grant_other f.other (servedRun (applyServed f (servedRun s f) s) f.other)
    (applyServed f (servedRun s f) s)
  rw [Frame.other_other] at hother
  exact hother

theorem holdRound_grant {s : State} (h : deadlocked s = false) (f : Frame) :
    (holdRound s).grant f = (serviceStep s).1.grant f := by
  rw [holdRound_of_quiet h, State.grant, reportBlocked_gru, reportBlocked_gru]
  rfl

/-! ### Demands over a round (R49, R72) -/

theorem demand_congr {s t : State} {f : Frame} (hsvt : t.svt = s.svt) (hftk : t.ftk = s.ftk)
    (hrequest : t.request f = s.request f) (hgrant : t.grant f = s.grant f) : demand t f = demand s f := by
  unfold demand reportEnvelope State.lastReport
  rw [hsvt, hftk, hrequest, hgrant]

theorem eligibleDemand_of {s : State} {f : Frame} {q : Travel} {d : Run} (hq : s.request f = some q)
    (hd : demand s f = some d) (htracked : (s.tracker f).state = .tracked)
    (hother : q.dir = towardOther f → (s.tracker f.other).state = .tracked) :
    eligibleDemand s f = some (q.dir, d) := by
  rw [eligibleDemand, hq, hd]
  exact if_pos ⟨htracked, hother⟩

theorem eligibleDemand_none {s : State} {f : Frame} (h : demand s f = none) : eligibleDemand s f = none := by
  unfold eligibleDemand
  rw [h]
  cases s.request f <;> rfl

theorem servedRun_eq {s : State} {f : Frame} {dir : Dir} {d : Run} (h : eligibleDemand s f = some (dir, d)) :
    servedRun s f = freeExtent s dir d := by
  rw [servedRun, h]

theorem servedRun_none {s : State} {f : Frame} (h : eligibleDemand s f = none) : servedRun s f = none := by
  rw [servedRun, h]

theorem contended_of_none {s : State} {f : Frame} (h : eligibleDemand s f = none) : contended s = false := by
  unfold contended
  cases f with
  | U => rw [h]
  | L =>
    rw [h]
    split
    · next hl => cases hl
    · rfl

theorem contended_iff {s : State} {qu ql : Travel} {a b : Run} (hu : eligibleDemand s .U = some (qu.dir, a))
    (hl : eligibleDemand s .L = some (ql.dir, b)) :
    contended s = true ↔ qu.dir = .down ∧ ql.dir = .up ∧ a.lo ≤ b.hi ∧ b.lo ≤ a.hi := by
  unfold contended
  rw [hu, hl]
  cases qu.dir with
  | up => exact ⟨nofun, fun h => absurd h.1 nofun⟩
  | down =>
    cases ql.dir with
    | up => simp [Run.meets]
    | down => exact ⟨nofun, fun h => absurd h.2.1 nofun⟩

/-! ### Rounds over two TRACKED frames (R75 to R77) -/

section
variable {s : State} {u l : Run} (h : Grants s u l) (htracked : ∀ f, (s.tracker f).state = .tracked)
include h htracked

theorem Grants.eligible {f : Frame} {q : Travel} {d : Run} (hq : s.request f = some q) (hd : demand s f = some d) :
    eligibleDemand s f = some (q.dir, d) ∧ OnEdge (grantOf u l f) q.dir d :=
  ⟨eligibleDemand_of hq hd (htracked f) fun _ => htracked f.other, demand_onEdge hq (h.grant f) hd⟩

variable (hgap : l.hi + 1 < u.lo)
include hgap

omit htracked in
theorem Grants.quiet : deadlocked s = false := by
  have hne : (u.lo == l.hi + 1) = false := by
    rw [beq_eq_false_iff_ne]
    omega
  unfold deadlocked
  rw [h.up, h.low]
  simp only [hne, Bool.and_false]

theorem Grants.served_some {f : Frame} {q : Travel} {d : Run} (hq : s.request f = some q) (hd : demand s f = some d) :
    (applyServed f (servedRun s f) s).grant f = some (widened u l f q.dir d) ∧ (servedRun s f).isNone = false := by
  obtain ⟨heligible, hedge⟩ := h.eligible htracked hq hd
  obtain ⟨hgrant, hnone⟩ := h.served f hedge
  rw [servedRun_eq heligible, hnone]
  exact ⟨hgrant, decide_eq_false (by omega)⟩

/-- One demand alone is served up to the other grant, and the pointer stays (R73, R77). -/
theorem Grants.round_single {f : Frame} {q : Travel} {d : Run} (hq : s.request f = some q) (hd : demand s f = some d)
    (hother : demand s f.other = none) :
    (holdRound s).grant f = some (widened u l f q.dir d) ∧
      (holdRound s).grant f.other = some (grantOf u l f.other) ∧ (holdRound s).arb.pointer = s.arb.pointer := by
  have hnone := eligibleDemand_none hother
  have hcontended := contended_of_none hnone
  have hquiet := h.quiet hgap
  refine ⟨?_, ?_, ?_⟩
  · rw [holdRound_grant hquiet, (serviceStep_grant hcontended f).1]
    exact (h.served_some htracked hgap hq hd).1
  · rw [holdRound_grant hquiet, (serviceStep_grant hcontended f.other).1, servedRun_none hnone, applyServed_none]
    exact h.grant f.other
  · rw [holdRound_arb hquiet, hcontended]
    rfl

section
variable {qu ql : Travel} {a b : Run} (hqu : s.request .U = some qu) (hql : s.request .L = some ql)
  (ha : demand s .U = some a) (hb : demand s .L = some b)
include hqu hql ha hb

/-- Two demands that share no zone are both served, and ARB stays as it was (R75, R77, R80). -/
theorem Grants.round_both (hapart : qu.dir = .up ∨ ql.dir = .down ∨ b.hi < a.lo) :
    (holdRound s).grant .U = some (widened u l .U qu.dir a) ∧
      (holdRound s).grant .L = some (widened u l .L ql.dir b) ∧ (holdRound s).arb = s.arb := by
  have hcontended : contended s = false := by
    rw [← Bool.not_eq_true, contended_iff (h.eligible htracked hqu ha).1 (h.eligible htracked hql hb).1]
    rintro ⟨hu, hl, hmeet, -⟩
    rcases hapart with hu' | hl' | hlt
    · rw [hu] at hu'
      cases hu'
    · rw [hl] at hl'
      cases hl'
    · omega
  have hquiet := h.quiet hgap
  obtain ⟨hgrantU, hexaminedU⟩ := serviceStep_grant hcontended .U
  obtain ⟨hgrantL, hexaminedL⟩ := serviceStep_grant hcontended .L
  obtain ⟨hservedU, hsomeU⟩ := h.served_some htracked hgap hqu ha
  obtain ⟨hservedL, hsomeL⟩ := h.served_some htracked hgap hql hb
  have hround : holdRound s = (serviceStep s).1 := by
    rw [holdRound_of_quiet hquiet]
    have hU : (serviceStep s).2.u = false := hexaminedU.trans hsomeU
    have hL : (serviceStep s).2.l = false := hexaminedL.trans hsomeL
    rw [hU, hL]
    rfl
  rw [hround]
  refine ⟨hgrantU.trans hservedU, hgrantL.trans hservedL, ?_⟩
  rw [serviceStep_arb, hcontended]
  rfl

/-- What the first frame of a contended round leaves to the second (R76). -/
theorem Grants.round_contended (hu : qu.dir = .down) (hl : ql.dir = .up) (hmeet : a.lo ≤ b.hi) {f : Frame}
    (hf : pointedFrame s.arb = f) {q q' : Travel} {d d' : Run} (hq : s.request f = some q) (hd : demand s f = some d)
    (hq' : s.request f.other = some q') (hd' : demand s f.other = some d') {u' l' : Run}
    (hgrants : ∀ t : State, t.grant f = some (widened u l f q.dir d) → t.grant f.other = s.grant f.other → Grants t u' l') :
    (holdRound s).grant f = some (widened u l f q.dir d) ∧
      (holdRound s).grant f.other = some (widened u' l' f.other q'.dir d') ∧ (holdRound s).arb = s.arb.advance := by
  have hquiet := h.quiet hgap
  have hedgeU := (h.eligible htracked hqu ha).2
  have hedgeL := (h.eligible htracked hql hb).2
  have hcontended : contended s = true := by
    rw [contended_iff (h.eligible htracked hqu ha).1 (h.eligible htracked hql hb).1]
    refine ⟨hu, hl, hmeet, ?_⟩
    rw [hu] at hedgeU
    rw [hl] at hedgeL
    obtain ⟨hedgeU, -⟩ := hedgeU
    obtain ⟨hedgeL, -⟩ := hedgeL
    dsimp only [grantOf] at hedgeU hedgeL
    omega
  obtain ⟨hfirst, hsecond, hexamined⟩ := serviceStep_contended hcontended hf
  obtain ⟨hserved, hsome⟩ := h.served_some htracked hgap hq hd
  have hframe := applyServed_service f (servedRun s f) s
  have hother := applyServed_grant_other f (servedRun s f) s
  have hleft := hgrants _ hserved hother
  generalize applyServed f (servedRun s f) s = t at hfirst hsecond hserved hframe hother hleft
  have hrequest := (hframe.request f.other).trans hq'
  unfold ServiceFrame at hframe
  have hftk : t.ftk = s.ftk := (congrArg State.ftk hframe :)
  have hsvt : t.svt = s.svt := (congrArg State.svt hframe :)
  have hdemand : demand t f.other = some d' :=
    (demand_congr hsvt hftk (hrequest.trans hq'.symm) hother).trans hd'
  have htracked' (g : Frame) : (t.tracker g).state = .tracked := by
    rw [tracker_of_ftk hftk]
    exact htracked g
  obtain ⟨heligible, hedge⟩ := hleft.eligible htracked' hrequest hdemand
  have hround : holdRound s = (serviceStep s).1 := by
    rw [holdRound_of_quiet hquiet, hexamined, hsome]
    cases f <;> rfl
  rw [hround, hsecond, servedRun_eq heligible]
  refine ⟨hfirst.trans hserved, (hleft.served f.other hedge).1, ?_⟩
  rw [serviceStep_arb, hcontended]
  rfl

end

end

end Sys2Proof.Machine
end

section
/-! SUPPORT. O44: the blocked step, and the round as a whole. -/

namespace Sys2Proof.Machine

/-! ### The blocked step (R80, R81) -/

theorem blocked_congr {s t : State} (hsvt : t.svt = s.svt) (hftk : t.ftk = s.ftk) (hgru : t.gru = s.gru) (f : Frame) :
    blocked t f = blocked s f := by
  have hrequest (g : Frame) : t.request g = s.request g := congrArg (fun u : Gru => u.requests.get g) hgru
  have hgrant (g : Frame) : t.grant g = s.grant g := congrArg (fun u : Gru => u.grants.get g) hgru
  have hdemand (g : Frame) : demand t g = demand s g := demand_congr hsvt hftk (hrequest g) (hgrant g)
  have howner (z : Nat) : zoneOwner t z = zoneOwner s z := by
    unfold zoneOwner
    rw [hgrant, hgrant]
  have hnext (d : Dir) : nextZoneOthers t f d = nextZoneOthers s f d := by
    unfold nextZoneOthers
    rw [hgrant]
    simp only [howner]
  have htoward (g : Frame) : demandsToward t g = demandsToward s g := by
    rw [demandsToward, demandsToward, hdemand, hrequest]
  have hrest : frameAtRest t f = frameAtRest s f := by
    unfold frameAtRest State.lastReport
    rw [hftk]
  unfold blocked
  rw [hrequest]
  simp only [tracker_of_ftk hftk, hrest, hdemand, hnext, htoward]

theorem reportBlocked_blocked (g : Frame) (b : Bool) (s : State) (f : Frame) :
    blocked (reportBlocked g b s) f = blocked s f := by
  have hframe := reportBlocked_service g b s
  unfold ServiceFrame at hframe
  have hsvt : (reportBlocked g b s).svt = s.svt := (congrArg State.svt hframe :)
  have hftk : (reportBlocked g b s).ftk = s.ftk := (congrArg State.ftk hframe :)
  exact blocked_congr hsvt hftk (reportBlocked_gru g b s) f

theorem reportBlocked_indication (f g : Frame) (b : Bool) (s : State) :
    (reportBlocked g b s).arb.blockedReported.get f =
      (s.arb.blockedReported.get f || (decide (f = g) && (b && blocked s g))) := by
  unfold reportBlocked
  split
  · next h =>
    simp only [Bool.and_eq_true, Bool.not_eq_true'] at h
    obtain ⟨⟨hb, hblocked⟩, -⟩ := h
    have hset : ((s.setBlocked g true).raiseFrame g .blocked).arb.blockedReported.get f =
        if f = g then true else s.arb.blockedReported.get f := Pair.get_set _ _ _ _
    rw [hset, hb, hblocked]
    by_cases hf : f = g <;> simp [hf]
  · next h =>
    by_cases hf : f = g
    · subst hf
      cases hwas : s.arb.blockedReported.get f with
      | true => rfl
      | false =>
        rw [hwas] at h
        simpa using h
    · simp [hf]

/-- A frame's indication after a round: it was yes, or the frame is left without zones and blocked (R81). -/
theorem holdRound_indication {s : State} (h : deadlocked s = false) (f : Frame) :
    (holdRound s).arb.blockedReported.get f =
      (s.arb.blockedReported.get f || ((serviceStep s).2.get f && blocked (serviceStep s).1 f)) := by
  have hwas : (serviceStep s).1.arb.blockedReported = s.arb.blockedReported := by
    rw [serviceStep_arb]
    split <;> rfl
  rw [holdRound_of_quiet h, ← hwas]
  rw [reportBlocked_indication, reportBlocked_indication]
  cases f with
  | U => simp [Pair.get]
  | L =>
    rw [reportBlocked_blocked]
    simp [Pair.get]

theorem holdRound_silent {s : State} (h : deadlocked s = false) {f : Frame}
    (hblocked : blocked (serviceStep s).1 f = false) :
    (holdRound s).arb.blockedReported.get f = s.arb.blockedReported.get f := by
  rw [holdRound_indication h, hblocked, Bool.and_false, Bool.or_false]

/-! ### The ports of a blocked frame (R81) -/

/-- A reported block is raised to the winder, dispatch and monitor. -/
theorem reportBlocked_flag {s : State} {f : Frame} (hblocked : blocked s f = true)
    (hwas : s.arb.blockedReported.get f = false) {w : PortId}
    (hw : (s.port w).role = winderRole f ∨ isWatcher (s.port w).role = true) :
    ((reportBlocked f true s).port w).flags.getLsbD 2 = true := by
  have htold : reportBlocked f true s = (s.setBlocked f true).raiseFrame f .blocked :=
    if_pos (by rw [hblocked, hwas]; rfl)
  rw [htold]
  refine flag_raiseOn (s := s.setBlocked f true) ?_ rfl
  rw [Bool.or_eq_true, beq_iff_eq]
  exact hw

theorem reportBlocked_told {s : State} {f : Frame} (hwas : s.arb.blockedReported.get f = true) (b : Bool) :
    reportBlocked f b s = s := if_neg (by rw [hwas]; simp)

theorem winderRole_other_ne (f : Frame) : winderRole f ≠ winderRole f.other := by cases f <;> nofun

theorem reportBlocked_port {s : State} {f : Frame} {w : PortId} (hw : (s.port w).role = winderRole f.other) (b : Bool) :
    (reportBlocked f b s).port w = s.port w := by
  unfold reportBlocked
  split
  · refine (State.port_raiseOn _ _ _ _).trans (if_neg ?_)
    rw [Bool.or_eq_true, beq_iff_eq]
    have hport : ((s.setBlocked f true).port w).role = winderRole f.other := hw
    rw [hport]
    cases f <;> decide
  · rfl

theorem applyServed_port {s : State} {f : Frame} {w : PortId} (hw : (s.port w).role = winderRole f.other)
    (x : Option Run) : (applyServed f x s).port w = s.port w := by
  unfold applyServed
  split
  · rw [State.port_raiseWinder]
    refine if_neg ?_
    have hport : ∀ n, ((s.setGrant f n).port w).role = winderRole f.other := fun _ => hw
    rw [hport]
    cases f <;> nofun
  · rfl

theorem serviceStep_port {s : State} (h : contended s = false) {f : Frame} (hnone : servedRun s f = none) {w : PortId}
    (hw : (s.port w).role = winderRole f) : (serviceStep s).1.port w = s.port w := by
  rw [serviceStep_apart h]
  cases f with
  | U =>
    rw [hnone]
    exact applyServed_port hw _
  | L =>
    rw [hnone]
    exact applyServed_port hw _

/-- What the round does for a frame that it leaves without zones and blocked (R81). -/
theorem holdRound_told {s : State} (h : deadlocked s = false) (hcontended : contended s = false) {f : Frame}
    (hnone : servedRun s f = none) (hblocked : blocked (serviceStep s).1 f = true) :
    (holdRound s).arb.blockedReported.get f = true ∧
      (s.arb.blockedReported.get f = false → ∀ w, (s.port w).role = winderRole f ∨ isWatcher (s.port w).role = true →
        ((holdRound s).port w).flags.getLsbD 2 = true) ∧
      (s.arb.blockedReported.get f = true → ∀ w, (s.port w).role = winderRole f →
        ((holdRound s).port w).flags.getLsbD 2 = (s.port w).flags.getLsbD 2) := by
  have hexamined : (serviceStep s).2.get f = true := by
    rw [(serviceStep_grant hcontended f).2, hnone]
    rfl
  have hindication (g : Frame) : (serviceStep s).1.arb.blockedReported.get g = s.arb.blockedReported.get g := by
    rw [serviceStep_arb, hcontended]
    rfl
  have hservice := serviceStep_steady s
  have hport (w : PortId) (hw : (s.port w).role = winderRole f) := serviceStep_port hcontended hnone hw
  refine ⟨by rw [holdRound_indication h, hexamined, hblocked]; exact Bool.or_true _, fun hwas w hw => ?_,
    fun hwas w hw => congrArg (fun x : PortState => x.flags.getLsbD 2) ?_⟩
  · rw [holdRound_of_quiet h]
    generalize serviceStep s = x at *
    have hrole := (hservice.port w).role
    cases f with
    | U =>
      refine ((reportBlocked_steady .L _ _).port w).flag ?_
      rw [show x.2.u = true from hexamined]
      exact reportBlocked_flag hblocked ((hindication .U).trans hwas) (by rw [hrole]; exact hw)
    | L =>
      have hrole' := ((reportBlocked_steady .U x.2.u x.1).port w).role
      rw [show x.2.l = true from hexamined]
      refine reportBlocked_flag ?_ ?_ (by rw [hrole', hrole]; exact hw)
      · rw [reportBlocked_blocked]
        exact hblocked
      · rw [reportBlocked_indication, hindication, hwas]
        rfl
  · rw [holdRound_of_quiet h, ← hport w hw]
    have hrole : ((serviceStep s).1.port w).role = winderRole f := by rw [hport w hw]; exact hw
    have hwas' := (hindication f).trans hwas
    generalize serviceStep s = x at *
    cases f with
    | U =>
      rw [reportBlocked_told hwas']
      exact reportBlocked_port hrole _
    | L =>
      have hother : (reportBlocked .U x.2.u x.1).port w = x.1.port w := reportBlocked_port hrole _
      rw [reportBlocked_told, hother]
      rw [reportBlocked_indication, hwas']
      rfl

end Sys2Proof.Machine
end

section
/-! SUPPORT. O44: which frames a round leaves without zones, and whether they are blocked. -/

namespace Sys2Proof.Machine

/-! ### Demands toward the other frame (R72, R78, R80) -/

theorem demandsToward_iff (s : State) (f : Frame) : demandsToward s f = true ↔
    demand s f ≠ none ∧ ∃ q, s.request f = some q ∧ q.dir = towardOther f := by
  rw [demandsToward, Bool.and_eq_true, Option.isSome_iff_ne_none]
  refine and_congr_right fun _ => ?_
  cases s.request f with
  | none => simp
  | some q => simp

theorem frameAtRest_iff (s : State) (f : Frame) :
    frameAtRest s f = true ↔ ∃ r, s.lastReport f = some r ∧ r.v.natAbs ≤ 20 := by
  unfold frameAtRest
  cases s.lastReport f with
  | none => simp
  | some r =>
    refine decide_eq_true_iff.trans ⟨fun h => ⟨r, rfl, h⟩, fun ⟨x, hx, h⟩ => ?_⟩
    cases hx
    exact h

theorem deadlocked_spec {s : State} (h : deadlocked s = true) (f : Frame) :
    (s.tracker f).state = .tracked ∧ frameAtRest s f = true ∧ demandsToward s f = true := by
  simp only [deadlocked, Bool.and_eq_true, beq_iff_eq] at h
  obtain ⟨⟨⟨⟨⟨⟨hu, hl⟩, hru⟩, hrl⟩, hdu⟩, hdl⟩, -⟩ := h
  cases f
  · exact ⟨hu, hru, hdu⟩
  · exact ⟨hl, hrl, hdl⟩

theorem contended_toward {s : State} (h : contended s = true) (f : Frame) :
    ∃ d, eligibleDemand s f = some (towardOther f, d) := by
  unfold contended at h
  split at h
  · next u l hu hl =>
    cases f
    · exact ⟨u, hu⟩
    · exact ⟨l, hl⟩
  · cases h

theorem eligible_toward {s : State} {f : Frame} {d : Run} (h : eligibleDemand s f = some (towardOther f, d)) :
    demandsToward s f = true := by
  obtain ⟨⟨q, hq, hdir⟩, hdemand, -, -⟩ := eligibleDemand_spec h
  exact demandsToward_of hq hdir hdemand

theorem eligibleDemand_untracked {s : State} {f : Frame} (h : (s.tracker f).state ≠ .tracked) :
    eligibleDemand s f = none := by
  cases he : eligibleDemand s f with
  | none => rfl
  | some x =>
    obtain ⟨-, -, htracked, -⟩ := eligibleDemand_spec (dir := x.1) (d := x.2) he
    exact absurd htracked h

theorem eligibleDemand_withheld {s : State} {f : Frame} (h : (s.tracker f.other).state ≠ .tracked)
    (htoward : demandsToward s f = true) : eligibleDemand s f = none := by
  obtain ⟨-, q, hq, hdir⟩ := (demandsToward_iff s f).1 htoward
  cases he : eligibleDemand s f with
  | none => rfl
  | some x =>
    obtain ⟨⟨t, ht, htd⟩, -, -, hother⟩ := eligibleDemand_spec (dir := x.1) (d := x.2) he
    rw [hq] at ht
    cases ht
    exact absurd (hother (htd.symm.trans hdir)) h

/-! ### The zone table after the service step -/

section
variable {s : State}

theorem serviceStep_blocks (s : State) : (serviceStep s).1.ftk = s.ftk ∧ (serviceStep s).1.svt = s.svt := by
  have h := serviceStep_service s
  unfold ServiceFrame at h
  exact ⟨(congrArg State.ftk h :), (congrArg State.svt h :)⟩

theorem serviceStep_rest (s : State) (f : Frame) : frameAtRest (serviceStep s).1 f = frameAtRest s f := by
  unfold frameAtRest State.lastReport
  rw [(serviceStep_blocks s).1]

/-- The round leaves a frame that it does not serve its grant (R75). -/
theorem serviceStep_unserved (hcontended : contended s = false) {f : Frame} (hnone : servedRun s f = none) :
    (serviceStep s).1.grant f = s.grant f ∧ demand (serviceStep s).1 f = demand s f := by
  have hgrant : (serviceStep s).1.grant f = s.grant f := by
    rw [(serviceStep_grant hcontended f).1, hnone, applyServed_none]
  exact ⟨hgrant, demand_congr (serviceStep_blocks s).2 (serviceStep_blocks s).1 ((serviceStep_service s).request f) hgrant⟩

theorem holdRound_unserved (hquiet : deadlocked s = false) (hcontended : contended s = false) {f : Frame}
    (hnone : servedRun s f = none) :
    (holdRound s).grant f = s.grant f ∧ (holdRound s).request f = s.request f ∧
      (holdRound s).arb.pointer = s.arb.pointer := by
  refine ⟨?_, (holdRound_service hquiet).request f, ?_⟩
  · rw [holdRound_grant hquiet]
    exact (serviceStep_unserved hcontended hnone).1
  · rw [holdRound_arb hquiet, hcontended]
    rfl

theorem blocked_untracked {f : Frame} (h : (s.tracker f).state ≠ .tracked) : blocked s f = false := by
  unfold blocked
  split
  · simp [h]
  · rfl

theorem blocked_moving {f : Frame} (h : frameAtRest s f = false) : blocked s f = false := by
  unfold blocked
  split
  · simp [h]
  · rfl

/-- A frame is blocked by a frame that is not tracked, or by a neighbour that asks nothing of it (R80). -/
theorem blocked_of {f : Frame} (htracked : (s.tracker f).state = .tracked) (hrest : frameAtRest s f = true)
    (htoward : demandsToward s f = true)
    (hbar : (s.tracker f.other).state ≠ .tracked ∨
      nextZoneOthers s f (towardOther f) = true ∧ demandsToward s f.other = false) : blocked s f = true := by
  obtain ⟨hdemand, q, hq, hdir⟩ := (demandsToward_iff s f).1 htoward
  have hsome := Option.isSome_iff_ne_none.2 hdemand
  rw [blocked, hq]
  rcases hbar with hother | ⟨hnext, hquiet⟩
  · simp [htracked, hrest, hsome, hdir, hother]
  · simp [htracked, hrest, hsome, hdir, hnext, hquiet]

/-- Nor is a frame blocked whose tracked neighbour asks for its zones (R80). -/
theorem blocked_contested {f : Frame} (hother : (s.tracker f.other).state = .tracked)
    (htoward : demandsToward s f.other = true) : blocked s f = false := by
  unfold blocked
  split
  · simp [hother, htoward]
  · rfl

end

/-! ### Grant edge against grant edge -/

section
variable {s : State} {u l : Run} (h : Grants s u l) (hedge : u.lo = l.hi + 1) (htracked : ∀ f, (s.tracker f).state = .tracked)
  {f : Frame}
include h hedge htracked

/-- A demand toward the other frame gets nothing, edge against edge (R73). -/
theorem Grants.unserved (htoward : demandsToward s f = true) : servedRun s f = none := by
  obtain ⟨hdemand, q, hq, hdir⟩ := (demandsToward_iff s f).1 htoward
  obtain ⟨d, hd⟩ := Option.ne_none_iff_exists'.1 hdemand
  obtain ⟨heligible, honEdge⟩ := h.eligible htracked hq hd
  rw [servedRun_eq heligible, ← Option.isNone_iff_eq_none, (h.served f honEdge).2]
  exact decide_eq_true ⟨hdir, hedge⟩

/-- A frame that asks nothing of the other stays its neighbour, and asks nothing of it after the service step either. -/
theorem Grants.neighbour (htoward : demandsToward s f = true) (hquiet : demandsToward s f.other = false) :
    nextZoneOthers (serviceStep s).1 f (towardOther f) = true ∧ demandsToward (serviceStep s).1 f.other = false := by
  have hcontended : contended s = false := by
    rw [← Bool.not_eq_true]
    intro hc
    obtain ⟨d, hd⟩ := contended_toward hc f.other
    rw [eligible_toward hd] at hquiet
    cases hquiet
  have hown := (serviceStep_unserved hcontended (h.unserved hedge htracked htoward)).1.trans (h.grant f)
  have hlow := h.lowRun
  have hup := h.upRun
  have hother : (∃ o, (serviceStep s).1.grant f.other = some o ∧ o.lo ≤ (grantOf u l f.other).hi ∧
      (grantOf u l f.other).lo ≤ o.hi ∧ (f = .U → o.hi = l.hi) ∧ (f = .L → o.lo = u.lo)) ∧
        demandsToward (serviceStep s).1 f.other = false := by
    rw [(serviceStep_grant hcontended f.other).1]
    cases he : eligibleDemand s f.other with
    | none =>
      have hsame := servedRun_none he
      refine ⟨⟨grantOf u l f.other, ?_, ?_⟩, ?_⟩
      · rw [hsame, applyServed_none]
        exact h.grant f.other
      · cases f
        · exact ⟨hlow, hlow, fun _ => rfl, nofun⟩
        · exact ⟨hup, hup, nofun, fun _ => rfl⟩
      · rw [demandsToward, (serviceStep_unserved hcontended hsame).2, (serviceStep_service s).request]
        exact hquiet
    | some x =>
      obtain ⟨dir, d⟩ := x
      obtain ⟨⟨q, hq, hdir⟩, hdemand, -, -⟩ := eligibleDemand_spec he
      have haway : dir ≠ towardOther f.other := by
        rintro rfl
        rw [demandsToward_of hq hdir hdemand] at hquiet
        cases hquiet
      have honEdge := demand_onEdge hq (h.grant f.other) hdemand
      rw [hdir] at honEdge
      rw [servedRun_eq he, (h.served f.other honEdge).1]
      refine ⟨⟨_, rfl, ?_⟩, ?_⟩
      · cases f with
        | U =>
          cases dir with
          | up => exact absurd rfl haway
          | down =>
            obtain ⟨hhi, hrun⟩ := honEdge
            dsimp only [Frame.other, grantOf] at hhi
            refine ⟨?_, hlow, fun _ => rfl, nofun⟩
            change d.lo ≤ l.hi
            omega
        | L =>
          cases dir with
          | down => exact absurd rfl haway
          | up =>
            obtain ⟨hlo, hrun⟩ := honEdge
            dsimp only [Frame.other, grantOf] at hlo
            refine ⟨hup, ?_, nofun, fun _ => rfl⟩
            change u.lo ≤ d.hi
            omega
      · rw [demandsToward, (serviceStep_service s).request, hq]
        simp [hdir, haway]
  obtain ⟨⟨o, ho, hlo, hhi, hU, hL⟩, hstill⟩ := hother
  refine ⟨?_, hstill⟩
  generalize (serviceStep s).1 = t at hown ho
  cases f with
  | U =>
    have hnot : u.has (u.lo - 1) = false := by
      rw [← Bool.not_eq_true]
      simp only [Run.has, Bool.and_eq_true, decide_eq_true_eq]
      omega
    have hhas : o.has (u.lo - 1) = true := by
      have := hU rfl
      simp only [Run.has, Bool.and_eq_true, decide_eq_true_eq]
      dsimp only [Frame.other, grantOf] at hlo hhi
      omega
    have hup' : t.grant .U = some u := hown
    have hlow' : t.grant .L = some o := ho
    simp [nextZoneOthers, towardOther, hup', hlow', zoneOwner, grantHas, hnot, hhas, Frame.other]
    omega
  | L =>
    have hhas : o.has (l.hi + 1) = true := by
      have := hL rfl
      simp only [Run.has, Bool.and_eq_true, decide_eq_true_eq]
      dsimp only [Frame.other, grantOf] at hlo hhi
      omega
    have hlow' : t.grant .L = some l := hown
    have hup' : t.grant .U = some o := ho
    simp [nextZoneOthers, towardOther, hup', hlow', zoneOwner, grantHas, hhas, Frame.other]

/-- Two demands toward each other, edge against edge, leave the service step nothing to do (R73, R76). -/
theorem Grants.standoff (htoward : ∀ f, demandsToward s f = true) :
    contended s = false ∧ (serviceStep s).1 = s := by
  obtain ⟨hdemandU, qu, hqu, hdirU⟩ := (demandsToward_iff s .U).1 (htoward .U)
  obtain ⟨hdemandL, ql, hql, hdirL⟩ := (demandsToward_iff s .L).1 (htoward .L)
  obtain ⟨a, ha⟩ := Option.ne_none_iff_exists'.1 hdemandU
  obtain ⟨b, hb⟩ := Option.ne_none_iff_exists'.1 hdemandL
  obtain ⟨heU, honU⟩ := h.eligible htracked hqu ha
  obtain ⟨heL, honL⟩ := h.eligible htracked hql hb
  have hcontended : contended s = false := by
    rw [← Bool.not_eq_true, contended_iff heU heL]
    rintro ⟨hu, hl, -, hmeet⟩
    rw [hu] at honU
    rw [hl] at honL
    obtain ⟨hhi, -⟩ := honU
    obtain ⟨hlo, -⟩ := honL
    dsimp only [grantOf] at hhi hlo
    omega
  refine ⟨hcontended, ?_⟩
  rw [serviceStep_apart hcontended, h.unserved hedge htracked (htoward .U), h.unserved hedge htracked (htoward .L)]
  rfl

end

/-! ### The statement -/

/-- The rounds over two TRACKED frames with a FREE zone between their grants (R75 to R77). -/
theorem roundsServe {u l : Run} {s : State} (hu : s.grant .U = some u) (hl : s.grant .L = some l)
    (hupRun : u.lo ≤ u.hi) (hlowRun : l.lo ≤ l.hi) (hgap : l.hi + 1 < u.lo)
    (htracked : ∀ f, (s.tracker f).state = .tracked) {qu ql : Travel} {a b : Run}
    (hqu : s.request .U = some qu) (hql : s.request .L = some ql) (hdirU : qu.dir = .down) (hdirL : ql.dir = .up)
    (ha : demand s .U = some a) (hb : demand s .L = some b) (hmeet : a.lo ≤ b.hi) :
    (holdRound s).arb.pointer = s.arb.advance.pointer ∧
      (pointedFrame s.arb = .U →
        (holdRound s).grant .U = some ⟨max a.lo (l.hi + 1), u.hi⟩ ∧
          (holdRound s).grant .L = some ⟨l.lo, min b.hi (max a.lo (l.hi + 1) - 1)⟩) ∧
      (pointedFrame s.arb = .L →
        (holdRound s).grant .L = some ⟨l.lo, min b.hi (u.lo - 1)⟩ ∧
          (holdRound s).grant .U = some ⟨max a.lo (min b.hi (u.lo - 1) + 1), u.hi⟩) ∧
      (holdRound s).arb.blockedReported = s.arb.blockedReported := by
  have h : Grants s u l := ⟨hu, hl, hupRun, hlowRun, by omega⟩
  obtain ⟨hedgeU, hrunU⟩ : OnEdge u .down a := hdirU ▸ demand_onEdge hqu hu ha
  obtain ⟨hedgeL, hrunL⟩ : OnEdge l .up b := hdirL ▸ demand_onEdge hql hl hb
  have hfirstU (hf : pointedFrame s.arb = .U) := h.round_contended htracked hgap hqu hql ha hb hdirU hdirL hmeet hf hqu ha
    hql hb (u' := ⟨max a.lo (l.hi + 1), u.hi⟩) (l' := l) fun t ht hother => by
      rw [hdirU] at ht
      exact ⟨ht, hother.trans hl, by dsimp only; omega, hlowRun, by dsimp only; omega⟩
  have hfirstL (hf : pointedFrame s.arb = .L) := h.round_contended htracked hgap hqu hql ha hb hdirU hdirL hmeet hf hql hb
    hqu ha (u' := u) (l' := ⟨l.lo, min b.hi (u.lo - 1)⟩) fun t ht hother => by
      rw [hdirL] at ht
      exact ⟨hother.trans hu, ht, hupRun, by dsimp only; omega, by dsimp only; omega⟩
  rw [hdirU, hdirL] at hfirstU hfirstL
  have harb : (holdRound s).arb = s.arb.advance := by
    cases hf : pointedFrame s.arb with
    | U => exact (hfirstU hf).2.2
    | L => exact (hfirstL hf).2.2
  refine ⟨by rw [harb], fun hf => ?_, fun hf => ?_, by rw [harb]; rfl⟩
  · obtain ⟨hU, hL, -⟩ := hfirstU hf
    exact ⟨hU, hL⟩
  · obtain ⟨hL, hU, -⟩ := hfirstL hf
    exact ⟨hL, hU⟩

/-- Settles O44: the service of the free extents, and the frames that are left without zones. -/
theorem aRoundServesTheFreeExtents : Obligations.ARoundServesTheFreeExtents := by
  refine ⟨fun u l s hu hl hupRun hlowRun hgap htracked => ?_, fun f s => ?_⟩
  · have h : Grants s u l := ⟨hu, hl, hupRun, hlowRun, by omega⟩
    refine ⟨fun q a hq hdir ha hnone => ?_, fun q a hq hdir ha hnone => ?_, fun q b hq hdir hb hnone => ?_,
      fun q b hq hdir hb hnone => ?_, fun qu ql a b hqu hql ha hb hapart => ?_,
      fun qu ql a b hqu hql hdirU hdirL ha hb hmeet => roundsServe hu hl hupRun hlowRun hgap htracked hqu hql hdirU hdirL
        ha hb hmeet⟩
    · have hround := h.round_single htracked hgap (f := .U) hq ha hnone
      rwa [hdir] at hround
    · have hround := h.round_single htracked hgap (f := .U) hq ha hnone
      rwa [hdir] at hround
    · have hround := h.round_single htracked hgap (f := .L) hq hb hnone
      rwa [hdir] at hround
    · have hround := h.round_single htracked hgap (f := .L) hq hb hnone
      rwa [hdir] at hround
    · obtain ⟨hU, hL, harb⟩ := h.round_both htracked hgap hqu hql ha hb hapart
      refine ⟨hU.trans (congrArg some ?_), hL.trans (congrArg some ?_), harb⟩
      · cases qu.dir <;> rfl
      · cases ql.dir <;> rfl
  · intro unserved was silent told rests asks edgeToEdge
    have hasks (g : Frame) : asks g ↔ demandsToward s g = true := (demandsToward_iff s g).symm
    have hrests (g : Frame) : rests g ↔ frameAtRest s g = true := (frameAtRest_iff s g).symm
    have hftk := (serviceStep_blocks s).1
    have htold (hquiet : deadlocked s = false) (hcontended : contended s = false) (hnone : servedRun s f = none)
        (htracked : (s.tracker f).state = .tracked) (htoward : demandsToward s f = true)
        (hbar : (s.tracker f.other).state ≠ .tracked ∨ nextZoneOthers (serviceStep s).1 f (towardOther f) = true ∧
          demandsToward (serviceStep s).1 f.other = false) (hrest : rests f) : told := by
      refine holdRound_told hquiet hcontended hnone (blocked_of ?_ ?_ ?_ ?_)
      · rw [tracker_of_ftk hftk]
        exact htracked
      · rw [serviceStep_rest]
        exact (hrests f).1 hrest
      · rw [demandsToward, (serviceStep_unserved hcontended hnone).2, (serviceStep_service s).request]
        exact htoward
      · rw [tracker_of_ftk hftk]
        exact hbar
    refine ⟨fun hstate => ?_, fun hmoving => ?_, fun hstate hother ha => ?_, fun htracked he ha hno => ?_,
      fun htracked he ha ha' hmoving => ?_⟩
    · have hquiet : deadlocked s = false := by
        rw [← Bool.not_eq_true]
        exact fun hd => hstate (deadlocked_spec hd f).1
      have hnone := eligibleDemand_untracked hstate
      refine ⟨holdRound_unserved hquiet (contended_of_none hnone) (servedRun_none hnone),
        holdRound_silent hquiet (blocked_untracked ?_)⟩
      rw [tracker_of_ftk hftk]
      exact hstate
    · rw [hrests, Bool.not_eq_true] at hmoving
      have hquiet : deadlocked s = false := by
        rw [← Bool.not_eq_true]
        exact fun hd => Bool.false_ne_true (hmoving.symm.trans (deadlocked_spec hd f).2.1)
      exact holdRound_silent hquiet (blocked_moving (by rw [serviceStep_rest]; exact hmoving))
    · have htoward := (hasks f).1 ha
      have hquiet : deadlocked s = false := by
        rw [← Bool.not_eq_true]
        exact fun hd => hother (deadlocked_spec hd f.other).1
      have hnone := eligibleDemand_withheld hother htoward
      exact ⟨holdRound_unserved hquiet (contended_of_none hnone) (servedRun_none hnone),
        htold hquiet (contended_of_none hnone) (servedRun_none hnone) hstate htoward (.inl hother)⟩
    · obtain ⟨u, l, hu, hl, hupRun, hlowRun, hedge⟩ := he
      have h : Grants s u l := ⟨hu, hl, hupRun, hlowRun, by omega⟩
      have htoward := (hasks f).1 ha
      have hother : demandsToward s f.other = false := by
        rw [← Bool.not_eq_true]
        exact fun hd => hno ((hasks f.other).2 hd)
      have hquiet : deadlocked s = false := by
        rw [← Bool.not_eq_true]
        exact fun hd => Bool.false_ne_true (hother.symm.trans (deadlocked_spec hd f.other).2.2)
      have hcontended : contended s = false := by
        rw [← Bool.not_eq_true]
        intro hc
        obtain ⟨d, hd⟩ := contended_toward hc f.other
        exact Bool.false_ne_true (hother.symm.trans (eligible_toward hd))
      have hnone := h.unserved hedge htracked htoward
      exact ⟨holdRound_unserved hquiet hcontended hnone,
        htold hquiet hcontended hnone (htracked f) htoward (.inr (h.neighbour hedge htracked htoward hother))⟩
    · obtain ⟨u, l, hu, hl, hupRun, hlowRun, hedge⟩ := he
      have h : Grants s u l := ⟨hu, hl, hupRun, hlowRun, by omega⟩
      have htoward : ∀ g, demandsToward s g = true := fun g => by
        by_cases hg : g = f
        · exact hg ▸ (hasks f).1 ha
        · exact Frame.eq_other_of_ne hg ▸ (hasks f.other).1 ha'
      have hquiet : deadlocked s = false := by
        rw [← Bool.not_eq_true]
        exact fun hd => hmoving ⟨(hrests f).2 (deadlocked_spec hd f).2.1, (hrests f.other).2 (deadlocked_spec hd f.other).2.1⟩
      obtain ⟨hcontended, hsame⟩ := h.standoff hedge htracked htoward
      refine ⟨holdRound_unserved hquiet hcontended (h.unserved hedge htracked (htoward f)), holdRound_silent hquiet ?_⟩
      rw [hsame]
      exact blocked_contested (htracked f.other) (htoward f.other)

end Sys2Proof.Machine
end

section
/-! SUPPORT. O50: the loss of a mass, and the end of a transfer that fails. -/

namespace Sys2Proof.Machine

/-! ### Mass records (R86 to R88) -/

theorem putMass_mass_all {id : Nat} (r : Mass) (s : State) (h1 : 1 ≤ id) (h2 : id ≤ 40) (j : Nat) :
    (putMass id r s).mass j = if j = id then r else s.mass j := by
  by_cases hj : j = 0
  · subst hj
    rw [if_neg (by omega)]
    rfl
  · exact putMass_mass id j r s h1 h2 (Nat.one_le_iff_ne_zero.2 hj)

theorem putMass_inv (id : Nat) (r : Mass) (s : State) : (putMass id r s).inv.verified = s.inv.verified ∧
    (putMass id r s).inv.landings = s.inv.landings ∧ (putMass id r s).inv.save = s.inv.save ∧
    (putMass id r s).inv.carriedWaiters = s.inv.carriedWaiters ∧ (putMass id r s).inv.nextWaiters = s.inv.nextWaiters ∧
    (putMass id r s).sti = s.sti := by
  rw [putMass_frame]
  exact ⟨rfl, rfl, rfl, rfl, rfl, rfl⟩

/-- A save request leaves the records (R92). -/
theorem saveRequest_inv (w : List Waiter) (s : State) : (saveRequest w s).inv.masses = s.inv.masses ∧
    (saveRequest w s).inv.bays = s.inv.bays ∧ (saveRequest w s).inv.landings = s.inv.landings ∧
    (saveRequest w s).inv.verified = s.inv.verified ∧ (saveRequest w s).inv.storedKJ = s.inv.storedKJ := by
  rw [saveRequest_frame]
  exact ⟨rfl, rfl, rfl, rfl, rfl⟩

theorem setVerified_inv (v : Bool) (s : State) : (setVerified v s).inv = { s.inv with verified := v } := by
  rw [setVerified_frame]

/-- The record of a mass that is lost (R88). -/
def Mass.lost (r : Mass) : Mass :=
  { r with state := .unaccounted, bay := none, frame := none, landing := none }

theorem loseMass_spec {id : Nat} (h1 : 1 ≤ id) (h2 : id ≤ 40) (s : State) (j : Nat) :
    (loseMass id s).mass j = if j = id then (s.mass id).lost else s.mass j := by
  have hput := putMass_mass_all (s.mass id).lost s h1 h2 j
  rw [← hput]
  refine mass_of_masses ?_ j
  exact (saveRequest_inv [] _).1.trans (congrArg Inv.masses (setVerified_inv false _) :)

theorem loseMass_inv (id : Nat) (s : State) :
    (loseMass id s).inv.verified = false ∧ (loseMass id s).inv.landings = s.inv.landings := by
  obtain ⟨-, -, hlandings, hverified, -⟩ := saveRequest_inv [] (setVerified false (putMass id (s.mass id).lost s))
  have hset := setVerified_inv false (putMass id (s.mass id).lost s)
  have hput := (putMass_inv id (s.mass id).lost s).2.1
  exact ⟨hverified.trans (congrArg Inv.verified hset),
    hlandings.trans ((congrArg Inv.landings hset).trans hput)⟩

/-! ### The step difference of a task (R97, R118) -/

theorem forTask_task {id : Nat} {change : State → State} {s : State} (h : InventoryFrame s (change s)) (j : Nat) :
    ∃ d, (forTask id change s).task j = { s.task j with delta := d } := by
  unfold InventoryFrame at h
  have htku : (change s).tku = s.tku := (congrArg State.tku h :)
  have hsame (i : Nat) : (change s).task i = s.task i := by rw [State.task, htku, State.task]
  rw [forTask, addDelta, State.task_setTask, hsame, hsame]
  split
  · next hj =>
    rw [hj.1]
    exact ⟨_, rfl⟩
  · exact ⟨_, rfl⟩

theorem forTask_collections {id : Nat} {change : State → State} {s : State} (h : InventoryFrame s (change s)) :
    (forTask id change s).tku.queues = s.tku.queues ∧ (forTask id change s).tku.completion = s.tku.completion ∧
      (forTask id change s).tku.free = s.tku.free := by
  unfold InventoryFrame at h
  have htku : (change s).tku = s.tku := (congrArg State.tku h :)
  have hset : (forTask id change s).tku = { (change s).tku with tasks := (forTask id change s).tku.tasks } := rfl
  rw [hset, htku]
  exact ⟨rfl, rfl, rfl⟩

/-! ### The end of a failed transfer (R140, R144) -/

theorem clearContext_transfer_get (f g : Frame) (r : TransferResult) (s : State) :
    (clearContext f r s).transfer g = if g = f then none else s.transfer g := Pair.get_set _ _ _ _

theorem clearContext_result (f : Frame) (r : TransferResult) (s : State) :
    (clearContext f r s).xfc.lastResult.get f = some r := Pair.get_set_self _ _ _

/-- The ending of a task leaves every other block, and of INV all but the reservations (R121). -/
theorem EndFrame.keeps {s t : State} (h : EndFrame s t) : t.xfc = s.xfc ∧ t.ftk = s.ftk ∧ t.mdc = s.mdc ∧
    t.gru = s.gru ∧ t.sti = s.sti ∧ t.inv.verified = s.inv.verified ∧ t.inv.landings = s.inv.landings ∧
    t.inv.save = s.inv.save := by
  unfold EndFrame at h
  exact ⟨(congrArg State.xfc h :), (congrArg State.ftk h :), (congrArg State.mdc h :), (congrArg State.gru h :),
    (congrArg State.sti h :), (congrArg (fun u => u.inv.verified) h :), (congrArg (fun u => u.inv.landings) h :),
    (congrArg (fun u => u.inv.save) h :)⟩

/-- The end of a failed transfer is a trip and the ending of its task (R140, R144). -/
theorem endFailed_end (f : Frame) (x : Transfer) (c : Cause) (s : State) :
    EndFrame (tripForCause f c (clearContext f (x.result .failed c false) s)) (endFailed f x c s) := by
  unfold endFailed
  exact EndFrame.raiseOn (failTask_frame x.task (causeTaskReason c) _) _ _

section
variable (f : Frame) (x : Transfer) (c : Cause) (s : State)

theorem tripForCause_keeps : (tripForCause f c s).xfc = s.xfc ∧ (tripForCause f c s).inv = s.inv ∧
    (tripForCause f c s).tku = s.tku ∧ (tripForCause f c s).gru = s.gru ∧ (tripForCause f c s).sti = s.sti := by
  unfold tripForCause
  split
  · rw [trip_frame]
    exact ⟨rfl, rfl, rfl, rfl, rfl⟩
  · exact ⟨rfl, rfl, rfl, rfl, rfl⟩

/-- What the end of a failed transfer leaves of every block. -/
theorem endFailed_blocks :
    (endFailed f x c s).xfc = (clearContext f (x.result .failed c false) s).xfc ∧
    (endFailed f x c s).ftk = (tripForCause f c s).ftk ∧ (endFailed f x c s).mdc = (tripForCause f c s).mdc ∧
    (endFailed f x c s).gru = s.gru ∧ (endFailed f x c s).sti = s.sti ∧
    (endFailed f x c s).inv.verified = s.inv.verified ∧ (endFailed f x c s).inv.landings = s.inv.landings ∧
    (endFailed f x c s).inv.save = s.inv.save := by
  have h := endFailed_end f x c s
  obtain ⟨hxfc, hinv, -, hgru, hsti⟩ := tripForCause_keeps f c (clearContext f (x.result .failed c false) s)
  have htrip : (tripForCause f c (clearContext f (x.result .failed c false) s)).ftk = (tripForCause f c s).ftk ∧
      (tripForCause f c (clearContext f (x.result .failed c false) s)).mdc = (tripForCause f c s).mdc := by
    unfold tripForCause
    split
    · next r _ =>
      have hcleared := trip_frame f r.bit (clearContext f (x.result .failed c false) s)
      have hplain := trip_frame f r.bit s
      exact ⟨(congrArg State.ftk hcleared :).trans (congrArg State.ftk hplain :).symm,
        (congrArg State.mdc hcleared :).trans (congrArg State.mdc hplain :).symm⟩
    · exact ⟨rfl, rfl⟩
  obtain ⟨hxfc', hftk, hmdc, hgru', hsti', hverified, hlandings, hsave⟩ := h.keeps
  have hinv' : (tripForCause f c (clearContext f (x.result .failed c false) s)).inv = s.inv := hinv
  rw [hinv'] at hverified hlandings hsave
  exact ⟨hxfc'.trans hxfc, hftk.trans htrip.1, hmdc.trans htrip.2, hgru'.trans hgru, hsti'.trans hsti, hverified,
    hlandings, hsave⟩

theorem endFailed_mass (j : Nat) : ∃ n, (endFailed f x c s).mass j = { s.mass j with task := n } :=
  (endFailed_untouched f x c s).mass j

theorem endFailed_flag {w : PortId} (hw : (s.port w).role = winderRole f) :
    ((endFailed f x c s).port w).flags.getLsbD 7 = true := by
  have hcleared : Steady s (clearContext f (x.result .failed c false) s) := .of_blocks rfl
  have hsteady := (hcleared.trans (tripForCause_steady f c _)).trans (failTask_steady x.task (causeTaskReason c) _)
  unfold endFailed
  refine flag_raiseOn ?_ rfl
  rw [beq_iff_eq]
  exact (hsteady.port w).role.trans hw

/-- The task of a failed transfer ends FAILED with its cause (R120, R121). -/
theorem endFailed_task (hpool : PoolPartitioned s) (htask : x.task ∈ s.tku.queues.get f) :
    ((endFailed f x c s).task x.task).phase = .failed ∧
      ((endFailed f x c s).task x.task).reasons = (s.task x.task).reasons ||| causeTaskReason c |||
        (if (s.task x.task).cancelPending then 0x0001 else 0) ∧
      (endFailed f x c s).tku.completion = s.tku.completion ++ [x.task] := by
  obtain ⟨hid, hnodup, -⟩ := pool_disjoint hpool f htask
  have htku := (tripForCause_keeps f c (clearContext f (x.result .failed c false) s)).2.2.1
  have hlive := liveIn_of_pool hpool htask
  obtain ⟨r, hr, hended⟩ : ∃ r, r = (if (s.task x.task).cancelPending then causeTaskReason c ||| 0x0001
      else causeTaskReason c) ∧ endFailed f x c s = (endTask x.task .failed true
        (addTaskReasons x.task r (tripForCause f c (clearContext f (x.result .failed c false) s)))).raiseWinder f
          .transferEnded := by
    refine ⟨_, rfl, ?_⟩
    unfold endFailed failTask
    dsimp only
    rw [State.task, htku]
    rfl
  have hreasoned : (addTaskReasons x.task r (tripForCause f c (clearContext f (x.result .failed c false) s))).task x.task =
      { s.task x.task with reasons := (s.task x.task).reasons ||| r } := by
    rw [addTaskReasons_task hid, if_pos rfl, State.task, htku]
    rfl
  have hlive' : liveIn (addTaskReasons x.task r (tripForCause f c (clearContext f (x.result .failed c false) s))) x.task =
      some f := by
    rw [liveIn] at hlive ⊢
    have hqueues : (addTaskReasons x.task r (tripForCause f c (clearContext f (x.result .failed c false) s))).tku.queues =
        s.tku.queues := (congrArg Tku.queues htku :)
    rw [hqueues]
    exact hlive
  have hgone : x.task ∉ ((addTaskReasons x.task r (tripForCause f c
      (clearContext f (x.result .failed c false) s))).tku.queues.get f).erase x.task := by
    have hqueues : (addTaskReasons x.task r (tripForCause f c (clearContext f (x.result .failed c false) s))).tku.queues =
        s.tku.queues := (congrArg Tku.queues htku :)
    rw [hqueues]
    exact hnodup.not_mem_erase
  have hself := endTask_task_self hlive' hid .failed (next := true) fun _ => hgone
  obtain ⟨hcompletion, -, -⟩ := endTask_collections x.task .failed true _ hlive'
  have hcompletion' : (addTaskReasons x.task r (tripForCause f c
      (clearContext f (x.result .failed c false) s))).tku.completion = s.tku.completion := (congrArg Tku.completion htku :)
  rw [hended]
  refine ⟨?_, ?_, hcompletion.trans (by rw [hcompletion'])⟩
  · exact congrArg Task.phase hself
  · refine (congrArg Task.reasons hself).trans ?_
    rw [endedTask, hreasoned, hr]
    cases (s.task x.task).cancelPending with
    | true => exact (BitVec.or_assoc _ _ _).symm
    | false => exact BitVec.or_zero.symm

end

end Sys2Proof.Machine
end

section
/-! SUPPORT. O50: a transfer that fails while its gear runs. -/

namespace Sys2Proof.Machine

/-! ### The blocks beside INV and TKU -/

theorem InventoryFrame.keeps {s t : State} (h : InventoryFrame s t) : t.xfc = s.xfc ∧ t.ftk = s.ftk ∧ t.mdc = s.mdc ∧
    t.gru = s.gru ∧ t.tku = s.tku ∧ t.svt = s.svt := by
  unfold InventoryFrame at h
  exact ⟨(congrArg State.xfc h :), (congrArg State.ftk h :), (congrArg State.mdc h :), (congrArg State.gru h :),
    (congrArg State.tku h :), (congrArg State.svt h :)⟩

theorem forTask_keeps {id : Nat} {change : State → State} {s : State} (h : InventoryFrame s (change s)) :
    (forTask id change s).xfc = s.xfc ∧ (forTask id change s).ftk = s.ftk ∧ (forTask id change s).mdc = s.mdc ∧
      (forTask id change s).gru = s.gru ∧ (forTask id change s).svt = s.svt := by
  obtain ⟨hxfc, hftk, hmdc, hgru, -, hsvt⟩ := h.keeps
  exact ⟨hxfc, hftk, hmdc, hgru, hsvt⟩

theorem saveRequestIf_inv (b : Bool) (s : State) : (saveRequestIf b s).inv.masses = s.inv.masses ∧
    (saveRequestIf b s).inv.bays = s.inv.bays ∧ (saveRequestIf b s).inv.landings = s.inv.landings ∧
    (saveRequestIf b s).inv.verified = s.inv.verified ∧ (saveRequestIf b s).inv.storedKJ = s.inv.storedKJ := by
  unfold saveRequestIf
  split
  · exact saveRequest_inv [] s
  · exact ⟨rfl, rfl, rfl, rfl, rfl⟩

theorem setLandingInService_inv (k : Nat) (v : Bool) (s : State) :
    (setLandingInService k v s).inv.masses = s.inv.masses ∧
      (setLandingInService k v s).inv.verified = s.inv.verified ∧
      (setLandingInService k v s).inv.landings = s.inv.landings.set k { s.landing k with inService := v } := by
  obtain ⟨hmasses, -, hlandings, hverified, -⟩ := saveRequestIf_inv ((s.landing k).inService != v)
    (s.setLanding k { s.landing k with inService := v })
  exact ⟨hmasses, hverified, hlandings⟩

theorem landing_of_landings {s t : State} (h : t.inv.landings = s.inv.landings) (k : Nat) : t.landing k = s.landing k := by
  rw [State.landing, h, State.landing]

/-! ### A transfer that fails while its gear runs (R140) -/

/-- What a failure changes before the transfer ends: the mass is lost, the landing out of service, and after a timeout
marked (R140, R141). -/
def failing (x : Transfer) (c : Cause) (s : State) : State :=
  let t := setLandingInService x.landing false (forTask x.task (loseMass x.mass) s)
  if c = .transferTimeout then setTimedOut x.landing true t else t

theorem failRunning_eq {s : State} {f : Frame} {x : Transfer} (hx : s.transfer f = some x) (c : Cause) :
    failRunning f c s = endFailed f x c (failing x c s) := by
  rw [failRunning, hx]
  rfl

theorem failVerifying_eq {s : State} {f : Frame} {x : Transfer} (hx : s.transfer f = some x) (c : Cause) :
    failVerifying f c s = endFailed f x c (forTask x.task (loseMass x.mass) s) := by
  rw [failVerifying, hx]

section
variable (x : Transfer) (c : Cause) (s : State)

/-- The failure's step on the landing, which the marker of a timeout follows. -/
theorem failing_eq : failing x c s = { setLandingInService x.landing false (forTask x.task (loseMass x.mass) s) with
    xfc := (failing x c s).xfc } := by
  unfold failing
  dsimp only
  split <;> rfl

theorem failing_blocks : (failing x c s).ftk = s.ftk ∧ (failing x c s).mdc = s.mdc ∧ (failing x c s).gru = s.gru ∧
    (failing x c s).svt = s.svt ∧ (failing x c s).xfc = { s.xfc with
      timedOut := if c = .transferTimeout then s.xfc.timedOut.set x.landing true else s.xfc.timedOut } := by
  obtain ⟨hxfc, hftk, hmdc, hgru, hsvt⟩ := forTask_keeps (id := x.task) (loseMass_inventory x.mass s)
  obtain ⟨hxfc', hftk', hmdc', hgru', -, hsvt'⟩ :=
    (setLandingInService_inventory x.landing false (forTask x.task (loseMass x.mass) s)).keeps
  have hmark : (failing x c s).xfc = { s.xfc with
      timedOut := if c = .transferTimeout then s.xfc.timedOut.set x.landing true else s.xfc.timedOut } := by
    have hsame := hxfc'.trans hxfc
    unfold failing
    dsimp only
    split
    · unfold setTimedOut
      rw [hsame]
      rfl
    · exact hsame
  have heq := failing_eq x c s
  have hf : (failing x c s).ftk = _ := (congrArg State.ftk heq :)
  have hm : (failing x c s).mdc = _ := (congrArg State.mdc heq :)
  have hg : (failing x c s).gru = _ := (congrArg State.gru heq :)
  have hs : (failing x c s).svt = _ := (congrArg State.svt heq :)
  exact ⟨hf.trans (hftk'.trans hftk), hm.trans (hmdc'.trans hmdc), hg.trans (hgru'.trans hgru), hs.trans (hsvt'.trans hsvt),
    hmark⟩

theorem failing_inv : (failing x c s).inv.verified = false ∧
    (failing x c s).inv.landings = s.inv.landings.set x.landing { s.landing x.landing with inService := false } ∧
    (failing x c s).inv.masses = (loseMass x.mass s).inv.masses := by
  obtain ⟨hverified, hlandings⟩ := loseMass_inv x.mass s
  have hsame : (forTask x.task (loseMass x.mass) s).inv = (loseMass x.mass s).inv := rfl
  have hlanding : (forTask x.task (loseMass x.mass) s).landing x.landing = s.landing x.landing :=
    landing_of_landings hlandings _
  obtain ⟨hmasses', hverified', hlandings'⟩ :=
    setLandingInService_inv x.landing false (forTask x.task (loseMass x.mass) s)
  have heq := failing_eq x c s
  have hi : (failing x c s).inv = _ := (congrArg State.inv heq :)
  rw [hi]
  rw [hsame] at hmasses' hverified' hlandings'
  refine ⟨hverified'.trans hverified, hlandings'.trans ?_, hmasses'⟩
  rw [hlandings, hlanding]

theorem failing_tku : (failing x c s).tku = (forTask x.task (loseMass x.mass) s).tku := by
  obtain ⟨-, -, -, -, htku, -⟩ :=
    (setLandingInService_inventory x.landing false (forTask x.task (loseMass x.mass) s)).keeps
  exact (congrArg State.tku (failing_eq x c s) :).trans htku

/-- A failure leaves the queues, and of a task all but its energy delta (R118). -/
theorem failing_tasks : (failing x c s).tku.queues = s.tku.queues ∧ (failing x c s).tku.completion = s.tku.completion ∧
    (failing x c s).tku.free = s.tku.free ∧ ∀ j, ∃ d, (failing x c s).task j = { s.task j with delta := d } := by
  obtain ⟨hqueues, hcompletion, hfree⟩ := forTask_collections (id := x.task) (loseMass_inventory x.mass s)
  have htasks := forTask_task (id := x.task) (loseMass_inventory x.mass s)
  have htask (j : Nat) : (failing x c s).task j = (forTask x.task (loseMass x.mass) s).task j := by
    rw [State.task, failing_tku, State.task]
  rw [failing_tku]
  exact ⟨hqueues, hcompletion, hfree, fun j => htask j ▸ htasks j⟩

theorem failing_steady : Steady s (failing x c s) := by
  have h := (forTask_steady (loseMass_steady x.mass s) x.task).trans (setLandingInService_steady x.landing false _)
  unfold failing
  dsimp only
  split
  · exact h.trans (.of_blocks rfl)
  · exact h

end

theorem PoolPartitioned.of_collections {s t : State} (h : PoolPartitioned s) (hqueues : t.tku.queues = s.tku.queues)
    (hcompletion : t.tku.completion = s.tku.completion) (hfree : t.tku.free = s.tku.free) : PoolPartitioned t := by
  unfold PoolPartitioned at h ⊢
  rw [hqueues, hcompletion, hfree]
  exact h

/-! ### What the failure leaves -/

section
variable {s : State} {f : Frame} {x : Transfer} (hx : s.transfer f = some x) (c : Cause)
include hx

theorem failRunning_xfc : (failRunning f c s).transfer f = none ∧
    (failRunning f c s).transfer f.other = s.transfer f.other ∧
    (failRunning f c s).xfc.lastResult.get f = some (x.result .failed c false) ∧
    (failRunning f c s).xfc.lastResult.get f.other = s.xfc.lastResult.get f.other ∧
    (failRunning f c s).xfc.timedOut =
      (if c = .transferTimeout then s.xfc.timedOut.set x.landing true else s.xfc.timedOut) := by
  have hxfc := (endFailed_blocks f x c (failing x c s)).1
  have hfailing := (failing_blocks x c s).2.2.2.2
  rw [failRunning_eq hx]
  refine ⟨?_, ?_, ?_, ?_, ?_⟩
  · rw [State.transfer, hxfc]
    exact Pair.get_set_self _ _ _
  · rw [State.transfer, hxfc]
    refine (Pair.get_set_other _ _ _).trans ?_
    rw [hfailing]
    rfl
  · rw [hxfc]
    exact clearContext_result f _ _
  · rw [hxfc]
    refine (Pair.get_set_other _ _ _).trans ?_
    rw [hfailing]
  · rw [hxfc]
    exact (congrArg Xfc.timedOut hfailing :)

theorem failRunning_mass (h1 : 1 ≤ x.mass) (h2 : x.mass ≤ 40) (j : Nat) : ∃ n, (failRunning f c s).mass j =
    { (if j = x.mass then (s.mass x.mass).lost else s.mass j) with task := n } := by
  obtain ⟨n, hn⟩ := endFailed_mass f x c (failing x c s) j
  refine ⟨n, ?_⟩
  rw [failRunning_eq hx, hn, mass_of_masses (failing_inv x c s).2.2, loseMass_spec h1 h2]

theorem failRunning_inv : (failRunning f c s).inv.verified = false ∧ (failRunning f c s).inv.landings =
    s.inv.landings.set x.landing { s.landing x.landing with inService := false } := by
  obtain ⟨-, -, -, -, -, hverified, hlandings, -⟩ := endFailed_blocks f x c (failing x c s)
  obtain ⟨hverified', hlandings', -⟩ := failing_inv x c s
  rw [failRunning_eq hx]
  exact ⟨hverified.trans hverified', hlandings.trans hlandings'⟩

theorem failRunning_gru : (failRunning f c s).gru = s.gru := by
  rw [failRunning_eq hx]
  exact (endFailed_blocks f x c (failing x c s)).2.2.2.1.trans (failing_blocks x c s).2.2.1

/-- A cause with a trip reason trips the frame, and the shaft leaves RUN (R32, R140). -/
theorem failRunning_trip {r : TripReason} (hr : causeTripReason c = some r) :
    (failRunning f c s).tracker f =
        { s.tracker f with state := .tripped, reasons := (s.tracker f).reasons ||| r.bit } ∧
      (failRunning f c s).tracker f.other = s.tracker f.other ∧
      (failRunning f c s).mdc = { s.mdc with mode := if s.mdc.mode = .run then .hold else s.mdc.mode } := by
  obtain ⟨-, hftk, hmdc, -⟩ := endFailed_blocks f x c (failing x c s)
  obtain ⟨hftk', hmdc', -⟩ := failing_blocks x c s
  have htrip : tripForCause f c (failing x c s) = trip f r.bit (failing x c s) := by rw [tripForCause, hr]
  obtain ⟨hself, hother, -⟩ := trip_tracker f r.bit (failing x c s)
  rw [htrip] at hftk hmdc
  rw [failRunning_eq hx]
  refine ⟨?_, ?_, ?_⟩
  · rw [tracker_of_ftk hftk, hself, tracker_of_ftk hftk']
  · rw [tracker_of_ftk hftk, hother, tracker_of_ftk hftk']
  · rw [hmdc, trip_frame]
    dsimp only
    rw [hmdc']

theorem failRunning_task (hpool : PoolPartitioned s) (htask : x.task ∈ s.tku.queues.get f) :
    ((failRunning f c s).task x.task).phase = .failed ∧
      ((failRunning f c s).task x.task).reasons = (s.task x.task).reasons ||| causeTaskReason c |||
        (if (s.task x.task).cancelPending then 0x0001 else 0) ∧
      (failRunning f c s).tku.completion = s.tku.completion ++ [x.task] := by
  obtain ⟨hqueues, hcompletion, hfree, htasks⟩ := failing_tasks x c s
  obtain ⟨d, hd⟩ := htasks x.task
  have h := endFailed_task f x c (failing x c s) (hpool.of_collections hqueues hcompletion hfree)
    (by rw [hqueues]; exact htask)
  rw [hd, hcompletion] at h
  rw [failRunning_eq hx]
  exact h

theorem failRunning_flag {w : PortId} (hw : (s.port w).role = winderRole f) :
    ((failRunning f c s).port w).flags.getLsbD 7 = true := by
  rw [failRunning_eq hx]
  exact endFailed_flag f x c _ (((failing_steady x c s).port w).role.trans hw)

end

/-- Settles O50: the failure of a running transfer, by the edge of its gear or its timer, and what is neither. -/
theorem aGearFaultOrTimeoutFailsTheTransfer : Obligations.AGearFaultOrTimeoutFailsTheTransfer := by
  intro k f x s runs failed
  have hruns (g : Frame) : runs g ↔ runsGear s k.val g = true := runsGear_iff.symm
  have hfailed {i : Instr} {c : Cause} {r : TripReason} (hexec : exec i s = .next (failRunning f c s).drive)
      (hr : causeTripReason c = some r) (hx : s.transfer f = some x) (hk : x.landing = k.val) (h1 : 1 ≤ x.mass)
      (h2 : x.mass ≤ 40) {marked : Bool} (hmarked : (if c = .transferTimeout then s.xfc.timedOut.set x.landing true
        else s.xfc.timedOut).getD k.val false = marked) : failed i c r.bit (causeTaskReason c) marked := by
    obtain ⟨hnone, -, hresult, -, hmarks⟩ := failRunning_xfc hx c
    have hmass := failRunning_mass hx c h1 h2
    obtain ⟨hverified, hlandings⟩ := failRunning_inv hx c
    have hgru := failRunning_gru hx c
    obtain ⟨hself, hother, hmdc⟩ := failRunning_trip hx c hr
    have hlanding : ((failRunning f c s).landing k.val).inService = false := by
      rw [State.landing, hlandings, hk, Bank.getD_set, if_pos ⟨rfl, k.isLt⟩]
    have hfault := faultLine_of_tripped (s := failRunning f c s) (f := f) (by rw [hself])
    have htask := failRunning_task hx c
    have hflag := fun w hw => failRunning_flag (w := w) hx c hw
    generalize failRunning f c s = t at *
    obtain ⟨n, hn⟩ := hmass x.mass
    rw [if_pos rfl] at hn
    refine ⟨_, hexec, hnone, hresult, congrArg Mass.state hn, congrArg Mass.bay hn, congrArg Mass.frame hn,
      congrArg Mass.landing hn, fun j hj => ?_, hverified, hlanding, (congrArg (·.getD k.val false) hmarks).trans hmarked,
      congrArg Tracker.state hself, congrArg Tracker.reasons hself, hother, (congrArg Gru.grants hgru :),
      congrArg Mdc.mode hmdc, hfault, htask, fun w hw => ?_⟩
    · obtain ⟨n, hn⟩ := hmass j
      rw [if_neg hj] at hn
      exact (congrArg Mass.state hn :)
    · rw [drive_flags]
      exact hflag w hw
  refine ⟨fun hx hphase hk h1 h2 hother => ?_, fun z hx hphase hk h1 h2 hz hdue => ?_, fun z hx hz hearly => ?_,
    fun hx => ?_, fun hu hl hk => ?_, fun hu hl hk => ?_⟩
  · have hedge : gfltEdge k.val s = failRunning f .transferFault s := by
      rw [gfltEdge, gearFrame_of_runs ((hruns f).1 ⟨x, hx, hphase, hk⟩) (mt (hruns f.other).2 hother)]
    exact hfailed (i := .gfltRising k) (congrArg (fun u => Host.Outcome.next (State.drive u)) hedge) rfl hx hk h1 h2 rfl
  · have hexpires : transferExpires f s = (failRunning f .transferTimeout s).drive :=
      if_pos (by
        rw [transferDue, hx]
        simp only [hphase, hz, (timerDue_iff _ _).2 hdue]
        rfl)
    refine hfailed (i := .transferTimerExpiry f) (congrArg Host.Outcome.next hexpires) rfl hx hk h1 h2 ?_
    rw [if_pos rfl, Bank.getD_set, if_pos ⟨hk.symm, by omega⟩]
  · refine congrArg Host.Outcome.next (if_neg ?_)
    rw [transferDue, hx]
    simp only [hz, Bool.and_eq_true, timerDue_iff]
    omega
  · refine congrArg Host.Outcome.next (if_neg ?_)
    rw [transferDue, hx]
    exact Bool.false_ne_true
  · have hedge : gfltEdge k.val s = unexpectedEdge k.val false s := by
      rw [gfltEdge, gearFrame_eq_none (mt (hruns .U).2 hu) (mt (hruns .L).2 hl)]
    refine congrArg (fun u => Host.Outcome.next (State.drive u)) (hedge.trans ?_)
    exact unexpectedEdge_not_late hk nofun
  · have hedge : gfltEdge k.val s = unexpectedEdge k.val false s := by
      rw [gfltEdge, gearFrame_eq_none (mt (hruns .U).2 hu) (mt (hruns .L).2 hl)]
    exact congrArg (fun u => Host.Outcome.next (State.drive u)) (hedge.trans (unexpectedEdge_beyond false hk))

end Sys2Proof.Machine
end

section
/-! SUPPORT. O33, O51, O60: the abandonment of a transfer, and what it leaves to the other frame. -/

namespace Sys2Proof.Machine

/-! ### Mass records that an operation leaves -/

/-- A record that is put is read back where there is such a record, and every other one stays (R86). -/
theorem putMass_mass_any (id j : Nat) (r : Mass) (s : State) :
    (putMass id r s).mass j = if j = id ∧ 1 ≤ id ∧ id ≤ 40 then r else s.mass j := by
  by_cases hid : 1 ≤ id ∧ id ≤ 40
  · rw [putMass_mass_all r s hid.1 hid.2]
    simp only [hid, and_self, and_true]
  · rw [if_neg fun h => hid h.2]
    by_cases h0 : id = 0
    · rw [putMass, if_pos h0]
    · have hset : (putMass id r s).inv.masses = s.inv.masses.set (id - 1) r := by
        rw [putMass, if_neg h0]
        rfl
      unfold State.mass
      rw [hset]
      split
      · rfl
      · rw [Bank.getD_set, if_neg (by omega)]

/-- The record of a mass that goes back to the place the commit took it from (R88). -/
def Mass.restored (p : ReturnPlace) (r : Mass) : Mass :=
  match p with
  | .bay b => { r with state := .stored, bay := some b, frame := none, landing := none }
  | .frame f k => { r with state := .carried, bay := none, frame := some f, landing := some k }

theorem restoreMass_eq (id : Nat) (p : ReturnPlace) (s : State) :
    restoreMass id p s = putMass id ((s.mass id).restored p) s := by
  cases p <;> rfl

/-! ### Saves that failed (R92, R94) -/

/-- Neither state, or both, knows of a save that failed (R94). -/
def SaveAlike (s t : State) : Prop :=
  t.inv.save = .notSaved ↔ s.inv.save = .notSaved

theorem SaveAlike.of_eq {s t : State} (h : t.inv.save = s.inv.save) : SaveAlike s t := by
  unfold SaveAlike
  rw [h]

theorem SaveAlike.trans {s t u : State} (h1 : SaveAlike s t) (h2 : SaveAlike t u) : SaveAlike s u :=
  Iff.trans h2 h1

theorem saveRequest_alike (w : List Waiter) (s : State) : SaveAlike s (saveRequest w s) := by
  unfold SaveAlike
  rw [saveRequest_save]
  cases s.inv.save <;> simp

theorem saveRequestIf_alike (b : Bool) (s : State) : SaveAlike s (saveRequestIf b s) := by
  unfold saveRequestIf
  split
  · exact saveRequest_alike [] s
  · exact .of_eq rfl

theorem setLandingInService_alike (k : Nat) (v : Bool) (s : State) : SaveAlike s (setLandingInService k v s) :=
  SaveAlike.trans (t := s.setLanding k { s.landing k with inService := v }) (.of_eq rfl) (saveRequestIf_alike _ _)

theorem loseMass_alike (id : Nat) (s : State) : SaveAlike s (loseMass id s) :=
  SaveAlike.trans (.of_eq ((congrArg Inv.save (setVerified_inv false _) :).trans (putMass_inv id (s.mass id).lost s).2.2.1))
    (saveRequest_alike [] _)

/-! ### Tasks that an ending leaves (R115, R121) -/

theorem endTask_task_outside {s : State} {id j : Nat} {f : Frame} (h : liveIn s id = some f) (p : Phase) (next : Bool)
    (hj : j ∉ s.tku.queues.get f) : (endTask id p next s).task j = s.task j := by
  refine endTask_task_other h p (fun hid => hj (hid ▸ mem_queue_of_liveIn h)) fun _ _ hhead => ?_
  exact hj (List.mem_of_mem_erase (List.mem_of_head? hhead))

/-- What an operation on a task of queue f leaves: the other queue, the tasks outside queue f, the ended tasks. -/
structure QueueKept (f : Frame) (s t : State) : Prop where
  other : t.tku.queues.get f.other = s.tku.queues.get f.other
  task : ∀ j, j ∉ s.tku.queues.get f → t.task j = s.task j
  queue : ∀ j, j ∈ t.tku.queues.get f → j ∈ s.tku.queues.get f
  ended : ∀ j, j ∈ s.tku.completion → j ∈ t.tku.completion

theorem QueueKept.refl (f : Frame) (s : State) : QueueKept f s s := ⟨rfl, fun _ _ => rfl, fun _ h => h, fun _ h => h⟩

theorem QueueKept.trans {f : Frame} {s t u : State} (h1 : QueueKept f s t) (h2 : QueueKept f t u) : QueueKept f s u where
  other := h2.other.trans h1.other
  task j hj := (h2.task j fun hm => hj (h1.queue j hm)).trans (h1.task j hj)
  queue j hj := h1.queue j (h2.queue j hj)
  ended j hj := h2.ended j (h1.ended j hj)

theorem QueueKept.of_tku {f : Frame} {s t : State} (h : t.tku = s.tku) : QueueKept f s t :=
  ⟨by rw [h], fun j _ => by rw [State.task, h, State.task], fun j hj => by rwa [h] at hj, fun j hj => by rwa [h]⟩

theorem QueueKept.setTask {f : Frame} {s : State} {id : Nat} (hid : id ∈ s.tku.queues.get f) (x : Task) :
    QueueKept f s (s.setTask id x) :=
  ⟨rfl, fun j hj => (State.task_setTask s id j x).trans (if_neg fun ⟨hji, _⟩ => hj (hji ▸ hid)), fun _ h => h,
    fun _ h => h⟩

theorem QueueKept.raiseOn {f : Frame} {s t : State} (h : QueueKept f s t) (who : Role → Bool) (e : Event) :
    QueueKept f s (t.raiseOn who e) := h.trans (.of_tku rfl)

theorem endTask_queue {s : State} {id : Nat} {f : Frame} (h : liveIn s id = some f) (p : Phase) (next : Bool) :
    QueueKept f s (endTask id p next s) := by
  obtain ⟨hcompletion, hqueues, -⟩ := endTask_collections id p next s h
  refine ⟨?_, fun j hj => endTask_task_outside h p next hj, fun j hj => ?_, fun j hj => ?_⟩
  · rw [hqueues]
    exact Pair.get_set_other _ _ _
  · rw [hqueues, Pair.get_set_self] at hj
    exact List.mem_of_mem_erase hj
  · rw [hcompletion]
    exact List.mem_append_left _ hj

/-- The ending of a task of queue f, after reasons have been added to it (R119, R120). -/
theorem endWithReasons_queue {s : State} {id : Nat} {f : Frame} (hpool : PoolPartitioned s)
    (hid : id ∈ s.tku.queues.get f) (r : BitVec 16) (p : Phase) :
    QueueKept f s (endTask id p true (addTaskReasons id r s)) :=
  (QueueKept.setTask hid _).trans (endTask_queue (s := addTaskReasons id r s) (liveIn_of_pool hpool hid) p true)

theorem forTask_queue {s : State} {id : Nat} {f : Frame} (hid : id ∈ s.tku.queues.get f) {change : State → State}
    (h : InventoryFrame s (change s)) : QueueKept f s (forTask id change s) := by
  have htku := h.keeps.2.2.2.2.1
  exact (QueueKept.of_tku htku).trans (.setTask (by rw [htku]; exact hid) _)

theorem restoreTask_queue {s : State} {id : Nat} {f : Frame} (hpool : PoolPartitioned s)
    (hid : id ∈ s.tku.queues.get f) : QueueKept f s (restoreTask id f s) := by
  have hphase (p : Phase) : QueueKept f s ((setPhase id p s).raiseWinder f .taskChanged) :=
    (QueueKept.setTask hid _).raiseOn _ _
  unfold restoreTask
  split
  · dsimp only
    split
    · exact (hphase .toPickup).trans (endWithReasons_queue (s := (setPhase id .toPickup s).raiseWinder f .taskChanged)
        hpool hid _ .cancelled)
    · exact hphase .toPickup
  · exact hphase .toDrop
  · exact .refl f s

/-! ### Abandonment (R137) -/

/-- The mass of a transfer back at its place, with its step difference (R88, R97). -/
def returned (x : Transfer) (s : State) : State :=
  forTask x.task (restoreMass x.mass x.ret) s

theorem returned_blocks (x : Transfer) (s : State) : (returned x s).xfc = s.xfc ∧ (returned x s).ftk = s.ftk ∧
    (returned x s).mdc = s.mdc ∧ (returned x s).gru = s.gru ∧ (returned x s).inv.save = s.inv.save ∧
    (returned x s).inv.landings = s.inv.landings := by
  obtain ⟨hxfc, hftk, hmdc, hgru, -⟩ := forTask_keeps (id := x.task) (restoreMass_inventory x.mass x.ret s)
  obtain ⟨-, hlandings, hsave, -⟩ := putMass_inv x.mass ((s.mass x.mass).restored x.ret) s
  rw [← restoreMass_eq] at hlandings hsave
  exact ⟨hxfc, hftk, hmdc, hgru, hsave, hlandings⟩

theorem returned_mass (x : Transfer) (s : State) (j : Nat) : (returned x s).mass j =
    if j = x.mass ∧ 1 ≤ x.mass ∧ x.mass ≤ 40 then (s.mass x.mass).restored x.ret else s.mass j := by
  rw [← putMass_mass_any, ← restoreMass_eq]
  rfl

theorem returned_steady (x : Transfer) (s : State) : Steady s (returned x s) :=
  forTask_steady (restoreMass_steady x.mass x.ret s) x.task

theorem returned_tasks (x : Transfer) (s : State) : (returned x s).tku.queues = s.tku.queues ∧
    (returned x s).tku.completion = s.tku.completion ∧ (returned x s).tku.free = s.tku.free ∧
    ∀ j, ∃ d, (returned x s).task j = { s.task j with delta := d } := by
  obtain ⟨hqueues, hcompletion, hfree⟩ := forTask_collections (id := x.task) (restoreMass_inventory x.mass x.ret s)
  exact ⟨hqueues, hcompletion, hfree, forTask_task (restoreMass_inventory x.mass x.ret s)⟩

/-- The context of a transfer that is abandoned (R137). -/
def abandoned (x : Transfer) (c : Cause) : Transfer :=
  { x with phase := .abandoning, cause := c }

/-- The transfer in ABANDONING, its mass back at its place and its task in its phase, before the save (R137). -/
def abandoning (f : Frame) (x : Transfer) (c : Cause) (s : State) : State :=
  restoreTask x.task f (returned x (s.setTransfer f (some (abandoned x c))))

theorem endAbandoned_eq {s : State} {f : Frame} {x : Transfer} (hx : s.transfer f = some x) (saved : Bool) :
    endAbandoned f saved s = (clearContext f (x.result .abandoned x.cause saved) s).raiseWinder f .transferEnded := by
  rw [endAbandoned, hx]

section
variable (f : Frame) (x : Transfer) (c : Cause) (s : State)

theorem abandoning_blocks : (abandoning f x c s).xfc = (s.setTransfer f (some (abandoned x c))).xfc ∧
    (abandoning f x c s).ftk = s.ftk ∧ (abandoning f x c s).mdc = s.mdc ∧ (abandoning f x c s).gru = s.gru ∧
    (abandoning f x c s).inv.save = s.inv.save ∧ (abandoning f x c s).inv.landings = s.inv.landings := by
  obtain ⟨hxfc, hftk, hmdc, hgru, -, -, hlandings, hsave⟩ :=
    (restoreTask_frame x.task f (returned x (s.setTransfer f (some (abandoned x c))))).keeps
  obtain ⟨hxfc', hftk', hmdc', hgru', hsave', hlandings'⟩ := returned_blocks x (s.setTransfer f (some (abandoned x c)))
  exact ⟨hxfc.trans hxfc', hftk.trans hftk', hmdc.trans hmdc', hgru.trans hgru', hsave.trans hsave',
    hlandings.trans hlandings'⟩

theorem abandoning_transfer : (abandoning f x c s).transfer f = some (abandoned x c) ∧
    (abandoning f x c s).transfer f.other = s.transfer f.other := by
  have h := (abandoning_blocks f x c s).1
  constructor
  · rw [State.transfer, h]
    exact Pair.get_set_self _ _ _
  · rw [State.transfer, h]
    exact Pair.get_set_other _ _ _

theorem abandoning_mass (j : Nat) : ∃ n, (abandoning f x c s).mass j =
    { (if j = x.mass ∧ 1 ≤ x.mass ∧ x.mass ≤ 40 then (s.mass x.mass).restored x.ret else s.mass j) with task := n } := by
  obtain ⟨n, hn⟩ := (restoreTask_untouched x.task f (returned x (s.setTransfer f (some (abandoned x c))))).mass j
  refine ⟨n, hn.trans ?_⟩
  rw [returned_mass]
  rfl

theorem abandoning_steady : Steady s (abandoning f x c s) :=
  (((Steady.refl s).setTransfer f _).trans (returned_steady x _)).trans (restoreTask_steady x.task f _)

theorem abandoning_queue (hpool : PoolPartitioned s) (htask : x.task ∈ s.tku.queues.get f) :
    QueueKept f s (abandoning f x c s) := by
  have hcontext : QueueKept f s (s.setTransfer f (some (abandoned x c))) := .of_tku rfl
  have hreturned : QueueKept f (s.setTransfer f (some (abandoned x c))) (returned x (s.setTransfer f (some (abandoned x c)))) :=
    forTask_queue (s := s.setTransfer f (some (abandoned x c))) htask (restoreMass_inventory x.mass x.ret _)
  obtain ⟨hqueues, hcompletion, hfree, -⟩ := returned_tasks x (s.setTransfer f (some (abandoned x c)))
  refine (hcontext.trans hreturned).trans (restoreTask_queue ?_ ?_)
  · exact PoolPartitioned.of_collections (s := s) hpool hqueues hcompletion hfree
  · rw [hqueues]
    exact htask

/-- The task is back in its phase before the commit, or ended where a cancel was pending (R119). -/
theorem abandoning_task (hpool : PoolPartitioned s) (htask : x.task ∈ s.tku.queues.get f) :
    ((s.task x.task).phase = .unloading → ((abandoning f x c s).task x.task).phase = .toDrop) ∧
    ((s.task x.task).phase = .loading → (s.task x.task).cancelPending = false →
      ((abandoning f x c s).task x.task).phase = .toPickup) ∧
    ((s.task x.task).phase = .loading → (s.task x.task).cancelPending = true →
      ((abandoning f x c s).task x.task).phase = .cancelled ∧
      ((abandoning f x c s).task x.task).reasons = (s.task x.task).reasons ||| 0x0001 ∧
      x.task ∈ (abandoning f x c s).tku.completion) := by
  obtain ⟨hid, hnodup, -⟩ := pool_disjoint hpool f htask
  obtain ⟨hqueues, hcompletion, hfree, htasks⟩ := returned_tasks x (s.setTransfer f (some (abandoned x c)))
  obtain ⟨d, hd⟩ := htasks x.task
  have hpool' := PoolPartitioned.of_collections (s := s) hpool hqueues hcompletion hfree
  have htask' : x.task ∈ (returned x (s.setTransfer f (some (abandoned x c)))).tku.queues.get f := by
    rw [hqueues]
    exact htask
  have hnodup' : ((returned x (s.setTransfer f (some (abandoned x c)))).tku.queues.get f).Nodup := by
    rw [hqueues]
    exact hnodup
  have hold : (s.setTransfer f (some (abandoned x c))).task x.task = s.task x.task := rfl
  rw [hold] at hd
  unfold abandoning
  generalize returned x (s.setTransfer f (some (abandoned x c))) = u at hd hpool' htask' hnodup'
  have hset (p : Phase) : ((setPhase x.task p u).raiseWinder f .taskChanged).task x.task =
      { u.task x.task with phase := p } := (State.task_setTask u x.task x.task _).trans (if_pos ⟨rfl, hid⟩)
  refine ⟨fun hphase => ?_, fun hphase hno => ?_, fun hphase hyes => ?_⟩
  · have hrestore : restoreTask x.task f u = (setPhase x.task .toDrop u).raiseWinder f .taskChanged := by
      rw [restoreTask, hd]
      simp only [hphase]
    rw [hrestore, hset]
  · have hrestore : restoreTask x.task f u = (setPhase x.task .toPickup u).raiseWinder f .taskChanged := by
      rw [restoreTask, hd]
      simp only [hphase, hno, Bool.false_eq_true, if_false]
    rw [hrestore, hset]
  · have hrestore : restoreTask x.task f u = endTask x.task .cancelled true
        (addTaskReasons x.task 0x0001 ((setPhase x.task .toPickup u).raiseWinder f .taskChanged)) := by
      rw [restoreTask, hd]
      simp only [hphase, hyes, if_true]
      rfl
    have hlive : liveIn (addTaskReasons x.task 0x0001 ((setPhase x.task .toPickup u).raiseWinder f .taskChanged)) x.task =
        some f := liveIn_of_pool hpool' htask'
    have hself := endTask_task_self hlive hid .cancelled (next := true) fun _ => hnodup'.not_mem_erase
    have hreasons := addTaskReasons_task hid 0x0001 ((setPhase x.task .toPickup u).raiseWinder f .taskChanged) x.task
    rw [if_pos rfl, hset, hd] at hreasons
    rw [hrestore]
    refine ⟨congrArg Task.phase hself, ?_, ?_⟩
    · refine (congrArg Task.reasons hself).trans ?_
      rw [endedTask, hreasons]
    · rw [(endTask_collections x.task .cancelled true _ hlive).1]
      exact List.mem_append_right _ (.head _)

end

end Sys2Proof.Machine
end

section
/-! SUPPORT. O33: the entry into ABANDONING, the stop notice, and the assertion of STOP_N. -/

namespace Sys2Proof.Machine

/-! ### Entry into ABANDONING (R92, R137) -/

section
variable {s : State} {f : Frame} {x : Transfer} (hx : s.transfer f = some x) (c : Cause)
include hx

/-- Where saves can be made the transfer waits on its restore. -/
theorem enterAbandoning_open (h : s.inv.save ≠ .notSaved) :
    enterAbandoning f c s = saveRequest [⟨f, .restore⟩] (abandoning f x c s) := by
  have hsave := (abandoning_blocks f x c s).2.2.2.2.1
  rw [enterAbandoning, hx]
  exact if_neg (by
    change (abandoning f x c s).inv.save ≠ .notSaved
    rw [hsave]
    exact h)

/-- Where a save has failed the transfer ends at once. -/
theorem enterAbandoning_closed (h : s.inv.save = .notSaved) : enterAbandoning f c s =
    (clearContext f (x.result .abandoned c false) (abandoning f x c s)).raiseWinder f .transferEnded := by
  have hsave := (abandoning_blocks f x c s).2.2.2.2.1
  have hended := endAbandoned_eq (abandoning_transfer f x c s).1 false
  rw [enterAbandoning, hx]
  exact (if_pos (hsave.trans h)).trans hended

/-- What follows the abandonment leaves masses, tasks, trackers and the mode (R92, R138). -/
theorem enterAbandoning_blocks : (enterAbandoning f c s).inv.masses = (abandoning f x c s).inv.masses ∧
    (enterAbandoning f c s).tku = (abandoning f x c s).tku ∧ (enterAbandoning f c s).ftk = s.ftk ∧
    (enterAbandoning f c s).mdc = s.mdc ∧ (enterAbandoning f c s).gru = s.gru ∧
    (enterAbandoning f c s).inv.landings = s.inv.landings := by
  obtain ⟨-, hftk, hmdc, hgru, -, hlandings⟩ := abandoning_blocks f x c s
  by_cases h : s.inv.save = .notSaved
  · rw [enterAbandoning_closed hx c h]
    exact ⟨rfl, rfl, hftk, hmdc, hgru, hlandings⟩
  · obtain ⟨hmasses, -, hlandings', -⟩ := saveRequest_inv [⟨f, .restore⟩] (abandoning f x c s)
    obtain ⟨-, hftk', hmdc', hgru', htku', -⟩ := (saveRequest_inventory [⟨f, .restore⟩] (abandoning f x c s)).keeps
    rw [enterAbandoning_open hx c h]
    exact ⟨hmasses, htku', hftk'.trans hftk, hmdc'.trans hmdc, hgru'.trans hgru, hlandings'.trans hlandings⟩

theorem enterAbandoning_xfc : (s.inv.save ≠ .notSaved → (enterAbandoning f c s).transfer f = some (abandoned x c)) ∧
    (s.inv.save = .notSaved → (enterAbandoning f c s).transfer f = none ∧
      (enterAbandoning f c s).xfc.lastResult.get f = some (x.result .abandoned c false)) ∧
    (enterAbandoning f c s).transfer f.other = s.transfer f.other ∧
    (enterAbandoning f c s).xfc.lastResult.get f.other = s.xfc.lastResult.get f.other := by
  obtain ⟨hself, hother⟩ := abandoning_transfer f x c s
  have hresult : (abandoning f x c s).xfc.lastResult = s.xfc.lastResult :=
    (congrArg Xfc.lastResult (abandoning_blocks f x c s).1 :)
  by_cases h : s.inv.save = .notSaved
  · rw [enterAbandoning_closed hx c h]
    refine ⟨fun hno => absurd h hno, fun _ => ⟨Pair.get_set_self _ _ _, Pair.get_set_self _ _ _⟩,
      (Pair.get_set_other _ _ _).trans hother, (Pair.get_set_other _ _ _).trans ?_⟩
    rw [hresult]
  · have hxfc := (saveRequest_inventory [⟨f, .restore⟩] (abandoning f x c s)).keeps.1
    rw [enterAbandoning_open hx c h]
    refine ⟨fun _ => (congrArg (fun y => y.contexts.get f) hxfc).trans hself, fun hno => absurd hno h,
      (congrArg (fun y => y.contexts.get f.other) hxfc).trans hother, ?_⟩
    rw [hxfc, hresult]

theorem enterAbandoning_mass (j : Nat) : ∃ n, (enterAbandoning f c s).mass j =
    { (if j = x.mass ∧ 1 ≤ x.mass ∧ x.mass ≤ 40 then (s.mass x.mass).restored x.ret else s.mass j) with task := n } := by
  rw [mass_of_masses (enterAbandoning_blocks hx c).1]
  exact abandoning_mass f x c s j

theorem enterAbandoning_alike : SaveAlike s (enterAbandoning f c s) := by
  have hsave := SaveAlike.of_eq (abandoning_blocks f x c s).2.2.2.2.1
  by_cases h : s.inv.save = .notSaved
  · rw [enterAbandoning_closed hx c h]
    exact hsave
  · rw [enterAbandoning_open hx c h]
    exact hsave.trans (saveRequest_alike _ _)

theorem enterAbandoning_queue (hpool : PoolPartitioned s) (htask : x.task ∈ s.tku.queues.get f) :
    QueueKept f s (enterAbandoning f c s) :=
  (abandoning_queue f x c s hpool htask).trans (.of_tku (enterAbandoning_blocks hx c).2.1)

/-! ### A failure as the other frame sees it -/

theorem failRunning_mass_any (j : Nat) : ∃ n, (failRunning f c s).mass j =
    { (if j = x.mass ∧ 1 ≤ x.mass ∧ x.mass ≤ 40 then (s.mass x.mass).lost else s.mass j) with task := n } := by
  obtain ⟨n, hn⟩ := endFailed_mass f x c (failing x c s) j
  refine ⟨n, ?_⟩
  have hput : (loseMass x.mass s).mass j =
      if j = x.mass ∧ 1 ≤ x.mass ∧ x.mass ≤ 40 then (s.mass x.mass).lost else s.mass j := by
    rw [← putMass_mass_any]
    refine mass_of_masses ?_ j
    exact (saveRequest_inv [] _).1.trans (congrArg Inv.masses (setVerified_inv false _) :)
  rw [failRunning_eq hx, hn, mass_of_masses (failing_inv x c s).2.2, hput]

omit hx in
theorem failing_alike : SaveAlike s (failing x c s) := by
  have hlost : SaveAlike s (forTask x.task (loseMass x.mass) s) := loseMass_alike x.mass s
  have hlanding := hlost.trans (setLandingInService_alike x.landing false _)
  unfold SaveAlike at hlanding ⊢
  rw [failing_eq]
  exact hlanding

theorem failRunning_alike : SaveAlike s (failRunning f c s) := by
  rw [failRunning_eq hx]
  exact (failing_alike c).trans (.of_eq (endFailed_blocks f x c (failing x c s)).2.2.2.2.2.2.2)

omit hx in
theorem endFailed_queue {u : State} (hpool : PoolPartitioned u) (htask : x.task ∈ u.tku.queues.get f) :
    QueueKept f u (endFailed f x c u) := by
  obtain ⟨-, -, htku, -⟩ := tripForCause_keeps f c (clearContext f (x.result .failed c false) u)
  have hbefore : QueueKept f u (tripForCause f c (clearContext f (x.result .failed c false) u)) := .of_tku htku
  have hpool' : PoolPartitioned (tripForCause f c (clearContext f (x.result .failed c false) u)) := by
    unfold PoolPartitioned
    rw [htku]
    exact hpool
  have htask' : x.task ∈ (tripForCause f c (clearContext f (x.result .failed c false) u)).tku.queues.get f := by
    rw [htku]
    exact htask
  unfold endFailed failTask
  exact (hbefore.trans (endWithReasons_queue hpool' htask' _ .failed)).raiseOn _ _

theorem failRunning_queue (hpool : PoolPartitioned s) (htask : x.task ∈ s.tku.queues.get f) :
    QueueKept f s (failRunning f c s) := by
  obtain ⟨hqueues, hcompletion, hfree, -⟩ := failing_tasks x c s
  have hfailing : QueueKept f s (failing x c s) :=
    (forTask_queue htask (loseMass_inventory x.mass s)).trans (.of_tku (failing_tku x c s))
  rw [failRunning_eq hx]
  refine hfailing.trans (endFailed_queue c (hpool.of_collections hqueues hcompletion hfree) ?_)
  rw [hqueues]
  exact htask

end

/-! ### The stop notice (R146) -/

/-- What a transfer's end or abandonment leaves to the other frame. -/
structure Aside (f : Frame) (s t : State) : Prop where
  transfer : t.transfer f.other = s.transfer f.other
  result : t.xfc.lastResult.get f.other = s.xfc.lastResult.get f.other
  tracker : t.tracker f.other = s.tracker f.other
  save : SaveAlike s t
  mass : ∀ j, (∀ x, s.transfer f = some x → x.mass ≠ j) → ∃ n, t.mass j = { s.mass j with task := n }
  queue : PoolPartitioned s → (∀ x, s.transfer f = some x → x.task ∈ s.tku.queues.get f) → QueueKept f s t

theorem Aside.refl (f : Frame) (s : State) : Aside f s s :=
  ⟨rfl, rfl, rfl, Iff.rfl, fun _ _ => ⟨_, rfl⟩, fun _ _ => .refl f s⟩

theorem enterAbandoning_aside {s : State} {f : Frame} {x : Transfer} (hx : s.transfer f = some x) (c : Cause) :
    Aside f s (enterAbandoning f c s) := by
  obtain ⟨-, -, hother, hresult⟩ := enterAbandoning_xfc hx c
  refine ⟨hother, hresult, tracker_of_ftk (enterAbandoning_blocks hx c).2.2.1 _, enterAbandoning_alike hx c,
    fun j hj => ?_, fun hpool htask => enterAbandoning_queue hx c hpool (htask x hx)⟩
  obtain ⟨n, hn⟩ := enterAbandoning_mass hx c j
  rw [if_neg fun h => hj x hx h.1.symm] at hn
  exact ⟨n, hn⟩

theorem failRunning_aside {s : State} {f : Frame} {x : Transfer} (hx : s.transfer f = some x) {c : Cause} {r : TripReason}
    (hr : causeTripReason c = some r) : Aside f s (failRunning f c s) := by
  obtain ⟨-, hother, -, hresult, -⟩ := failRunning_xfc hx c
  refine ⟨hother, hresult, (failRunning_trip hx c hr).2.1, failRunning_alike hx c,
    fun j hj => ?_, fun hpool htask => failRunning_queue hx c hpool (htask x hx)⟩
  obtain ⟨n, hn⟩ := failRunning_mass_any hx c j
  rw [if_neg fun h => hj x hx h.1.symm] at hn
  exact ⟨n, hn⟩

theorem stopNotice_committing {s : State} {f : Frame} {x : Transfer} (hx : s.transfer f = some x)
    (hphase : x.phase = .committing) : stopNotice f s = enterAbandoning f .stop s := by
  rw [stopNotice, hx]
  simp only [hphase]

theorem stopNotice_running {s : State} {f : Frame} {x : Transfer} (hx : s.transfer f = some x)
    (hphase : x.phase = .gearRunning) : stopNotice f s = failRunning f .transferAbort s := by
  rw [stopNotice, hx]
  simp only [hphase]

theorem stopNotice_idle {s : State} {f : Frame}
    (h : ∀ x, s.transfer f = some x → x.phase ≠ .committing ∧ x.phase ≠ .gearRunning) : stopNotice f s = s := by
  unfold stopNotice
  split
  · next x hx =>
    obtain ⟨h1, h2⟩ := h x hx
    split
    · next hp => exact absurd hp h1
    · next hp => exact absurd hp h2
    · rfl
  · rfl

theorem stopNotice_aside (f : Frame) (s : State) : Aside f s (stopNotice f s) := by
  by_cases hidle : ∀ x, s.transfer f = some x → x.phase ≠ .committing ∧ x.phase ≠ .gearRunning
  · rw [stopNotice_idle hidle]
    exact .refl f s
  · push Not at hidle
    obtain ⟨x, hx, hphase⟩ := hidle
    by_cases h : x.phase = .committing
    · rw [stopNotice_committing hx h]
      exact enterAbandoning_aside hx .stop
    · rw [stopNotice_running hx (hphase h)]
      exact failRunning_aside hx rfl

/-- Outside RUN the stop notice leaves the mode (R149). -/
theorem stopNotice_mdc {s : State} (h : s.mdc.mode ≠ .run) (f : Frame) : (stopNotice f s).mdc = s.mdc := by
  unfold stopNotice
  split
  · next x hx =>
    split
    · exact (enterAbandoning_blocks hx .stop).2.2.2.1
    · rw [(failRunning_trip hx .transferAbort rfl).2.2, if_neg h]
    · rfl
  · rfl

/-! ### The assertion of STOP_N (R154) -/

/-- The state in which the stop notices are taken: condition and latch set, the shaft out of RUN (R154). -/
def stopped (s : State) : State :=
  enterHold ((s.setMdc { s.mdc with stopN := true, latch := true }).raiseWatchers .stopSeen)

theorem stopped_mdc (s : State) : (stopped s).mdc = { s.mdc with
    mode := if s.mdc.mode = .run then .hold else s.mdc.mode, stopN := true, latch := true } := by
  rw [stopped, enterHold_frame]
  rfl

theorem stopped_mode (s : State) : (stopped s).mdc.mode ≠ .run := enterHold_not_run _

theorem stopped_frame (s : State) : stopped s = { s with ports := (stopped s).ports, mdc := (stopped s).mdc } := by
  unfold stopped enterHold
  split <;> rfl

theorem stopped_steady (s : State) : Steady s (stopped s) :=
  have hlatched : Steady s (s.setMdc { s.mdc with stopN := true, latch := true }) := 
    ⟨⟨rfl, rfl, rfl, rfl, rfl, rfl, fun _ => .refl _⟩, rfl, id, fun _ => rfl, id⟩
  (hlatched.raiseWatchers .stopSeen).trans (enterHold_steady _)

theorem stopped_flag {s : State} {q : PortId} (hq : isWatcher (s.port q).role = true) :
    ((stopped s).port q).flags.getLsbD 11 = true :=
  ((enterHold_steady _).port q).flag
    (flag_raiseOn (s := s.setMdc { s.mdc with stopN := true, latch := true }) hq rfl)

/-- The notice to frame f alone, taken in a state u that differs from s in what concerns the other frame: what u has of
s, and what the state t after both notices has of the notice to f. -/
structure Noticed (f : Frame) (s u t : State) : Prop where
  transfer : u.transfer f = s.transfer f
  tracker : u.tracker f = s.tracker f
  save : SaveAlike s u
  mode : u.mdc.mode ≠ .run
  mass : ∀ j, (∀ y, s.transfer f.other = some y → y.mass ≠ j) → ∃ n, u.mass j = { s.mass j with task := n }
  pool : PoolPartitioned s → PoolPartitioned u
  queue : PoolPartitioned s → (∀ y, s.transfer f.other = some y → y.task ∈ s.tku.queues.get f.other) →
    QueueKept f.other s u
  ownTransfer : t.transfer f = (stopNotice f u).transfer f
  ownResult : t.xfc.lastResult.get f = (stopNotice f u).xfc.lastResult.get f
  ownTracker : t.tracker f = (stopNotice f u).tracker f
  ownMass : ∀ j, (∀ y, s.transfer f.other = some y → y.mass ≠ j) → ∃ n, t.mass j = { (stopNotice f u).mass j with task := n }
  ownQueue : PoolPartitioned s → (∀ y, s.transfer f.other = some y → y.task ∈ s.tku.queues.get f.other) →
    (∀ x, s.transfer f = some x → x.task ∈ s.tku.queues.get f) → QueueKept f.other (stopNotice f u) t

theorem stopped_blocks (s : State) : (stopped s).xfc = s.xfc ∧ (stopped s).ftk = s.ftk ∧ (stopped s).inv = s.inv ∧
    (stopped s).tku = s.tku := by
  rw [stopped_frame]
  exact ⟨rfl, rfl, rfl, rfl⟩

theorem stopped_pool (s : State) : PoolKept s (stopped s) := .of_tku (stopped_blocks s).2.2.2

theorem noticed_U (s : State) : Noticed .U s (stopped s) (stopNotice .L (stopNotice .U (stopped s))) := by
  obtain ⟨hxfc, hftk, hinv, htku⟩ := stopped_blocks s
  have htransfer (g : Frame) : (stopped s).transfer g = s.transfer g := congrArg (fun y => y.contexts.get g) hxfc
  have hqueues (g : Frame) : (stopped s).tku.queues.get g = s.tku.queues.get g := by rw [htku]
  have hfirst := stopNotice_aside .U (stopped s)
  have hlast := stopNotice_aside .L (stopNotice .U (stopped s))
  have hother : (stopNotice .U (stopped s)).transfer .L = s.transfer .L := hfirst.transfer.trans (htransfer .L)
  refine ⟨htransfer .U, tracker_of_ftk hftk .U, .of_eq (by rw [hinv]), stopped_mode s,
    fun j _ => ⟨_, mass_of_masses (congrArg Inv.masses hinv) j⟩, (stopped_pool s).partitioned, fun _ _ => .of_tku htku,
    hlast.transfer, hlast.result, hlast.tracker, fun j hj => hlast.mass j fun y hy => hj y (hother ▸ hy),
    fun hpool hy hx => ?_⟩
  have hpool' := (stopped_pool s).partitioned hpool
  have hkept := hfirst.queue hpool' fun x hx' => by
    rw [hqueues]
    exact hx x (htransfer .U ▸ hx')
  refine hlast.queue ((stopNotice_pool .U _).partitioned hpool') fun y hy' => ?_
  have hsame : (stopNotice .U (stopped s)).tku.queues.get .L = s.tku.queues.get .L := hkept.other.trans (hqueues .L)
  rw [hsame]
  exact hy y (hother ▸ hy')

theorem noticed_L (s : State) : Noticed .L s (stopNotice .U (stopped s)) (stopNotice .L (stopNotice .U (stopped s))) := by
  obtain ⟨hxfc, hftk, hinv, htku⟩ := stopped_blocks s
  have htransfer (g : Frame) : (stopped s).transfer g = s.transfer g := congrArg (fun y => y.contexts.get g) hxfc
  have hqueues (g : Frame) : (stopped s).tku.queues.get g = s.tku.queues.get g := by rw [htku]
  have hfirst := stopNotice_aside .U (stopped s)
  have hsave : SaveAlike s (stopped s) := .of_eq (by rw [hinv])
  refine ⟨hfirst.transfer.trans (htransfer .L), hfirst.tracker.trans (tracker_of_ftk hftk .L), hsave.trans hfirst.save,
    ?_, fun j hj => ?_, fun hpool => (stopNotice_pool .U _).partitioned ((stopped_pool s).partitioned hpool),
    fun hpool hy => ?_, rfl, rfl, rfl, fun j _ => ⟨_, rfl⟩, fun _ _ _ => .refl _ _⟩
  · rw [stopNotice_mdc (stopped_mode s)]
    exact stopped_mode s
  · obtain ⟨n, hn⟩ := hfirst.mass j fun y hy => hj y (htransfer .U ▸ hy)
    exact ⟨n, hn.trans (by rw [mass_of_masses (congrArg Inv.masses hinv)])⟩
  · have hkept : QueueKept .U s (stopped s) := .of_tku htku
    refine hkept.trans (hfirst.queue ((stopped_pool s).partitioned hpool) fun y hy' => ?_)
    rw [hqueues]
    exact hy y (htransfer .U ▸ hy')

theorem noticed (f : Frame) (s : State) : ∃ u, Noticed f s u (stopNotice .L (stopNotice .U (stopped s))) := by
  cases f with
  | U => exact ⟨_, noticed_U s⟩
  | L => exact ⟨_, noticed_L s⟩

section
variable {f : Frame} {s u t : State} (h : Noticed f s u t) {x : Transfer} (hx : s.transfer f = some x)
include h hx

theorem Noticed.committing (hphase : x.phase = .committing) :
    (s.inv.save ≠ .notSaved → t.transfer f = some (abandoned x .stop)) ∧
    (s.inv.save = .notSaved → t.transfer f = none ∧ t.xfc.lastResult.get f = some (x.result .abandoned .stop false)) := by
  have hxu := h.transfer.trans hx
  have hnotice := stopNotice_committing hxu hphase
  obtain ⟨hopen, hclosed, -⟩ := enterAbandoning_xfc hxu .stop
  have hown := h.ownTransfer
  have hresult := h.ownResult
  rw [hnotice] at hown hresult
  refine ⟨fun hsave => hown.trans (hopen (mt h.save.1 hsave)), fun hsave => ?_⟩
  obtain ⟨hnone, hlast⟩ := hclosed (h.save.2 hsave)
  exact ⟨hown.trans hnone, hresult.trans hlast⟩

theorem Noticed.committing_mass (hphase : x.phase = .committing) (h1 : 1 ≤ x.mass) (h2 : x.mass ≤ 40)
    (hother : ∀ y, s.transfer f.other = some y → y.mass ≠ x.mass) :
    ∃ n, t.mass x.mass = { (s.mass x.mass).restored x.ret with task := n } := by
  have hxu := h.transfer.trans hx
  obtain ⟨n, hn⟩ := h.ownMass x.mass hother
  obtain ⟨m, hm⟩ := h.mass x.mass hother
  obtain ⟨k, hk⟩ := enterAbandoning_mass hxu .stop x.mass
  rw [stopNotice_committing hxu hphase, hk, if_pos ⟨rfl, h1, h2⟩, hm] at hn
  refine ⟨n, hn.trans ?_⟩
  cases x.ret <;> rfl

theorem Noticed.committing_task (hphase : x.phase = .committing) (hpool : PoolPartitioned s)
    (htask : x.task ∈ s.tku.queues.get f)
    (hother : ∀ y, s.transfer f.other = some y → y.task ∈ s.tku.queues.get f.other) :
    ((s.task x.task).phase = .unloading → (t.task x.task).phase = .toDrop) ∧
    ((s.task x.task).phase = .loading → (s.task x.task).cancelPending = false → (t.task x.task).phase = .toPickup) ∧
    ((s.task x.task).phase = .loading → (s.task x.task).cancelPending = true →
      (t.task x.task).phase = .cancelled ∧ (t.task x.task).reasons = (s.task x.task).reasons ||| 0x0001 ∧
      x.task ∈ t.tku.completion) := by
  have hxu := h.transfer.trans hx
  obtain ⟨-, -, houtside, -⟩ := pool_disjoint hpool f htask
  have hbefore := h.queue hpool hother
  have hafter := h.ownQueue hpool hother fun y hy => by
    rw [hx] at hy
    cases hy
    exact htask
  have hqueue : u.tku.queues.get f = s.tku.queues.get f := by
    have hsame := hbefore.other
    rwa [Frame.other_other] at hsame
  have htask' : x.task ∈ u.tku.queues.get f := by
    rw [hqueue]
    exact htask
  have hold := hbefore.task x.task houtside
  have houtside' : x.task ∉ (stopNotice f u).tku.queues.get f.other := by
    have hsame := ((stopNotice_aside f u).queue (h.pool hpool) fun y hy => by
      rw [hxu] at hy
      cases hy
      exact htask').other
    rw [hsame]
    exact (pool_disjoint (h.pool hpool) f htask').2.2.1
  have hkept := hafter.task x.task houtside'
  have htku := (enterAbandoning_blocks hxu .stop).2.1
  obtain ⟨hunload, hload, hcancel⟩ := abandoning_task f x .stop u (h.pool hpool) htask'
  have hrecord : (enterAbandoning f .stop u).task x.task = (abandoning f x .stop u).task x.task := by
    rw [State.task, htku, State.task]
  rw [stopNotice_committing hxu hphase, hrecord] at hkept
  rw [hold] at hunload hload hcancel
  rw [hkept]
  refine ⟨hunload, hload, fun hp hc => ?_⟩
  obtain ⟨hphase', hreasons, hmem⟩ := hcancel hp hc
  refine ⟨hphase', hreasons, hafter.ended _ ?_⟩
  rw [stopNotice_committing hxu hphase, htku]
  exact hmem

theorem Noticed.running (hphase : x.phase = .gearRunning) : t.transfer f = none ∧
    t.xfc.lastResult.get f = some (x.result .failed .transferAbort false) ∧
    (t.tracker f).state = .tripped ∧ (t.tracker f).reasons = (s.tracker f).reasons ||| 0x0200 := by
  have hxu := h.transfer.trans hx
  have hnotice := stopNotice_running hxu hphase
  obtain ⟨hnone, -, hresult, -⟩ := failRunning_xfc hxu .transferAbort
  obtain ⟨hself, -⟩ := failRunning_trip hxu .transferAbort rfl
  rw [h.ownTransfer, h.ownResult, h.ownTracker, hnotice, hself, h.tracker]
  exact ⟨hnone, hresult, rfl, rfl⟩

end

/-- Settles O33: the latch and HOLD first, then the notice to each frame, which leaves what is the other's. -/
theorem aStopHoldsTheShaft : Obligations.AStopHoldsTheShaft := by
  intro s seen apartFrom
  refine ⟨fun hstop => congrArg Host.Outcome.next (if_pos hstop), fun hstop => ?_⟩
  have hexec : exec .stopNAssertion s = .next (stopNotice .L (stopNotice .U (stopped s))).drive :=
    congrArg Host.Outcome.next (if_neg (by rw [hstop]; exact Bool.false_ne_true))
  have hfirst := stopNotice_mdc (stopped_mode s) .U
  have hmdc : (stopNotice .L (stopNotice .U (stopped s))).mdc = (stopped s).mdc :=
    (stopNotice_mdc (by rw [hfirst]; exact stopped_mode s) .L).trans hfirst
  have hsteady := (stopNotice_steady .U (stopped s)).trans (stopNotice_steady .L _)
  have hidle : (∀ f x, s.transfer f = some x → x.phase ≠ .committing ∧ x.phase ≠ .gearRunning) →
      stopNotice .L (stopNotice .U (stopped s)) = stopped s := fun h => by
    have htransfer (g : Frame) : (stopped s).transfer g = s.transfer g :=
      congrArg (fun y => y.contexts.get g) (stopped_blocks s).1
    have hnotice (g : Frame) : stopNotice g (stopped s) = stopped s :=
      stopNotice_idle fun x hx => h g x (htransfer g ▸ hx)
    rw [hnotice, hnotice]
  have hnoticed := fun f => noticed f s
  generalize stopNotice .L (stopNotice .U (stopped s)) = t at *
  rw [stopped_mdc] at hmdc
  have hmode : t.mdc.mode = if s.mdc.mode = .run then .hold else s.mdc.mode := (congrArg Mdc.mode hmdc :)
  refine ⟨_, hexec, (congrArg Mdc.stopN hmdc :), (congrArg Mdc.latch hmdc :), drive_permit_off ?_, hmode,
    fun q hq => ?_, fun h => ?_, fun f x hx hphase => ?_, fun f x hx hphase => ?_⟩
  · rw [hmode]
    split
    · nofun
    · assumption
  · rw [drive_flags]
    exact (hsteady.port q).flag (stopped_flag hq)
  · rw [hidle h]
    exact apply_ite State.drive _ _ _
  · obtain ⟨u, hu⟩ := hnoticed f
    obtain ⟨hopen, hclosed⟩ := hu.committing hx hphase
    refine ⟨hopen, hclosed, fun h1 h2 hother => ?_, fun hpool htask hother => ?_⟩
    · obtain ⟨n, hn⟩ := hu.committing_mass hx hphase h1 h2 fun y hy => (hother y hy).1
      have hdriven : t.drive.mass x.mass = t.mass x.mass := rfl
      rw [hdriven, hn]
      cases x.ret <;> rfl
    · exact hu.committing_task hx hphase hpool htask fun y hy => (hother y hy).2
  · obtain ⟨u, hu⟩ := hnoticed f
    exact hu.running hx hphase

end Sys2Proof.Machine
end

section
/-! SUPPORT. O48: the checks of TRANSFER, and the commit. -/

namespace Sys2Proof.Machine

/-! ### Where a frame stands, and what its queue calls for (R29, R117) -/

/-- The first landing within LVT of a frame at rest (R29). -/
structure StandsAt (s : State) (f : Frame) (r : Report) (k : Nat) : Prop where
  report : s.lastReport f = some r
  rest : r.v.natAbs ≤ 20
  landing : k < s.svt.working.nl
  near : (r.e - s.svt.working.floor k) + (s.svt.working.floor k - r.e) ≤ s.svt.working.lvt
  first : ∀ j < k, ¬ (r.e - s.svt.working.floor j) + (s.svt.working.floor j - r.e) ≤ s.svt.working.lvt

theorem frameLanding_iff {s : State} {f : Frame} (hstate : (s.tracker f).state = .tracked) (k : Nat) :
    frameLanding s f = some k ↔ ∃ r, StandsAt s f r k := by
  rw [frameLanding, if_pos hstate]
  cases hr : s.lastReport f with
  | none => exact ⟨nofun, fun ⟨r, h⟩ => nomatch hr.symm.trans h.report⟩
  | some r =>
    dsimp only
    by_cases hv : r.v.natAbs ≤ 20
    · rw [if_pos (show r.atRest = true from decide_eq_true hv), List.find?_range_eq_some]
      simp only [List.mem_range, Bool.not_eq_true']
      constructor
      · rintro ⟨hnear, hlt, hfirst⟩
        exact ⟨r, hr, hv, hlt, of_decide_eq_true hnear, fun j hj => of_decide_eq_false (hfirst j hj)⟩
      · rintro ⟨r', h⟩
        obtain rfl : r = r' := Option.some.inj (hr.symm.trans h.report)
        exact ⟨decide_eq_true h.near, h.landing, fun j hj => decide_eq_false (h.first j hj)⟩
    · rw [if_neg (show ¬ r.atRest = true from fun h => hv (of_decide_eq_true h))]
      refine ⟨nofun, fun ⟨r', h⟩ => ?_⟩
      obtain rfl : r = r' := Option.some.inj (hr.symm.trans h.report)
      exact absurd h.rest hv

/-- The head of a queue calls for a load from its source or an unload to its destination (R117). -/
structure Calls (s : State) (f : Frame) (k : Nat) (kind : Kind) (id b : Nat) : Prop where
  head : (s.tku.queues.get f).head? = some id
  landing : s.svt.working.landingOf b = some k
  load : kind = .load → (s.task id).phase = .toPickup ∧ (s.task id).source = some b
  unload : kind = .unload → (s.task id).phase = .toDrop ∧ (s.task id).dest = b

theorem Calls.headCall {s : State} {f : Frame} {k id b : Nat} {kind : Kind} (h : Calls s f k kind id b) :
    headCall s f k = some (kind, id, (s.task id).mass, b) := by
  have hhead : s.head f = some id := h.head
  cases kind with
  | load =>
    obtain ⟨hphase, hsource⟩ := h.load rfl
    simp only [Machine.headCall, hhead, hphase, hsource, h.landing, if_true]
  | unload =>
    obtain ⟨hphase, hdest⟩ := h.unload rfl
    simp only [Machine.headCall, hhead, hphase, hdest, h.landing, if_true]

theorem calls_of_headCall {s : State} {f : Frame} {k id m b : Nat} {kind : Kind}
    (h : headCall s f k = some (kind, id, m, b)) : Calls s f k kind id b := by
  unfold headCall at h
  split at h
  · next n hn =>
    dsimp only at h
    split at h
    · next c hphase hsource =>
      split at h
      · next hlanding =>
        cases h
        exact ⟨hn, hlanding, fun _ => ⟨hphase, hsource⟩, nofun⟩
      · cases h
    · next hphase =>
      split at h
      · next hlanding =>
        cases h
        exact ⟨hn, hlanding, nofun, fun _ => ⟨hphase, rfl⟩⟩
      · cases h
    · cases h
  · cases h

/-! ### The first eight checks (R132) -/

section
variable {s : State} {f : Frame}

theorem requestTransfer_mode (h : s.mdc.mode ≠ .run) : requestTransfer f s = answer s .mode := if_pos h

theorem requestTransfer_busy (hmode : s.mdc.mode = .run) (h : s.transfer f ≠ none) :
    requestTransfer f s = answer s .busy := by
  rw [requestTransfer, if_neg (not_not.2 hmode), if_pos (by simpa [State.inFlight, Option.isSome_iff_ne_none] using h)]

theorem requestTransfer_untracked (hmode : s.mdc.mode = .run) (hidle : s.transfer f = none)
    (h : (s.tracker f).state ≠ .tracked) : requestTransfer f s = answer s .notTracked := by
  rw [requestTransfer, if_neg (not_not.2 hmode), if_neg (by simp [State.inFlight, hidle]), if_pos h]

section
variable (hmode : s.mdc.mode = .run) (hidle : s.transfer f = none) (hstate : (s.tracker f).state = .tracked)
include hmode hidle hstate

theorem requestTransfer_nowhere (h : ¬ ∃ r k, StandsAt s f r k) : requestTransfer f s = answer s .notAtLanding := by
  have hnone : frameLanding s f = none := by
    cases hk : frameLanding s f with
    | none => rfl
    | some k =>
      obtain ⟨r, hr⟩ := (frameLanding_iff hstate k).1 hk
      exact absurd ⟨r, k, hr⟩ h
  rw [requestTransfer, if_neg (not_not.2 hmode), if_neg (by simp [State.inFlight, hidle]), if_neg (not_not.2 hstate), hnone]

section
variable {r : Report} {k : Nat} (hstands : StandsAt s f r k)
include hstands

theorem requestTransfer_asking (h : s.request f ≠ none) : requestTransfer f s = answer s .travelActive := by
  have hlanding := (frameLanding_iff hstate k).2 ⟨r, hstands⟩
  rw [requestTransfer, if_neg (not_not.2 hmode), if_neg (by simp [State.inFlight, hidle]), if_neg (not_not.2 hstate),
    hlanding, hstands.report]
  exact if_pos (Option.isSome_iff_ne_none.2 h)

section
variable (hnone : s.request f = none)
include hnone

theorem requestTransfer_loose (h : r.brakeSet = false) : requestTransfer f s = answer s .notBraked := by
  have hlanding := (frameLanding_iff hstate k).2 ⟨r, hstands⟩
  rw [requestTransfer, if_neg (not_not.2 hmode), if_neg (by simp [State.inFlight, hidle]), if_neg (not_not.2 hstate),
    hlanding, hstands.report, hnone]
  exact (if_neg (by simp)).trans (if_pos (by simp [h]))

theorem requestTransfer_noCall (hbrake : r.brakeSet = true) (h : headCall s f k = none) :
    requestTransfer f s = answer s .noTask := by
  have hlanding := (frameLanding_iff hstate k).2 ⟨r, hstands⟩
  rw [requestTransfer, if_neg (not_not.2 hmode), if_neg (by simp [State.inFlight, hidle]), if_neg (not_not.2 hstate),
    hlanding, hstands.report, hnone]
  dsimp only
  rw [hbrake, h]
  rfl

theorem requestTransfer_call (hbrake : r.brakeSet = true) {kind : Kind} {id b : Nat} (h : Calls s f k kind id b) :
    requestTransfer f s = startTransfer f k r kind id (s.task id).mass b s := by
  have hlanding := (frameLanding_iff hstate k).2 ⟨r, hstands⟩
  rw [requestTransfer, if_neg (not_not.2 hmode), if_neg (by simp [State.inFlight, hidle]), if_neg (not_not.2 hstate),
    hlanding, hstands.report, hnone]
  dsimp only
  rw [hbrake, h.headCall]
  rfl

end

end

end

end

/-! ### Checks 9 to 14 (R132) -/

/-- The mass stands where the task expects it (R132, check 9). -/
def InPlace (f : Frame) (b : Nat) (x : Mass) : Kind → Prop
  | .load => x.state = .stored ∧ x.bay = some b
  | .unload => x.state = .carried ∧ x.frame = some f

/-- The frame carries nothing, or the bay is empty (R132, checks 10 and 11). -/
def Clear (s : State) (f : Frame) (b : Nat) : Kind → Prop
  | .load => ∀ j ∈ massIds, (s.mass j).namedFrame ≠ some f
  | .unload => (s.bay b).content = none

/-- The refusal of a frame that carries, or of a bay that is full. -/
def fullStatus : Kind → Status
  | .load => .frame
  | .unload => .bay

theorem massInPlace_iff (s : State) (f : Frame) (kind : Kind) (m b : Nat) :
    massInPlace s f kind m b = true ↔ InPlace f b (s.mass m) kind := by
  cases kind <;> simp [massInPlace, InPlace]

theorem massOnFrame_none_iff (s : State) (f : Frame) :
    massOnFrame s f = none ↔ ∀ j ∈ massIds, (s.mass j).namedFrame ≠ some f := by
  simp [massOnFrame, firstMass]

section
variable {s : State} {f : Frame} {kind : Kind} {m b : Nat}

theorem transferBar_mass (h : ¬ InPlace f b (s.mass m) kind) : transferBar s f kind m b = some .mass :=
  if_pos (by simpa using mt (massInPlace_iff s f kind m b).1 h)

section
variable (hplace : InPlace f b (s.mass m) kind)
include hplace

theorem transferBar_full (h : ¬ Clear s f b kind) : transferBar s f kind m b = some (fullStatus kind) := by
  rw [transferBar, (massInPlace_iff s f kind m b).2 hplace]
  cases kind with
  | load =>
    have hfull : (massOnFrame s f).isSome = true :=
      Option.isSome_iff_ne_none.2 fun hnone => h ((massOnFrame_none_iff s f).1 hnone)
    simp [hfull, fullStatus]
  | unload =>
    have hfull : (s.bay b).content.isSome = true := Option.isSome_iff_ne_none.2 h
    simp [hfull, fullStatus]

variable (hclear : Clear s f b kind)
include hclear

theorem transferBar_clear : transferBar s f kind m b =
    if !bayUsable s b then some .landing else if s.inv.save = .notSaved then some .storeFault else none := by
  rw [transferBar, (massInPlace_iff s f kind m b).2 hplace]
  cases kind with
  | load =>
    have hempty : massOnFrame s f = none := (massOnFrame_none_iff s f).2 hclear
    simp [hempty]
  | unload =>
    have hempty : (s.bay b).content = none := hclear
    simp [hempty]

end

end

/-! ### The reservation (R64, R133) -/

theorem reserveZones_taken {s : State} {f : Frame} {r g : Run} (hg : s.grant f = some g) {z : Nat}
    (hlo : (g.hull r).lo ≤ z) (hhi : z ≤ (g.hull r).hi) (hz : zoneOwner s z = some f.other) : reserveZones f r s = none := by
  rw [reserveZones, hg]
  refine if_neg fun hall => ?_
  exact (zonesFreeOrOwn_iff s f (g.hull r)).1 hall z hlo hhi hz

theorem reserveZones_granted {s : State} {f : Frame} {r g : Run} (hg : s.grant f = some g)
    (hfree : ∀ z, (g.hull r).lo ≤ z → z ≤ (g.hull r).hi → zoneOwner s z ≠ some f.other) :
    ∃ t, reserveZones f r s = some t ∧ t.grant f = some (g.hull r) ∧ t.grant f.other = s.grant f.other := by
  rw [reserveZones, hg]
  refine ⟨_, if_pos ((zonesFreeOrOwn_iff s f (g.hull r)).2 hfree), ?_⟩
  split
  · next h => exact ⟨by rw [hg, h], rfl⟩
  · exact ⟨Pair.get_set_self _ _ _, Pair.get_set_other _ _ _⟩

/-! ### The commit (R134) -/

/-- A mass between its bay and its frame (R87). -/
def Mass.committed (b : Nat) (f : Frame) (r : Mass) : Mass :=
  { r with state := .inTransfer, bay := some b, frame := some f, landing := none }

theorem commitMass_inventory' (id b : Nat) (f : Frame) (s : State) : InventoryFrame s (commitMass id b f s) :=
  putMass_inventory _ _ _

/-- The mass and the task of a transfer as its commit changes them (R97, R118). -/
def committing (f : Frame) (x : Transfer) (s : State) : State :=
  commitTask x.task f x.kind (forTask x.task (commitMass x.mass x.bay f) (s.setTransfer f (some x)))

/-- The phase of a task whose transfer has begun (R118). -/
def movingPhase : Kind → Phase
  | .load => .loading
  | .unload => .unloading

section
variable (f : Frame) (x : Transfer) (s : State)

theorem acceptTransfer_eq : acceptTransfer f x s = saveRequest [⟨f, .commit⟩] (committing f x s) := rfl

theorem committing_inv : (committing f x s).inv = (putMass x.mass ((s.mass x.mass).committed x.bay f) s).inv := by
  have hset := congrArg State.inv (putMass_setTransfer x.mass ((s.mass x.mass).committed x.bay f) s f (some x))
  exact hset

theorem committing_blocks : (committing f x s).xfc = (s.setTransfer f (some x)).xfc ∧ (committing f x s).ftk = s.ftk ∧
    (committing f x s).mdc = s.mdc ∧ (committing f x s).gru = s.gru ∧ (committing f x s).sti = s.sti := by
  obtain ⟨hxfc, hftk, hmdc, hgru, hsti, -⟩ :=
    (commitTask_frame x.task f x.kind (forTask x.task (commitMass x.mass x.bay f) (s.setTransfer f (some x)))).keeps
  obtain ⟨hxfc', hftk', hmdc', hgru', -⟩ :=
    forTask_keeps (id := x.task) (commitMass_inventory' x.mass x.bay f (s.setTransfer f (some x)))
  have hsti' := (putMass_inv x.mass ((s.mass x.mass).committed x.bay f) (s.setTransfer f (some x))).2.2.2.2.2
  exact ⟨hxfc.trans hxfc', hftk.trans hftk', hmdc.trans hmdc', hgru.trans hgru', hsti.trans hsti'⟩

theorem committing_task {x : Transfer} (hid : x.task < 32) : (committing f x s).task x.task = { s.task x.task with
    phase := movingPhase x.kind
    delta := (s.task x.task).delta + (((committing f x s).inv.storedKJ : Int) - (s.inv.storedKJ : Int)) } := by
  obtain ⟨-, -, -, -, htku, -⟩ := (commitMass_inventory' x.mass x.bay f (s.setTransfer f (some x))).keeps
  have hold : (commitMass x.mass x.bay f (s.setTransfer f (some x))).task x.task = s.task x.task := by
    rw [State.task, htku]
    rfl
  have hstep : (forTask x.task (commitMass x.mass x.bay f) (s.setTransfer f (some x))).task x.task = { s.task x.task with
      delta := (s.task x.task).delta + (((committing f x s).inv.storedKJ : Int) - (s.inv.storedKJ : Int)) } := by
    rw [forTask, addDelta, State.task_setTask, if_pos ⟨rfl, hid⟩, hold]
    rfl
  unfold committing commitTask
  rw [raiseWinder_task, setPhase, State.task_setTask, if_pos ⟨rfl, hid⟩, hstep]
  cases x.kind <;> rfl

theorem committing_flag {w : PortId} (hw : (s.port w).role = winderRole f) :
    ((committing f x s).port w).flags.getLsbD 6 = true := by
  have hsteady : Steady s (forTask x.task (commitMass x.mass x.bay f) (s.setTransfer f (some x))) :=
    ((Steady.refl s).setTransfer f (some x)).trans
      (forTask_steady (change := commitMass x.mass x.bay f) (putMass_steady x.mass _ _) x.task)
  unfold committing commitTask
  refine flag_raiseOn ?_ rfl
  rw [beq_iff_eq]
  exact (hsteady.port w).role.trans hw

end

/-- A save that is asked for, with a requester that waits (R92). -/
theorem saveRequest_waiters (w : List Waiter) {s : State} :
    (s.inv.save = .clean → (saveRequest w s).inv.save = .writing ∧ (saveRequest w s).inv.carriedWaiters = w) ∧
    (s.inv.save ≠ .clean → s.inv.save ≠ .notSaved → (saveRequest w s).inv.save = .writingDirty ∧
      (saveRequest w s).sti = s.sti ∧ (saveRequest w s).inv.nextWaiters = s.inv.nextWaiters ++ w) := by
  unfold saveRequest
  cases h : s.inv.save with
  | clean => exact ⟨fun _ => ⟨rfl, rfl⟩, fun hno => absurd rfl hno⟩
  | writing => exact ⟨nofun, fun _ _ => ⟨rfl, rfl, rfl⟩⟩
  | writingDirty => exact ⟨nofun, fun _ _ => ⟨h, rfl, rfl⟩⟩
  | notSaved => exact ⟨nofun, fun _ hno => absurd rfl hno⟩

end Sys2Proof.Machine
end

section
/-! SUPPORT. O48: TRANSFER commits the head task, or names the first check that fails. -/

namespace Sys2Proof.Machine

/-! ### An accepted TRANSFER (R133, R134) -/

/-- The state in which an accepted TRANSFER x of frame f, with its reservation made in u, is answered. -/
def accepted (f : Frame) (x : Transfer) (u : State) : State :=
  (acceptTransfer f x u).drive

theorem accepted_steady (f : Frame) (x : Transfer) (u : State) : Steady u (accepted f x u) :=
  (acceptTransfer_steady f x u).drive

section
variable (f : Frame) (x : Transfer) (u : State)

theorem accepted_blocks : (accepted f x u).transfer f = some x ∧ (accepted f x u).gru.grants = u.gru.grants ∧
    (accepted f x u).mdc.mode = u.mdc.mode ∧ (accepted f x u).ftk = u.ftk ∧
    (accepted f x u).gru.permit.get f = false := by
  obtain ⟨hxfc, hftk, hmdc, hgru, -⟩ := committing_blocks f x u
  have hsave := saveRequest_frame [⟨f, .commit⟩] (committing f x u)
  have hxfc' : (acceptTransfer f x u).xfc = (u.setTransfer f (some x)).xfc := (congrArg State.xfc hsave :).trans hxfc
  have hgru' : (acceptTransfer f x u).gru = u.gru := (congrArg State.gru hsave :).trans hgru
  have hmdc' : (acceptTransfer f x u).mdc = u.mdc := (congrArg State.mdc hsave :).trans hmdc
  have htransfer : (accepted f x u).transfer f = some x :=
    (congrArg (fun y => y.contexts.get f) hxfc').trans (Pair.get_set_self _ _ _)
  refine ⟨htransfer, (congrArg Gru.grants hgru' :), (congrArg Mdc.mode hmdc' :), (congrArg State.ftk hsave :).trans hftk, ?_⟩
  refine Bool.eq_false_iff.2 fun hpermit => ?_
  obtain ⟨-, -, -, -, hidle⟩ := ((drive_follows (acceptTransfer f x u)).permit f).1 hpermit
  exact absurd (htransfer.symm.trans hidle) nofun

theorem accepted_masses (h1 : 1 ≤ x.mass) (h2 : x.mass ≤ 40) :
    (accepted f x u).mass x.mass = (u.mass x.mass).committed x.bay f ∧
    (∀ j, j ≠ x.mass → (accepted f x u).mass j = u.mass j) ∧
    (accepted f x u).inv.storedKJ = storedOf (rawSum u.svt.working (accepted f x u).inv.masses) := by
  have hinv := committing_inv f x u
  obtain ⟨hmasses, -, -, -, hstored⟩ := saveRequest_inv [⟨f, .commit⟩] (committing f x u)
  rw [hinv] at hmasses hstored
  have hmass (j : Nat) : (accepted f x u).mass j = _ :=
    (mass_of_masses hmasses j).trans (putMass_mass_all ((u.mass x.mass).committed x.bay f) u h1 h2 j)
  refine ⟨(hmass _).trans (if_pos rfl), fun j hj => (hmass j).trans (if_neg hj), ?_⟩
  have hrecompute : (putMass x.mass ((u.mass x.mass).committed x.bay f) u).inv.storedKJ = storedOf
      (rawSum u.svt.working (putMass x.mass ((u.mass x.mass).committed x.bay f) u).inv.masses) := by
    rw [putMass, if_neg (Nat.ne_of_gt h1)]
    rfl
  exact hstored.trans (hrecompute.trans (congrArg (fun m => storedOf (rawSum u.svt.working m)) hmasses.symm))

theorem accepted_task {x : Transfer} (hid : x.task < 32) : (accepted f x u).task x.task = { u.task x.task with
    phase := movingPhase x.kind
    delta := (u.task x.task).delta + (((accepted f x u).inv.storedKJ : Int) - (u.inv.storedKJ : Int)) } := by
  have hsave := saveRequest_frame [⟨f, .commit⟩] (committing f x u)
  have htku : (accepted f x u).tku = (committing f x u).tku := (congrArg State.tku hsave :)
  have hstored : (accepted f x u).inv.storedKJ = (committing f x u).inv.storedKJ := (saveRequest_inv _ _).2.2.2.2
  rw [State.task, htku, hstored]
  exact committing_task f u hid

theorem accepted_save (hsave : u.inv.save ≠ .notSaved) :
    (u.inv.save = .clean → (accepted f x u).inv.save = .writing ∧
      (accepted f x u).inv.carriedWaiters = [⟨f, .commit⟩]) ∧
    (u.inv.save ≠ .clean → (accepted f x u).inv.save = .writingDirty ∧ (accepted f x u).sti = u.sti ∧
      (accepted f x u).inv.nextWaiters = u.inv.nextWaiters ++ [⟨f, .commit⟩]) := by
  obtain ⟨hclean, hopen⟩ := saveRequest_waiters [⟨f, .commit⟩] (s := committing f x u)
  obtain ⟨-, -, hsame, -, hnext, -⟩ := putMass_inv x.mass ((u.mass x.mass).committed x.bay f) u
  rw [committing_inv, hsame] at hclean hopen
  refine ⟨hclean, fun h => ?_⟩
  obtain ⟨hdirty, hsti, hwaiters⟩ := hopen h hsave
  rw [hnext] at hwaiters
  exact ⟨hdirty, hsti.trans (committing_blocks f x u).2.2.2.2, hwaiters⟩

theorem accepted_flag {w : PortId} (hw : (u.port w).role = winderRole f) :
    ((accepted f x u).port w).flags.getLsbD 6 = true := by
  rw [accepted, drive_flags]
  exact ((saveRequest_steady _ _).port w).flag (committing_flag f x u hw)

end

/-- What an accepted TRANSFER x does to a state s in whose successor u its reservation was made (R92, R97, R118, R134). -/
structure CommitDone (f : Frame) (x : Transfer) (s t : State) : Prop where
  transfer : t.transfer f = some x
  mass : t.mass x.mass = (s.mass x.mass).committed x.bay f
  others : ∀ j, j ≠ x.mass → t.mass j = s.mass j
  task : t.task x.task = { s.task x.task with
    phase := movingPhase x.kind
    delta := (s.task x.task).delta + ((t.inv.storedKJ : Int) - (s.inv.storedKJ : Int)) }
  stored : t.inv.storedKJ = storedOf (rawSum s.svt.working t.inv.masses)
  permit : t.gru.permit.get f = false
  mode : t.mdc.mode = s.mdc.mode
  ftk : t.ftk = s.ftk
  clean : s.inv.save = .clean → t.inv.save = .writing ∧ t.inv.carriedWaiters = [⟨f, .commit⟩]
  dirty : s.inv.save ≠ .clean → t.inv.save = .writingDirty ∧ t.sti = s.sti ∧
    t.inv.nextWaiters = s.inv.nextWaiters ++ [⟨f, .commit⟩]
  flag : ∀ w, (s.port w).role = winderRole f → (t.port w).flags.getLsbD 6 = true
  steady : Steady s t

theorem accepted_done {f : Frame} {z : Run} {s u : State} (hreserve : reserveZones f z s = some u) {x : Transfer}
    (h1 : 1 ≤ x.mass) (h2 : x.mass ≤ 40) (hid : x.task < 32) (hsave : s.inv.save ≠ .notSaved) :
    CommitDone f x s (accepted f x u) := by
  have hframe := reserveZones_frame hreserve
  have hsteady := reserveZones_steady hreserve
  have hinv : u.inv = s.inv := (congrArg State.inv hframe :)
  have htku : u.tku = s.tku := (congrArg State.tku hframe :)
  have hsvt : u.svt = s.svt := (congrArg State.svt hframe :)
  have hmdc : u.mdc = s.mdc := (congrArg State.mdc hframe :)
  have hftk' : u.ftk = s.ftk := (congrArg State.ftk hframe :)
  have hsti' : u.sti = s.sti := (congrArg State.sti hframe :)
  have htask : u.task x.task = s.task x.task := by rw [State.task, htku, State.task]
  have hmassOf (j : Nat) : u.mass j = s.mass j := mass_of_masses (congrArg Inv.masses hinv) j
  obtain ⟨htransfer, -, hmode, hftk, hpermit⟩ := accepted_blocks f x u
  obtain ⟨hself, hothers, hstored⟩ := accepted_masses f x u h1 h2
  have hrecord := accepted_task f u hid
  obtain ⟨hclean, hopen⟩ := accepted_save f x u (hinv ▸ hsave)
  rw [hmassOf] at hself
  rw [hsvt] at hstored
  rw [htask, hinv] at hrecord
  rw [hinv] at hclean hopen
  rw [hmdc] at hmode
  rw [hsti'] at hopen
  exact {
    transfer := htransfer
    mass := hself
    others := fun j hj => (hothers j hj).trans (hmassOf j)
    task := hrecord
    stored := hstored
    permit := hpermit
    mode := hmode
    ftk := hftk.trans hftk'
    clean := hclean
    dirty := hopen
    flag := fun w hw => accepted_flag f x u ((hsteady.port w).role.trans hw)
    steady := hsteady.trans (accepted_steady f x u) }

/-- A TRANSFER that passes its checks is accepted on the reservation (R132 to R134). -/
theorem startTransfer_accepted {s : State} {f : Frame} {k id m b : Nat} {r : Report} {kind : Kind} {g : Run}
    (hplace : InPlace f b (s.mass m) kind) (hclear : Clear s f b kind) (husable : bayUsable s b = true)
    (hsave : s.inv.save ≠ .notSaved) (hg : s.grant f = some g)
    (hfree : ∀ z, (g.hull (reservation s.svt.working f r (payloadAfter s kind m))).lo ≤ z →
      z ≤ (g.hull (reservation s.svt.working f r (payloadAfter s kind m))).hi → zoneOwner s z ≠ some f.other) :
    ∃ u, startTransfer f k r kind id m b s = answerWith (accepted f (newTransfer s f k r kind id m b) u) .pending
        (u8 (kindCode kind) ++ u8 id ++ u8 m ++ u8 k ++ u8 b) ∧
      reserveZones f (reservation s.svt.working f r (payloadAfter s kind m)) s = some u ∧
      u.grant f = some (g.hull (reservation s.svt.working f r (payloadAfter s kind m))) ∧
      u.grant f.other = s.grant f.other := by
  obtain ⟨u, hu, hgrant, hother⟩ := reserveZones_granted hg hfree
  refine ⟨u, ?_, hu, hgrant, hother⟩
  rw [startTransfer, transferBar_clear hplace hclear, husable, if_neg (by simp), if_neg hsave]
  dsimp only
  rw [hu]
  rfl

section
variable {s : State} {f : Frame} {k id m b : Nat} {r : Report} {kind : Kind}

theorem startTransfer_barred {st : Status} (h : transferBar s f kind m b = some st) :
    startTransfer f k r kind id m b s = answer s st := by
  rw [startTransfer, h]

theorem startTransfer_taken {g : Run} {z : Nat} (hplace : InPlace f b (s.mass m) kind) (hclear : Clear s f b kind)
    (husable : bayUsable s b = true) (hsave : s.inv.save ≠ .notSaved) (hg : s.grant f = some g)
    (hlo : (g.hull (reservation s.svt.working f r (payloadAfter s kind m))).lo ≤ z)
    (hhi : z ≤ (g.hull (reservation s.svt.working f r (payloadAfter s kind m))).hi)
    (hz : zoneOwner s z = some f.other) : startTransfer f k r kind id m b s = answer s .zoneBusy := by
  rw [startTransfer, transferBar_clear hplace hclear, husable, if_neg (by simp), if_neg hsave]
  dsimp only
  rw [reserveZones_taken hg hlo hhi hz]

end

/-- Settles O48: the checks of R132 one after another, then the reservation and the commit. -/
theorem transferCommitsTheHeadTask : Obligations.TransferCommitsTheHeadTask := by
  refine ⟨?_, ?_⟩
  · intro p f kind r g k id mass b s sv w after x now later wide h hrole hmode hidle hstate hreport hrest hk hnear hfirst
      hnone hbrake hhead hid hlanding hmass h1 h2 hb hcase hbay hland hsave hg hfree
    have hstands : StandsAt s f r k := ⟨hreport, hrest, hk, hnear, fun j hj => Nat.not_le.2 (hfirst j hj)⟩
    have hcalls : Calls s f k kind id b := by
      cases kind with
      | load => exact ⟨hhead, hlanding, fun _ => ⟨hcase.1, hcase.2.1⟩, nofun⟩
      | unload => exact ⟨hhead, hlanding, nofun, fun _ => ⟨hcase.1, hcase.2.1⟩⟩
    have hplace : InPlace f b (s.mass mass) kind := by
      cases kind with
      | load => exact ⟨hcase.2.2.1, hcase.2.2.2.1⟩
      | unload => exact ⟨hcase.2.2.1, hcase.2.2.2.1⟩
    have hclear : Clear s f b kind := by
      cases kind with
      | load => exact hcase.2.2.2.2
      | unload => exact hcase.2.2.2.2
    have hafter : payloadAfter s kind mass = after := by
      cases kind <;> rfl
    have hwide : g.hull (reservation s.svt.working f r (payloadAfter s kind mass)) = wide := by
      rw [hafter]
      rfl
    have hfree' : ∀ z, (g.hull (reservation s.svt.working f r (payloadAfter s kind mass))).lo ≤ z →
        z ≤ (g.hull (reservation s.svt.working f r (payloadAfter s kind mass))).hi → zoneOwner s z ≠ some f.other := by
      rw [hwide]
      exact hfree
    obtain ⟨u, hstart, hreserve, hgrant, hother⟩ := startTransfer_accepted (k := k) (id := id) hplace hclear
      ((bayUsable_iff s b).2 ⟨hbay, k, hlanding, hland⟩) hsave hg hfree'
    rw [hwide] at hgrant
    have hcall := requestTransfer_call hmode hidle hstate hstands hnone hbrake hcalls
    rw [hmass] at hcall
    have hexec := exec_of_admitted (i := .transfer p) rfl h ((forWinder_eq hrole requestTransfer).trans (hcall.trans hstart))
    have hdone := accepted_done hreserve (x := newTransfer s f k r kind id mass b) h1 h2 hid hsave
    have hgrants := (accepted_blocks f (newTransfer s f k r kind id mass b) u).2.1
    generalize accepted f (newTransfer s f k r kind id mass b) u = t at *
    refine ⟨_, hexec, (congrArg (·.get f) hgrants :).trans hgrant, (congrArg (·.get f.other) hgrants :).trans hother,
      hdone.transfer.trans ?_, hdone.mass, hdone.others, hdone.task.trans ?_, hdone.stored, hdone.permit,
      hdone.mode.trans hmode, hdone.ftk, hdone.clean, hdone.dirty, fun q hq => ?_, replied_replies hdone.steady p _ _⟩
    · cases kind <;> rfl
    · cases kind <;> rfl
    · rw [replied_flags]
      exact hdone.flag q hq
  · intro p f s h hrole sv no near stands ready calls
    have hno {st : Status} (hb : requestTransfer f s = answer s st) : no (st.code) :=
      exec_of_admitted rfl h ((forWinder_eq hrole requestTransfer).trans hb)
    have hstands {r k} (hs : stands r k) : StandsAt s f r k :=
      ⟨hs.1, hs.2.1, hs.2.2.1, hs.2.2.2.1, hs.2.2.2.2⟩
    have hcalls {k kind id b} (hc : Calls s f k kind id b) : calls k kind id b := by
      cases kind with
      | load => exact ⟨hc.head, hc.landing, hc.load rfl⟩
      | unload => exact ⟨hc.head, hc.landing, hc.unload rfl⟩
    have hcalls' {k kind id b} (hc : calls k kind id b) : Calls s f k kind id b := by
      cases kind with
      | load => exact ⟨hc.1, hc.2.1, fun _ => hc.2.2, nofun⟩
      | unload => exact ⟨hc.1, hc.2.1, nofun, fun _ => hc.2.2⟩
    refine ⟨fun hm => hno (requestTransfer_mode hm), fun hm hx => hno (requestTransfer_busy hm hx),
      fun hm hx hst => hno (requestTransfer_untracked hm hx hst), fun ⟨hm, hx, hst⟩ hnot => ?_,
      fun r k ⟨hm, hx, hst⟩ hs hreq => hno (requestTransfer_asking hm hx hst (hstands hs) hreq),
      fun r k ⟨hm, hx, hst⟩ hs hreq hbr => hno (requestTransfer_loose hm hx hst (hstands hs) hreq hbr),
      fun r k ⟨hm, hx, hst⟩ hs hreq hbr hnot => ?_, fun r k kind id b ⟨hm, hx, hst⟩ hs hreq hbr hc => ?_⟩
    · refine hno (requestTransfer_nowhere hm hx hst fun ⟨r, k, hs⟩ => hnot ⟨r, k, ?_⟩)
      exact ⟨hs.report, hs.rest, hs.landing, hs.near, hs.first⟩
    · refine hno (requestTransfer_noCall hm hx hst (hstands hs) hreq hbr ?_)
      cases hcall : headCall s f k with
      | none => rfl
      | some y =>
        obtain ⟨kind, id, m, b⟩ := y
        exact absurd ⟨kind, id, b, hcalls (calls_of_headCall hcall)⟩ hnot
    · intro x after now later inPlace clear usable
      have hcall := requestTransfer_call hm hx hst (hstands hs) hreq hbr (hcalls' hc)
      have hafter : payloadAfter s kind (s.task id).mass = after := by
        cases kind <;> rfl
      have hplace : InPlace f b x kind ↔ inPlace := by
        cases kind <;> exact Iff.rfl
      have hclear : Clear s f b kind ↔ clear := by
        cases kind <;> exact Iff.rfl
      have husable : bayUsable s b = true ↔ usable := by
        rw [bayUsable_iff]
        refine and_congr_right fun _ => ⟨fun ⟨j, hj, hin⟩ => ?_, fun hin => ⟨k, (hcalls' hc).landing, hin⟩⟩
        obtain rfl : k = j := Option.some.inj ((hcalls' hc).landing.symm.trans hj)
        exact hin
      have hbar {st} (hb : transferBar s f kind (s.task id).mass b = some st) : no (st.code) :=
        hno (hcall.trans (startTransfer_barred hb))
      refine ⟨fun hp => hbar (transferBar_mass (mt hplace.1 hp)), fun hp hcl => ?_, fun hp hcl hu => ?_,
        fun hp hcl hu hsv => ?_, fun g z hp hcl hu hsv hg hlo hhi hz => ?_⟩
      · have hfull := hbar (transferBar_full (hplace.2 hp) (mt hclear.1 hcl))
        cases kind <;> exact hfull
      · refine hbar (st := .landing) ?_
        rw [transferBar_clear (hplace.2 hp) (hclear.2 hcl), Bool.eq_false_iff.2 (mt husable.1 hu)]
        rfl
      · refine hbar (st := .storeFault) ?_
        rw [transferBar_clear (hplace.2 hp) (hclear.2 hcl), husable.2 hu, if_neg (by simp), if_pos hsv]
      · refine hno (hcall.trans (startTransfer_taken (hplace.2 hp) (hclear.2 hcl) (husable.2 hu) hsv hg (z := z) ?_ ?_ hz))
        · rw [hafter]
          exact hlo
        · rw [hafter]
          exact hhi

end Sys2Proof.Machine
end

section
/-! SUPPORT. O51: a report on its way to a transfer, and what the transfer makes of it. -/

namespace Sys2Proof.Machine

/-! ### What a report leaves alone on its way to XFC (R20 to R33) -/

/-- Everything a transfer of frame f is judged by, but the tracker and the mode. -/
structure Reached (f : Frame) (s t : State) : Prop where
  xfc : t.xfc = s.xfc
  inv : t.inv = s.inv
  tku : t.tku = s.tku
  sti : t.sti = s.sti
  working : t.svt.working = s.svt.working
  grant : t.grant f = s.grant f

theorem Reached.trans {f : Frame} {s t u : State} (h1 : Reached f s t) (h2 : Reached f t u) : Reached f s u :=
  ⟨h2.xfc.trans h1.xfc, h2.inv.trans h1.inv, h2.tku.trans h1.tku, h2.sti.trans h1.sti, h2.working.trans h1.working,
    h2.grant.trans h1.grant⟩

theorem Reached.transfer {f : Frame} {s t : State} (h : Reached f s t) : t.transfer f = s.transfer f := by
  rw [State.transfer, h.xfc, State.transfer]

theorem kept_reached (f : Frame) (r : Report) (s : State) : Reached f s (kept f r s) :=
  ⟨rfl, rfl, rfl, rfl, rfl, rfl⟩

theorem recovered_reached (f : Frame) (r : Report) (s : State) : Reached f s (recovered f r s) :=
  ⟨rfl, rfl, rfl, rfl, rfl, rfl⟩

theorem trip_reached (f : Frame) (x : BitVec 16) (s : State) : Reached f s (trip f x s) := by
  rw [trip_frame]
  exact ⟨rfl, rfl, rfl, rfl, rfl, rfl⟩

theorem askRound_reached {s : State} {f : Frame} (h : s.request f = none) : Reached f s (askRound s) := by
  obtain ⟨hgrant, -⟩ := askRoundIf_noRequest h true
  obtain ⟨-, hsvt⟩ := askRoundIf_noRequest_keeps h true
  have hframe := askRoundIf_frame true s
  unfold RoundFrame at hframe
  exact ⟨(congrArg State.xfc hframe :), (congrArg State.inv hframe :), (congrArg State.tku hframe :),
    (congrArg State.sti hframe :), congrArg Svt.working hsvt, hgrant⟩

/-! ### The checks while a transfer is in flight (R27, R28, R59) -/

/-- A frame with a transfer and without a request is neither trimmed nor cleared (R59). -/
theorem reportToGrants_inFlight {s : State} {f : Frame} {x : Transfer} (hx : s.transfer f = some x)
    (hq : s.request f = none) (recovery : Bool) : reportToGrants f recovery s = askRoundIf recovery s := by
  have htrim : trim f s = s := by
    have hno : mayTrim s f = false := by simp [mayTrim, State.inFlight, hx]
    unfold trim
    rw [hno]
    cases s.lastReport f <;> rfl
  have hsame : tuningChanged s s = false := tuningChanged_same rfl rfl
  unfold reportToGrants
  rw [htrim, arrive_of_noRequest hq]
  simp only [bne_self_eq_false, demand_of_noRequest hq, Option.isSome_none, hsame, Bool.or_false]

/-- What an accepted report of a frame with a transfer notes (R24 to R27). -/
theorem noted_inFlight {s : State} {f : Frame} {x : Transfer} (hx : s.transfer f = some x) (r : Report) :
    noted s f r = loadNotes s f r ||| grantNotes s f (reportEnvelope s f r) |||
      (if r.brakeSet = true then 0 else 0x0020) := by
  rw [noted, loadAndSpeed_eq, trespass_eq, State.inFlight, hx]
  cases r.brakeSet <;> rfl

theorem atRest_iff (r : Report) : r.atRest = true ↔ r.v.natAbs ≤ 20 := decide_eq_true_iff

section
variable {s : State} {f : Frame} {r : Report} {x : Transfer} (hx : s.transfer f = some x)
include hx

/-- A report that notes reasons trips the frame before XFC hears of it (R28). -/
theorem checkedReport_noted (h : noted s f r ≠ 0) :
    checkedReport f r s = reportToTransfer f r true (trip f (noted s f r) (kept f r s)) := by
  have hsame : noted (kept f r s) f r = noted s f r :=
    (noted_inFlight (s := kept f r s) hx r).trans (noted_inFlight hx r).symm
  unfold checkedReport
  simp only [acceptReport_eq, hsame]
  rw [tripOr, if_neg h, bne_iff_ne.2 h]

variable (hq : s.request f = none)
include hq

/-- One that notes none leaves a TRACKED frame as it was (R28, R59). -/
theorem checkedReport_tracked (hstate : (s.tracker f).state = .tracked) (h : noted s f r = 0) :
    checkedReport f r s = reportToTransfer f r false (kept f r s) := by
  have hsame : noted (kept f r s) f r = 0 :=
    ((noted_inFlight (s := kept f r s) hx r).trans (noted_inFlight hx r).symm).trans h
  have hsettle : settleReport f r (kept f r s) = kept f r s := by
    rw [settleReport, kept_tracker, hstate]
    exact reportToGrants_inFlight (s := kept f r s) hx hq false
  unfold checkedReport
  simp only [acceptReport_eq, hsame]
  rw [tripOr, if_pos rfl, hsettle]
  rfl

/-- A STALE frame it brings back at rest, with a round (R31). -/
theorem checkedReport_stale (hstate : (s.tracker f).state = .stale) (h : noted s f r = 0) :
    checkedReport f r s = reportToTransfer f r false
      (if r.v.natAbs ≤ 20 then askRound (recovered f r s) else kept f r s) := by
  have hsame : noted (kept f r s) f r = 0 :=
    ((noted_inFlight (s := kept f r s) hx r).trans (noted_inFlight hx r).symm).trans h
  have hback : setTracking f .tracked (kept f r s) = recovered f r s := setTracking_eq (by
    rw [kept_tracker, hstate]
    nofun)
  have hsettle : settleReport f r (kept f r s) = if r.v.natAbs ≤ 20 then askRound (recovered f r s) else kept f r s := by
    rw [settleReport, kept_tracker, hstate]
    dsimp only
    rw [hback, reportToGrants_inFlight (s := recovered f r s) hx hq true]
    exact if_congr (atRest_iff r) rfl rfl
  unfold checkedReport
  simp only [acceptReport_eq, hsame]
  rw [tripOr, if_pos rfl, hsettle]
  rfl

end

/-! ### What the transfer makes of the report (R135, R142) -/

/-- The brake is released, or a frame that is to stand still has moved off its span (R135). -/
def Releases (x : Transfer) (r : Report) : Prop :=
  r.brakeSet = false ∨ ((x.phase = .committing ∨ x.phase = .gearRunning) ∧
    (20 < r.v.natAbs ∨ (r.e : Int) < x.spanLo ∨ x.spanHi < (r.e : Int)))

theorem releases_iff (x : Transfer) (r : Report) :
    (!r.brakeSet || (x.heldStill && !x.holds r)) = true ↔ Releases x r := by
  simp only [Releases, Transfer.heldStill, Transfer.holds, Bool.or_eq_true, Bool.and_eq_true, Bool.not_eq_true',
    beq_iff_eq, Bool.and_eq_false_iff, decide_eq_false_iff_not, Int.not_le, or_assoc]
  refine or_congr_right (and_congr_right fun _ => or_congr_left ?_)
  rw [← Bool.not_eq_true, atRest_iff, Nat.not_le]

section
variable {s : State} {f : Frame} {r : Report} {x : Transfer} (hx : s.transfer f = some x)
include hx

theorem reportToTransfer_released (h : Releases x r) (b : Bool) :
    reportToTransfer f r b s = brakeReleased f x.phase (askBrakeTrip f s) := by
  rw [reportToTransfer, hx]
  exact if_pos ((releases_iff x r).2 h)

theorem reportToTransfer_verified (h : ¬ Releases x r) (hphase : x.phase = .verifying) (hv : r.v.natAbs ≤ 20) :
    reportToTransfer f r false s = verify f r s := by
  rw [reportToTransfer, hx]
  exact (if_neg (mt (releases_iff x r).1 h)).trans (if_pos ⟨hphase, (atRest_iff r).2 hv, rfl⟩)

theorem reportToTransfer_left (h : ¬ Releases x r) {b : Bool}
    (hno : x.phase ≠ .verifying ∨ 20 < r.v.natAbs ∨ b = true) : reportToTransfer f r b s = s := by
  rw [reportToTransfer, hx]
  refine (if_neg (mt (releases_iff x r).1 h)).trans (if_neg ?_)
  rintro ⟨hphase, hrest, hfresh⟩
  rcases hno with hno | hno | hno
  · exact hno hphase
  · exact absurd ((atRest_iff r).1 hrest) (Nat.not_le.2 hno)
  · rw [hno] at hfresh
    cases hfresh

end

/-- A set that holds BRAKE_RELEASED is not changed by it. -/
theorem or_brakeReleased {v : BitVec 16} (h : v &&& 0x0020 ≠ 0) : v ||| 0x0020 = v := by
  have hbit (i : Nat) (hi : i < 16) : (0x0020 : BitVec 16).getLsbD i = decide (i = 5) := by
    interval_cases i <;> rfl
  have h5 : v.getLsbD 5 = true := by
    by_contra hno
    refine h (BitVec.eq_of_getLsbD_eq fun i hi => ?_)
    rw [BitVec.getLsbD_and, hbit i hi]
    by_cases h5 : i = 5
    · subst h5
      rw [Bool.eq_false_iff.2 hno]
      rfl
    · simp [h5]
  refine BitVec.eq_of_getLsbD_eq fun i hi => ?_
  rw [BitVec.getLsbD_or, hbit i hi]
  by_cases h : i = 5
  · subst h
    simp [h5]
  · simp [h]

/-- The BRAKE_RELEASED trip, asked for where the set does not hold it (R135, R142). -/
theorem askBrakeTrip_spec {s : State} {f : Frame}
    (h : (s.tracker f).reasons &&& 0x0020 ≠ 0 → (s.tracker f).state = .tripped) :
    Reached f s (askBrakeTrip f s) ∧ (askBrakeTrip f s).tracker f =
        { s.tracker f with state := .tripped, reasons := (s.tracker f).reasons ||| 0x0020 } ∧
      (s.mdc.mode ≠ .lockout → s.mdc.mode = .hold ∨ (s.tracker f).state ≠ .tripped →
        (askBrakeTrip f s).mdc.mode = .hold) := by
  unfold askBrakeTrip
  by_cases hheld : hasReason s f .brakeReleased = true
  · have hheld' : (s.tracker f).reasons &&& 0x0020 ≠ 0 := bne_iff_ne.1 hheld
    have hstate := h hheld'
    rw [if_pos hheld]
    refine ⟨⟨rfl, rfl, rfl, rfl, rfl, rfl⟩, ?_, fun _ hm => hm.elim id fun hno => absurd hstate hno⟩
    rw [or_brakeReleased hheld', ← hstate]
  · rw [if_neg hheld]
    refine ⟨trip_reached _ _ _, (trip_tracker f _ s).1, fun hm _ => ?_⟩
    rw [trip_frame]
    exact hold_of_held hm

end Sys2Proof.Machine
end

section
/-! SUPPORT. O51: a report verifies the transfer, or its brake release ends it. -/

namespace Sys2Proof.Machine

/-! ### A transfer that fails in VERIFYING, and one whose cause trips nothing (R140, R144) -/

section
variable {s : State} {f : Frame} {x : Transfer} (hx : s.transfer f = some x) (c : Cause)
include hx

theorem failVerifying_spec : (failVerifying f c s).transfer f = none ∧
    (failVerifying f c s).xfc.lastResult.get f = some (x.result .failed c false) ∧
    (failVerifying f c s).inv.verified = false ∧ (failVerifying f c s).inv.landings = s.inv.landings ∧
    (failVerifying f c s).gru = s.gru ∧ (1 ≤ x.mass → x.mass ≤ 40 →
      ((failVerifying f c s).mass x.mass).state = .unaccounted) := by
  have hlost := loseMass_inventory x.mass s
  obtain ⟨-, -, -, hgru, -⟩ := forTask_keeps (id := x.task) hlost
  obtain ⟨hverified, hlandings⟩ := loseMass_inv x.mass s
  obtain ⟨hxfc, -, -, hgru', -, hverified', hlandings', -⟩ := endFailed_blocks f x c (forTask x.task (loseMass x.mass) s)
  obtain ⟨n, hn⟩ := endFailed_mass f x c (forTask x.task (loseMass x.mass) s) x.mass
  rw [failVerifying_eq hx]
  refine ⟨?_, ?_, hverified'.trans hverified, hlandings'.trans hlandings, hgru'.trans hgru, fun h1 h2 => ?_⟩
  · rw [State.transfer, hxfc]
    exact Pair.get_set_self _ _ _
  · rw [hxfc]
    exact clearContext_result f _ _
  · have hmass : (forTask x.task (loseMass x.mass) s).mass x.mass = (s.mass x.mass).lost :=
      (loseMass_spec h1 h2 s x.mass).trans (if_pos rfl)
    rw [hn, hmass]
    rfl

/-- A cause with a trip reason trips the frame, and the shaft leaves RUN (R32, R144). -/
theorem failVerifying_trip {r : TripReason} (hr : causeTripReason c = some r) :
    (failVerifying f c s).tracker f =
        { s.tracker f with state := .tripped, reasons := (s.tracker f).reasons ||| r.bit } ∧
      (failVerifying f c s).mdc.mode = if s.mdc.mode = .run then .hold else s.mdc.mode := by
  obtain ⟨-, hftk', hmdc', -⟩ := forTask_keeps (id := x.task) (loseMass_inventory x.mass s)
  obtain ⟨-, hftk, hmdc, -⟩ := endFailed_blocks f x c (forTask x.task (loseMass x.mass) s)
  have htrip : tripForCause f c (forTask x.task (loseMass x.mass) s) =
      trip f r.bit (forTask x.task (loseMass x.mass) s) := by rw [tripForCause, hr]
  have hself := (trip_tracker f r.bit (forTask x.task (loseMass x.mass) s)).1
  rw [htrip] at hftk hmdc
  rw [failVerifying_eq hx]
  refine ⟨?_, ?_⟩
  · rw [tracker_of_ftk hftk, hself, tracker_of_ftk hftk']
  · rw [hmdc, trip_frame]
    dsimp only
    rw [hmdc']

variable (hc : causeTripReason c = none)
include hc

theorem failVerifying_still : (failVerifying f c s).ftk = s.ftk ∧ (failVerifying f c s).mdc = s.mdc := by
  obtain ⟨-, hftk', hmdc', -⟩ := forTask_keeps (id := x.task) (loseMass_inventory x.mass s)
  obtain ⟨-, hftk, hmdc, -⟩ := endFailed_blocks f x c (forTask x.task (loseMass x.mass) s)
  have htrip : tripForCause f c (forTask x.task (loseMass x.mass) s) =
      forTask x.task (loseMass x.mass) s := by rw [tripForCause, hc]
  rw [htrip] at hftk hmdc
  rw [failVerifying_eq hx]
  exact ⟨hftk.trans hftk', hmdc.trans hmdc'⟩

theorem failRunning_still : (failRunning f c s).ftk = s.ftk ∧ (failRunning f c s).mdc = s.mdc := by
  obtain ⟨hftk', hmdc', -⟩ := failing_blocks x c s
  obtain ⟨-, hftk, hmdc, -⟩ := endFailed_blocks f x c (failing x c s)
  have htrip : tripForCause f c (failing x c s) = failing x c s := by rw [tripForCause, hc]
  rw [htrip] at hftk hmdc
  rw [failRunning_eq hx]
  exact ⟨hftk.trans hftk', hmdc.trans hmdc'⟩

end

/-! ### A brake release, by the phase (R142) -/

/-- A brake release ends no trip of its own, and leaves the grants. -/
theorem brakeReleased_still {s : State} {f : Frame} {x : Transfer} (hx : s.transfer f = some x) :
    (brakeReleased f x.phase s).ftk = s.ftk ∧ (brakeReleased f x.phase s).mdc = s.mdc ∧
      (brakeReleased f x.phase s).gru = s.gru := by
  cases hphase : x.phase with
  | committing =>
    obtain ⟨-, -, hftk, hmdc, hgru, -⟩ := enterAbandoning_blocks hx .brakeReleased
    exact ⟨hftk, hmdc, hgru⟩
  | gearRunning =>
    obtain ⟨hftk, hmdc⟩ := failRunning_still hx .brakeReleased rfl
    exact ⟨hftk, hmdc, failRunning_gru hx .brakeReleased⟩
  | abandoning => exact ⟨rfl, rfl, rfl⟩
  | verifying =>
    obtain ⟨hftk, hmdc⟩ := failVerifying_still hx .brakeReleased rfl
    exact ⟨hftk, hmdc, (failVerifying_spec hx .brakeReleased).2.2.2.2.1⟩
  | finishing => exact ⟨rfl, rfl, rfl⟩

/-! ### Verification (R87, R144) -/

/-- A mass at the place that its verified transfer takes it to (R87). -/
def Mass.verified (f : Frame) (x : Transfer) (r : Mass) : Mass :=
  match x.kind with
  | .load => { r with state := .carried, bay := none, frame := some f, landing := some x.landing }
  | .unload => { r with state := .stored, bay := some x.bay, frame := none, landing := none }

theorem verifiedMass_eq (f : Frame) (x : Transfer) (s : State) :
    verifiedMass f x s = putMass x.mass ((s.mass x.mass).verified f x) s := by
  unfold verifiedMass Mass.verified
  cases x.kind <;> rfl

/-- The transfer waits on the save of its verified change (R144). -/
def finishing (f : Frame) (x : Transfer) (s : State) : State :=
  (forTask x.task (verifiedMass f x) s).setTransfer f (some { x with phase := .finishing })

section
variable {s : State} {f : Frame} {r : Report} {x : Transfer} (hx : s.transfer f = some x)
include hx

theorem verify_mismatch (h : s.svt.working.ldt < (r.m - x.expected) + (x.expected - r.m)) :
    verify f r s = failVerifying f .loadMismatch s := by
  rw [verify, hx]
  exact if_neg (Nat.not_le.2 h)

theorem verify_within (h : (r.m - x.expected) + (x.expected - r.m) ≤ s.svt.working.ldt) (hsave : s.inv.save ≠ .notSaved) :
    verify f r s = saveRequest [⟨f, .verified⟩] (finishing f x s) := by
  have hsame : (finishing f x s).inv.save = s.inv.save := by
    have hput := (putMass_inv x.mass ((s.mass x.mass).verified f x) s).2.2.1
    rw [← verifiedMass_eq] at hput
    exact hput
  rw [verify, hx]
  refine (if_pos h).trans (if_neg ?_)
  change (finishing f x s).inv.save ≠ .notSaved
  rw [hsame]
  exact hsave

theorem verify_spec (h : (r.m - x.expected) + (x.expected - r.m) ≤ s.svt.working.ldt) (hsave : s.inv.save ≠ .notSaved)
    (h1 : 1 ≤ x.mass) (h2 : x.mass ≤ 40) : (verify f r s).transfer f = some { x with phase := .finishing } ∧
      (verify f r s).ftk = s.ftk ∧ (verify f r s).mdc = s.mdc ∧ (verify f r s).gru = s.gru ∧
      (verify f r s).inv.landings = s.inv.landings ∧ (verify f r s).mass x.mass = (s.mass x.mass).verified f x ∧
      (verify f r s).inv.save = (if s.inv.save = .clean then .writing else .writingDirty) := by
  obtain ⟨-, hlandings, hsame, -⟩ := putMass_inv x.mass ((s.mass x.mass).verified f x) s
  have hmass := putMass_mass_all ((s.mass x.mass).verified f x) s h1 h2 x.mass
  have hinventory := putMass_inventory x.mass ((s.mass x.mass).verified f x) s
  rw [← verifiedMass_eq] at hlandings hsame hmass hinventory
  obtain ⟨-, hftk, hmdc, hgru, -⟩ := forTask_keeps (id := x.task) hinventory
  obtain ⟨hmasses, -, hlandings', -⟩ := saveRequest_inv [⟨f, .verified⟩] (finishing f x s)
  obtain ⟨hxfc, hftk', hmdc', hgru', -⟩ := (saveRequest_inventory [⟨f, .verified⟩] (finishing f x s)).keeps
  obtain ⟨hclean, hopen⟩ := saveRequest_waiters [⟨f, .verified⟩] (s := finishing f x s)
  have hsave' : (finishing f x s).inv.save = s.inv.save := hsame
  rw [hsave'] at hclean hopen
  rw [verify_within hx h hsave]
  refine ⟨(congrArg (fun y => y.contexts.get f) hxfc :).trans (Pair.get_set_self _ _ _), hftk'.trans hftk,
    hmdc'.trans hmdc, hgru'.trans hgru, hlandings'.trans hlandings, (mass_of_masses hmasses _).trans
    (hmass.trans (if_pos rfl)), ?_⟩
  split
  · next hc => exact (hclean hc).1
  · next hc => exact (hopen hc hsave).1

end

end Sys2Proof.Machine
end

section
/-! SUPPORT. O51: the report of a frame with a transfer, by its state and the transfer's phase. -/

namespace Sys2Proof.Machine

/-! ### The state in which the report reaches the transfer -/

/-- A frame with the transfer x, without a request, whose plausible report r is taken. -/
structure InFlight (s : State) (f : Frame) (r : Report) (x : Transfer) : Prop where
  mode : s.mdc.mode ≠ .lockout
  request : s.request f = none
  transfer : s.transfer f = some x
  plausible : PlausibleReport s f r
  reasons : TripsHaveReasons s

/-- What the payload, speed and grant checks note (R24 to R26). -/
def checkNotes (s : State) (f : Frame) (r : Report) : BitVec 16 :=
  loadNotes s f r ||| grantNotes s f (reportEnvelope s f r)

theorem or_eq_zero {a b : BitVec 16} (h : a ||| b = 0) : a = 0 ∧ b = 0 := by
  have hbits (i : Nat) : a.getLsbD i = false ∧ b.getLsbD i = false := by
    have hi := congrArg (·.getLsbD i) h
    simpa using hi
  exact ⟨BitVec.eq_of_getLsbD_eq fun i _ => by rw [(hbits i).1]; simp,
    BitVec.eq_of_getLsbD_eq fun i _ => by rw [(hbits i).2]; simp⟩

/-- BRAKE_RELEASED among the notes is the one that the transfer asks for. -/
theorem brake_noted (c : BitVec 16) (b : Bool) :
    0 ||| (c ||| (if b = true then 0 else 0x0020)) ||| 0x0020 = 0 ||| 0x0020 ||| c := by
  cases b with
  | true => simp [BitVec.or_comm]
  | false =>
    change 0#16 ||| (c ||| 0x0020#16) ||| 0x0020#16 = 0#16 ||| 0x0020#16 ||| c
    rw [BitVec.zero_or, BitVec.zero_or, BitVec.or_assoc, BitVec.or_self, BitVec.or_comm]

section
variable {s : State} {f : Frame} {r : Report} {x : Transfer} (h : InFlight s f r x)
include h

theorem InFlight.noted : noted s f r = checkNotes s f r ||| (if r.brakeSet = true then 0 else 0x0020) :=
  noted_inFlight h.transfer r

theorem InFlight.noted_braked (hbrake : r.brakeSet = true) : Machine.noted s f r = checkNotes s f r := by
  rw [h.noted, if_pos hbrake]
  exact BitVec.or_zero

theorem InFlight.no_reasons (hstate : (s.tracker f).state ≠ .tripped) : (s.tracker f).reasons = 0 := by
  by_contra hno
  exact hstate ((h.reasons f).1 hno)

/-- The report reaches XFC with the frame as a quiet report leaves it (R28, R31, R33). -/
theorem InFlight.quiet (hpass : (s.tracker f).state = .tripped ∨
      (((s.tracker f).state = .tracked ∨ (s.tracker f).state = .stale) ∧ checkNotes s f r = 0 ∧ r.brakeSet = true)) :
    ∃ w, takeReport f r s = (reportToTransfer f r false w, .ok) ∧ Reached f s w ∧ w.mdc = s.mdc ∧
      (((s.tracker f).state = .stale → r.v.natAbs ≤ 20 → w = askRound (recovered f r s)) ∧
      ((s.tracker f).state ≠ .stale ∨ 20 < r.v.natAbs → w = kept f r s)) := by
  rcases hpass with hstate | ⟨hstate, hnotes, hbrake⟩
  · exact ⟨kept f r s, takeReport_tripped h.mode hstate h.plausible, kept_reached f r s, rfl,
      fun hs => absurd (hstate.symm.trans hs) nofun, fun _ => rfl⟩
  · have htake := takeReport_tracking h.mode hstate h.plausible
    have hnoted := (h.noted_braked hbrake).trans hnotes
    rcases hstate with hstate | hstate
    · rw [checkedReport_tracked h.transfer h.request hstate hnoted] at htake
      exact ⟨kept f r s, htake, kept_reached f r s, rfl, fun hs => absurd (hstate.symm.trans hs) nofun, fun _ => rfl⟩
    · rw [checkedReport_stale h.transfer h.request hstate hnoted] at htake
      by_cases hv : r.v.natAbs ≤ 20
      · rw [if_pos hv] at htake
        have hframe := askRoundIf_frame true (recovered f r s)
        unfold RoundFrame at hframe
        exact ⟨_, htake, (recovered_reached f r s).trans (askRound_reached (s := recovered f r s) h.request),
          (congrArg State.mdc hframe :), fun _ _ => rfl, fun hs => hs.elim (absurd hstate) (absurd hv ∘ Nat.not_le.2)⟩
      · rw [if_neg hv] at htake
        exact ⟨_, htake, kept_reached f r s, rfl, fun _ hv' => absurd hv' hv, fun _ => rfl⟩

/-- One that notes reasons reaches XFC with the frame tripped (R28). -/
theorem InFlight.noting (hstate : (s.tracker f).state = .tracked ∨ (s.tracker f).state = .stale)
    (hnoted : Machine.noted s f r ≠ 0) : takeReport f r s =
      (reportToTransfer f r true (tripped f (Machine.noted s f r) (kept f r s)), .ok) := by
  have htrip : trip f (Machine.noted s f r) (kept f r s) = tripped f (Machine.noted s f r) (kept f r s) :=
    trip_eq_tripped (.inl (by
      rw [kept_tracker]
      rcases hstate with hstate | hstate <;> simp [hstate]))
  rw [takeReport_tracking h.mode hstate h.plausible, checkedReport_noted h.transfer hnoted, htrip]

/-- The frame as a brake release finds it: the trip of the checks, if any, and its own (R28, R135, R142). -/
theorem InFlight.released (hknown : (s.tracker f).state ≠ .unknown) (hrel : Releases x r) :
    ∃ w, takeReport f r s = (brakeReleased f x.phase w, .ok) ∧ Reached f s w ∧
      w.tracker f = { (kept f r s).tracker f with
        state := .tripped
        reasons := (s.tracker f).reasons ||| 0x0020 |||
          (if (s.tracker f).state = .tripped then 0 else checkNotes s f r) } ∧
      ((s.tracker f).state ≠ .tripped → w.mdc.mode = .hold) := by
  have hreached {w : State} (hw : Reached f s w) {b : Bool} (htake : takeReport f r s = (reportToTransfer f r b w, .ok)) :
      takeReport f r s = (brakeReleased f x.phase (askBrakeTrip f w), .ok) :=
    htake.trans (congrArg (·, Status.ok) (reportToTransfer_released (hw.transfer.trans h.transfer) hrel b))
  by_cases htripped : (s.tracker f).state = .tripped
  · obtain ⟨w, htake, hw, -, -, hkept⟩ := h.quiet (.inl htripped)
    obtain rfl := hkept (.inl (by rw [htripped]; nofun))
    obtain ⟨hw', htracker, -⟩ := askBrakeTrip_spec (s := kept f r s) (f := f) fun _ => by
      rw [kept_tracker]
      exact htripped
    refine ⟨_, hreached hw htake, hw.trans hw', htracker.trans ?_, fun hno => absurd htripped hno⟩
    rw [if_pos htripped, kept_tracker]
    exact congrArg (fun v => Tracker.mk _ _ _ _ v) BitVec.or_zero.symm
  · have hclear := h.no_reasons htripped
    have hstate : (s.tracker f).state = .tracked ∨ (s.tracker f).state = .stale := by
      cases hs : (s.tracker f).state with
      | unknown => exact absurd hs hknown
      | tracked => exact .inl rfl
      | stale => exact .inr rfl
      | tripped => exact absurd hs htripped
    rw [if_neg htripped]
    by_cases hnoted : Machine.noted s f r = 0
    · obtain ⟨hnotes, hbrake⟩ := or_eq_zero (h.noted.symm.trans hnoted)
      have hbraked : r.brakeSet = true := by
        by_contra hno
        rw [if_neg hno] at hbrake
        exact absurd hbrake (by decide)
      obtain ⟨w, htake, hw, hmdc, hback, hkept⟩ := h.quiet (.inr ⟨hstate, hnotes, hbraked⟩)
      have htracker : ∃ y, y ≠ Tracking.tripped ∧ w.tracker f = { (kept f r s).tracker f with state := y } := by
        by_cases hs : (s.tracker f).state = .stale ∧ r.v.natAbs ≤ 20
        · obtain rfl := hback hs.1 hs.2
          exact ⟨.tracked, nofun, (tracker_of_ftk (askRound_ftk _) f).trans (recovered_tracker f r s)⟩
        · obtain rfl := hkept ((not_and_or.1 hs).imp id Nat.not_le.1)
          refine ⟨(s.tracker f).state, htripped, ?_⟩
          rw [kept_tracker]
      obtain ⟨y, hy, hy'⟩ := htracker
      have hreasons : (w.tracker f).reasons = 0 := by
        rw [hy', kept_tracker]
        exact hclear
      obtain ⟨hw', htracker', hhold⟩ := askBrakeTrip_spec (s := w) (f := f) fun hno => by
        rw [hreasons] at hno
        exact absurd rfl hno
      refine ⟨_, hreached hw htake, hw.trans hw', htracker'.trans ?_, fun _ => hhold ?_ (.inr ?_)⟩
      · rw [hreasons, hy', hclear, hnotes]
        rfl
      · rw [hmdc]
        exact h.mode
      · rw [hy']
        exact hy
    · obtain ⟨htracker, hgru, hmode⟩ := tripped_blocks f (Machine.noted s f r) (kept f r s)
      have htrip := trip_eq_tripped (s := kept f r s) (f := f) (x := Machine.noted s f r) (.inl (by
        rw [kept_tracker]
        exact htripped))
      have hw := (kept_reached f r s).trans (trip_reached f (Machine.noted s f r) (kept f r s))
      rw [htrip] at hw
      obtain ⟨hw', htracker', hhold⟩ := askBrakeTrip_spec (s := tripped f (Machine.noted s f r) (kept f r s)) (f := f)
        fun _ => by rw [htracker]
      refine ⟨_, hreached hw (h.noting hstate hnoted), hw.trans hw', htracker'.trans ?_, fun _ =>
        hhold ?_ (.inl (hmode.trans (hold_of_held h.mode)))⟩
      · rw [htracker, kept_tracker, hclear, h.noted]
        exact congrArg (fun v => Tracker.mk _ _ _ _ v) (brake_noted _ _)
      · rw [hmode.trans (hold_of_held h.mode)]
        nofun

end

/-- Settles O51: the report by the state it finds, then the transfer by its phase. -/
theorem aReportAtRestVerifiesTheTransfer : Obligations.AReportAtRestVerifiesTheTransfer := by
  intro p f e v m flags g x s r n state contained passes still released noted answered hadmitted hrole hmode hrequest
    htransfer hplausible hreasons
  have h : InFlight s f r x := ⟨hmode, hrequest, htransfer, hplausible, hreasons⟩
  have hnotes : noted = checkNotes s f r := rfl
  have hanswer {u : State} {st : Status} (ht : takeReport f r s = (u, st)) := exec_position hadmitted hrole ht
  have hclear : contained → checkNotes s f r = 0 := fun ⟨hg, hm, hv, hlo, hhi⟩ => by
    rw [checkNotes, loadNotes_eq_zero hm hv, grantNotes_eq_zero (n := reportEnvelope s f r) hg hlo hhi]
    rfl
  have hquiet : passes → r.brakeSet = true → (state = .tripped ∨
      ((state = .tracked ∨ state = .stale) ∧ checkNotes s f r = 0 ∧ r.brakeSet = true)) := fun hp hb =>
    hp.imp id fun ⟨hs, hc⟩ => ⟨hs, hclear hc, hb⟩
  have hother {a b : Tracking} (ha : state = a) (hne : a ≠ b) : (s.tracker f).state ≠ b := fun hb => hne (ha.symm.trans hb)
  have hanswered {u : State} {y : Tracking} {z : BitVec 16} (ht : takeReport f r s = (u, .ok))
      (hy : (u.tracker f).state = y) (hz : (u.tracker f).reasons = z) : answered (trackingCode y) z u := by
    have hexec := hanswer ht
    rw [hy, hz] at hexec
    exact hexec
  refine ⟨fun hp hphase hv hbrake h1 h2 hsave => ?_, fun hknown hrel => ?_, fun hno hidle => ?_,
    fun hno hstate hnoted => ?_⟩
  · have hno : ¬ Releases x r := by
      rintro (hb | ⟨hstill, -⟩)
      · rw [hbrake] at hb
        cases hb
      · rw [hphase] at hstill
        exact hstill.elim nofun nofun
    obtain ⟨w, htake, hw, hmdc, hback, hkept⟩ := h.quiet (hquiet hp hbrake)
    have hx := hw.transfer.trans h.transfer
    rw [reportToTransfer_verified hx hno hphase hv] at htake
    have htracker : w.tracker f =
        { (kept f r s).tracker f with state := if state = .tripped then .tripped else .tracked } := by
      by_cases hs : state = .stale
      · obtain rfl := hback hs hv
        rw [tracker_of_ftk (askRound_ftk _), recovered_tracker, if_neg (by rw [hs]; nofun)]
      · obtain rfl := hkept (.inl hs)
        have hsame : (s.tracker f).state = if state = .tripped then .tripped else .tracked := by
          rcases hp with hp | ⟨hp, -⟩
          · exact hp.trans (if_pos hp).symm
          · have htracked : state = .tracked := hp.resolve_right hs
            exact htracked.trans (if_neg (by rw [htracked]; nofun)).symm
        rw [kept_tracker, ← hsame]
    have hmass : w.mass x.mass = s.mass x.mass := mass_of_masses (congrArg Inv.masses hw.inv) _
    by_cases hwithin : (r.m - x.expected) + (x.expected - r.m) ≤ s.svt.working.ldt
    · obtain ⟨hfin, hftk, hmdc', hgru, hlandings, hself, hsaved⟩ :=
        verify_spec hx (by rw [hw.working]; exact hwithin) (by rw [hw.inv]; exact hsave) h1 h2 (r := r)
      rw [hw.inv] at hlandings hsaved
      rw [hmass] at hself
      generalize verify f r w = t at *
      refine ⟨_, hanswer htake, (congrArg (fun y => y.grants.get f) hgru).trans hw.grant,
        funext fun k => landing_of_landings hlandings k, fun _ => ⟨hfin, (tracker_of_ftk hftk f).trans htracker, ?_,
          hsaved, ?_⟩, fun hout => absurd hwithin (Nat.not_le.2 hout)⟩
      · refine hself.trans ?_
        unfold Mass.verified
        cases x.kind <;> rfl
      · exact (congrArg Mdc.mode (hmdc'.trans hmdc) :)
    · have hout := Nat.not_le.1 hwithin
      obtain ⟨hnone, hresult, hverified, hlandings, hgru, hlost⟩ := failVerifying_spec hx .loadMismatch
      obtain ⟨hself, hheld⟩ := failVerifying_trip hx .loadMismatch rfl
      rw [← verify_mismatch hx (by rw [hw.working]; exact hout) (r := r)] at hnone hresult hverified hlandings hgru hlost hself hheld
      rw [hw.inv] at hlandings
      generalize verify f r w = t at *
      refine ⟨_, hanswer htake, (congrArg (fun y => y.grants.get f) hgru).trans hw.grant,
        funext fun k => landing_of_landings hlandings k, fun hin => absurd hin hwithin,
        fun _ => ⟨hnone, hresult, hlost h1 h2, hverified, (congrArg Tracker.state hself :), ?_, ?_⟩⟩
      · refine (congrArg Tracker.reasons hself :).trans ?_
        rw [htracker, kept_tracker]
        rfl
      · refine hheld.trans ?_
        rw [hmdc]
        exact hold_of_held hmode
  · obtain ⟨w, htake, hw, htracker, hhold⟩ := h.released hknown hrel
    have hx := hw.transfer.trans h.transfer
    obtain ⟨hftk, hmdc, hgru⟩ := brakeReleased_still hx
    have hlandings {t : State} (ht : t.inv.landings = w.inv.landings) : t.landing = s.landing :=
      funext fun k => (landing_of_landings ht k).trans (landing_of_landings (congrArg Inv.landings hw.inv) k)
    have hmass : w.mass x.mass = s.mass x.mass := mass_of_masses (congrArg Inv.masses hw.inv) _
    refine ⟨_, hanswer htake, (congrArg (fun y => y.grants.get f) hgru).trans hw.grant,
      (tracker_of_ftk hftk f).trans htracker, fun hs => (congrArg Mdc.mode hmdc).trans (hhold hs), fun hphase => ?_,
      fun hphase => ?_, fun hphase => ?_⟩
    · have heq : brakeReleased f x.phase w = enterAbandoning f .brakeReleased w := by rw [hphase, brakeReleased]
      obtain ⟨hopen, hclosed, -⟩ := enterAbandoning_xfc hx .brakeReleased
      obtain ⟨k, hk⟩ := enterAbandoning_mass hx .brakeReleased x.mass
      rw [hw.inv] at hopen hclosed
      rw [hmass] at hk
      rw [heq]
      refine ⟨hopen, hclosed, fun h1 h2 => ?_⟩
      rw [if_pos ⟨rfl, h1, h2⟩] at hk
      have hrecord (payload : List Byte) :
          (replied p .position payload (enterAbandoning f .brakeReleased w).drive).mass x.mass = _ := hk
      rw [hrecord]
      unfold Mass.restored
      cases x.ret <;> rfl
    · rcases hphase with hphase | hphase
      · have heq : brakeReleased f x.phase w = failRunning f .brakeReleased w := by rw [hphase, brakeReleased]
        obtain ⟨hnone, -, hresult, -⟩ := failRunning_xfc hx .brakeReleased
        obtain ⟨hverified, hmarked⟩ := failRunning_inv hx .brakeReleased
        rw [heq]
        refine ⟨hnone, hresult, hverified, fun h1 h2 => ?_, fun _ hk => ?_, fun hv => absurd (hphase.symm.trans hv) nofun⟩
        · obtain ⟨k, hk⟩ := failRunning_mass hx .brakeReleased h1 h2 x.mass
          rw [if_pos rfl] at hk
          exact congrArg Mass.state hk
        · have hout : ((failRunning f .brakeReleased w).landing x.landing).inService = false := by
            rw [State.landing, hmarked, Bank.getD_set, if_pos ⟨rfl, hk⟩]
          exact hout
      · have heq : brakeReleased f x.phase w = failVerifying f .brakeReleased w := by rw [hphase, brakeReleased]
        obtain ⟨hnone, hresult, hverified, hsame, -, hlost⟩ := failVerifying_spec hx .brakeReleased
        rw [heq]
        exact ⟨hnone, hresult, hverified, hlost, fun hg => absurd (hphase.symm.trans hg) nofun, fun _ => hlandings hsame⟩
    · have heq : brakeReleased f x.phase w = w := by
        rcases hphase with hphase | hphase <;> rw [hphase, brakeReleased]
      rw [heq]
      exact ⟨hx, hw.inv, hw.tku, hw.sti⟩
  · have hbrake : r.brakeSet = true := Bool.eq_true_of_not_eq_false fun hb => hno (.inl hb)
    have hleft {w : State} (hw : Reached f s w) : reportToTransfer f r false w = w :=
      reportToTransfer_left (hw.transfer.trans h.transfer) hno (hidle.imp id .inl)
    refine ⟨fun hs => ?_, fun hs hc => ?_, fun hs hc hv => ?_, fun hs hc hv => ?_⟩
    · obtain ⟨w, htake, hw, -, -, hkept⟩ := h.quiet (.inl hs)
      obtain rfl := hkept (.inl (hother hs nofun))
      rw [hleft hw] at htake
      exact hanswered htake ((congrArg Tracker.state (kept_tracker f r s)).trans hs)
        (congrArg Tracker.reasons (kept_tracker f r s) :)
    · obtain ⟨w, htake, hw, -, -, hkept⟩ := h.quiet (hquiet (.inr ⟨.inl hs, hc⟩) hbrake)
      obtain rfl := hkept (.inl (hother hs nofun))
      rw [hleft hw] at htake
      exact hanswered htake ((congrArg Tracker.state (kept_tracker f r s)).trans hs)
        (congrArg Tracker.reasons (kept_tracker f r s) :)
    · obtain ⟨w, htake, hw, -, -, hkept⟩ := h.quiet (hquiet (.inr ⟨.inr hs, hc⟩) hbrake)
      obtain rfl := hkept (.inr hv)
      rw [hleft hw] at htake
      exact hanswered htake ((congrArg Tracker.state (kept_tracker f r s)).trans hs)
        (congrArg Tracker.reasons (kept_tracker f r s) :)
    · obtain ⟨w, htake, hw, -, hback, -⟩ := h.quiet (hquiet (.inr ⟨.inr hs, hc⟩) hbrake)
      obtain rfl := hback hs hv
      rw [hleft hw] at htake
      have htracker : (askRound (recovered f r s)).tracker f = _ :=
        (tracker_of_ftk (askRound_ftk _) f).trans (recovered_tracker f r s)
      refine hanswered htake (congrArg Tracker.state htracker) ((congrArg Tracker.reasons htracker).trans ?_)
      rw [kept_tracker]
  · have hbrake : r.brakeSet = true := Bool.eq_true_of_not_eq_false fun hb => hno (.inl hb)
    have hall := h.noted_braked hbrake
    have htake := h.noting hstate (hall ▸ hnoted)
    obtain ⟨htracker, -⟩ := tripped_blocks f noted (kept f r s)
    have htrip := trip_eq_tripped (s := kept f r s) (f := f) (x := noted) (.inl (by
      rw [kept_tracker]
      rcases hstate with hstate | hstate
      · exact hother hstate nofun
      · exact hother hstate nofun))
    have hw := (kept_reached f r s).trans (trip_reached f noted (kept f r s))
    rw [htrip] at hw
    rw [hall, ← hnotes, reportToTransfer_left (hw.transfer.trans h.transfer) hno (.inr (.inr rfl))] at htake
    refine hanswered htake (congrArg Tracker.state htracker) ((congrArg Tracker.reasons htracker).trans ?_)
    rw [kept_tracker]

end Sys2Proof.Machine
end

section
/-! SUPPORT. O52: SET_TUNING. -/

namespace Sys2Proof.Machine

/-! ### The parts as they are applied (R15, R16) -/

theorem part_eq {α : Type} (x : TuningParts) (bit : Nat) (a : α) :
    x.part bit a = if x.present.getLsbD bit then some a else none := rfl

theorem Tuning.applyVl_eq (t : Tuning) (works there : Bool) (v : Nat) :
    t.applyVl works (if there then some v else none) = { t with
      vl := if there && works then v else t.vl
      pendingVl := if there then (if works then none else some v) else t.pendingVl } := by
  cases there with
  | false => rfl
  | true => cases works <;> rfl

theorem Tuning.applyLeg_eq (t : Tuning) (works there : Bool) (v : Nat) :
    t.applyLeg works (if there then some v else none) = { t with
      leg := if there && works then v else t.leg
      pendingLeg := if there then (if works then none else some v) else t.pendingLeg } := by
  cases there with
  | false => rfl
  | true => cases works <;> rfl

theorem Arb.applyTable_eq (a : Arb) (works there : Bool) (t : List Frame) :
    a.applyTable works (if there then some t else none) = if !there then a
      else if works then { a with table := t, pendingTable := none, pointer := 0 } else { a with pendingTable := some t } := by
  cases there <;> rfl

/-- A table that was pending is none only where the new one became working (R16). -/
theorem Arb.applyTable_pending (a : Arb) (works : Bool) (x : Option (List Frame))
    (h : (a.pendingTable.isSome && (a.applyTable works x).pendingTable.isNone) = true) : (x.isSome && works) = true := by
  obtain ⟨hsome, hnone⟩ := Bool.and_eq_true_iff.1 h
  cases x with
  | none =>
    rw [Arb.applyTable, Option.isNone_iff_eq_none] at hnone
    rw [hnone] at hsome
    cases hsome
  | some t =>
    cases works with
    | true => rfl
    | false => cases hnone

/-! ### The service table (R14) -/

/-- A service table as the operands of SET_TUNING name it (R182). -/
def namedTable (len : Nat) (entries : List Byte) : List Frame :=
  (entries.take len).map (fun e => if e = 1 then .L else .U)

theorem tableFits_iff (x : TuningParts) : x.tableFits = true ↔
    1 ≤ x.tableEntries.length ∧ x.len ≤ 8 ∧ ∀ e ∈ x.tableEntries, e ≤ 1 := by
  simp [TuningParts.tableFits, and_assoc]

section
variable {x : TuningParts} {len : Byte} {entries : List Byte} (hlen : x.len = len.toNat)
  (hentries : x.entries = entries.map BitVec.toNat)
include hlen hentries

theorem tableEntries_eq : x.tableEntries = (entries.take len.toNat).map BitVec.toNat := by
  rw [TuningParts.tableEntries, hlen, hentries, List.map_take]

theorem tableFits_eq_true (h8 : entries.length = 8) (h1 : 1 ≤ len.toNat) (h2 : len.toNat ≤ 8)
    (hnamed : ∀ e ∈ entries.take len.toNat, e.toNat < 2) : x.tableFits = true := by
  refine (tableFits_iff x).2 ⟨?_, by omega, ?_⟩
  · rw [tableEntries_eq hlen hentries, List.length_map, List.length_take]
    omega
  · rw [tableEntries_eq hlen hentries]
    intro e he
    obtain ⟨b, hb, rfl⟩ := List.mem_map.1 he
    exact Nat.le_of_lt_succ (hnamed b hb)

theorem tableFits_eq_false
    (h : len.toNat = 0 ∨ 8 < len.toNat ∨ ∃ e ∈ entries.take len.toNat, 2 ≤ e.toNat) : x.tableFits = false := by
  refine Bool.eq_false_iff.2 fun hfits => ?_
  obtain ⟨h1, h2, hnamed⟩ := (tableFits_iff x).1 hfits
  rw [tableEntries_eq hlen hentries] at h1 hnamed
  rw [List.length_map, List.length_take] at h1
  rcases h with h | h | ⟨e, he, htwo⟩
  · omega
  · omega
  · have hone := hnamed e.toNat (List.mem_map_of_mem he)
    omega

theorem tableEntries_named (hnamed : ∀ e ∈ entries.take len.toNat, e.toNat < 2) :
    x.tableEntries.map entryFrame = namedTable len.toNat entries := by
  rw [tableEntries_eq hlen hentries, List.map_map]
  refine List.map_congr_left fun e he => ?_
  have htwo := hnamed e he
  by_cases hone : e = 1
  · rw [if_pos hone, hone]
    rfl
  · have hzero : e.toNat = 0 := by
      have hne : e.toNat ≠ 1 := fun h => hone (BitVec.eq_of_toNat_eq h)
      omega
    rw [if_neg hone, Function.comp_apply, hzero]
    rfl

end

/-! ### The reply (R14; log 21) -/

theorem partReply_eq {bytes : List Byte} {width : Nat} (h : bytes.length = width) (there works : Bool) :
    partReply width (if there then some bytes else none) works =
      if there then [1] ++ bytes ++ [if works then 1 else 0] else [0] ++ bytes.map (fun _ => 0) ++ [0] := by
  cases there with
  | true => rfl
  | false =>
    rw [if_neg Bool.false_ne_true, if_neg Bool.false_ne_true, List.map_const', h, List.append_assoc, ← List.replicate_succ']
    rfl

theorem tableBytes_eq (t : List Frame) : tableBytes t = u8 t.length ++
    (List.range 8).flatMap (fun i => u8 (if i < t.length then frameCode (t.getD i .U) else 0)) := by
  have hentry (i : Nat) : (t[i]?.map frameCode).getD 0 = if i < t.length then frameCode (t.getD i .U) else 0 := by
    by_cases hi : i < t.length
    · rw [if_pos hi, List.getD_eq_getElem _ _ hi, List.getElem?_eq_getElem hi]
      rfl
    · rw [if_neg hi, List.getElem?_eq_none (Nat.le_of_not_lt hi)]
      rfl
  simp only [tableBytes, hentry]

theorem tableBytes_length (t : List Frame) : (u8 t.length ++
    (List.range 8).flatMap (fun i => u8 (if i < t.length then frameCode (t.getD i .U) else 0))).length = 9 := rfl

theorem partReply_part (x : TuningParts) (bit : Nat) {v width : Nat} {bytes : Nat → List Byte}
    (h : (bytes v).length = width) (works : Bool) :
    partReply width ((x.part bit v).map bytes) works = if x.present.getLsbD bit then
      [1] ++ bytes v ++ [if works then 1 else 0] else [0] ++ (bytes v).map (fun _ => 0) ++ [0] := by
  have hmap : (x.part bit v).map bytes = if x.present.getLsbD bit then some (bytes v) else none := by
    rw [part_eq]
    cases x.present.getLsbD bit <;> rfl
  rw [hmap]
  exact partReply_eq h _ _

/-! ### The request (R14 to R16) -/

section
variable (x : TuningParts) (s : State)

theorem setTuning_range (hthere : x.present.getLsbD 4 = true) (hfits : x.tableFits = false) :
    setTuning x s = answer s .range :=
  if_pos (by rw [hthere, hfits]; rfl)

theorem setTuning_applied (hfits : x.present.getLsbD 4 = true → x.tableFits = true) : setTuning x s =
    answerWith (askRoundIf (tuningTookEffect s (applyTuning x s) x) (applyTuning x s)).drive .ok (tuningReply s x) := by
  refine if_neg fun hno => ?_
  obtain ⟨hthere, hbad⟩ := Bool.and_eq_true_iff.1 hno
  rw [hfits hthere] at hbad
  cases hbad

/-- A working value changes by a VL or a LEG, or by a table that becomes working (R15, R16; log 15). -/
theorem tuningTookEffect_eq : tuningTookEffect s (applyTuning x s) x =
    ((applyTuning x s).svt.tuning.u.vl != s.svt.tuning.u.vl || (applyTuning x s).svt.tuning.u.leg != s.svt.tuning.u.leg ||
      (applyTuning x s).svt.tuning.l.vl != s.svt.tuning.l.vl || (applyTuning x s).svt.tuning.l.leg != s.svt.tuning.l.leg ||
      ((tuningTable x).isSome && noRequests s)) := by
  have hpending := Arb.applyTable_pending s.arb (noRequests s) (tuningTable x)
  unfold tuningTookEffect tuningChanged
  have harb : (applyTuning x s).arb = s.arb.applyTable (noRequests s) (tuningTable x) := rfl
  rw [harb]
  generalize (s.arb.pendingTable.isSome && (s.arb.applyTable (noRequests s) (tuningTable x)).pendingTable.isNone) = lost at *
  cases lost with
  | false => rw [Bool.or_false]
  | true => rw [hpending rfl, Bool.or_true, Bool.or_true]

end

/-- Settles O52: the table is checked, then each part is applied by whether its frame holds a request. -/
theorem setTuningAppliesItsParts : Obligations.SetTuningAppliesItsParts := by
  intro p present vlU legU vlL legL len entries s has c clamp vl free tuned table arb u changed part bytes h h8
  let x : TuningParts :=
    ⟨present, vlU.toNat, legU.toNat, vlL.toNat, legL.toNat, len.toNat, entries.map BitVec.toNat⟩
  have hexec {t : State} {payload : List Byte} (hb : setTuning x s = (t, payload)) :
      exec c s = .next (replied p .setTuning payload t) := exec_of_admitted (i := c) rfl h hb
  refine ⟨fun hhas hbad => hexec (setTuning_range x s hhas (tableFits_eq_false rfl rfl hbad)), fun hgood => ?_⟩
  have hfits : has 4 = true → x.tableFits = true := fun hhas =>
    tableFits_eq_true rfl rfl h8 (hgood hhas).1 (hgood hhas).2.1 (hgood hhas).2.2
  have htable : tuningTable x = if has 4 then some table else none := by
    refine (part_eq x 4 _).trans ?_
    by_cases hhas : has 4 = true
    · rw [tableEntries_named (x := x) rfl rfl (hgood hhas).2.2]
      rfl
    · exact (if_neg hhas).trans (if_neg hhas).symm
  have htuned : applyTuning x s = u := by
    have hU : tunedFrame s x .U = tuned .U (has 0) vlU.toNat (has 1) legU.toNat :=
      (congrArg (Tuning.applyLeg · _ _) (Tuning.applyVl_eq _ _ _ _)).trans (Tuning.applyLeg_eq _ _ _ _)
    have hL : tunedFrame s x .L = tuned .L (has 2) vlL.toNat (has 3) legL.toNat :=
      (congrArg (Tuning.applyLeg · _ _) (Tuning.applyVl_eq _ _ _ _)).trans (Tuning.applyLeg_eq _ _ _ _)
    have harb : s.arb.applyTable (noRequests s) (tuningTable x) = arb := by
      rw [htable]
      exact Arb.applyTable_eq _ _ _ _
    rw [applyTuning, hU, hL, harb]
  have hchanged : tuningTookEffect s (applyTuning x s) x = changed := by
    have hthere : (tuningTable x).isSome = has 4 := by
      rw [htable]
      cases has 4 <;> rfl
    rw [tuningTookEffect_eq, hthere, htuned]
    exact congrArg (_ || ·) (Bool.and_assoc _ _ _).symm
  have hreply : tuningReply s x = part (has 0) (u16 (vl .U vlU.toNat)) (free .U) ++
      part (has 1) (u8 (clamp 2 64 legU.toNat)) (free .U) ++ part (has 2) (u16 (vl .L vlL.toNat)) (free .L) ++
      part (has 3) (u8 (clamp 2 64 legL.toNat)) (free .L) ++ part (has 4) bytes (free .U && free .L) := by
    have htableReply : partReply 9 ((tuningTable x).map Machine.tableBytes) (noRequests s) =
        part (has 4) bytes (free .U && free .L) := by
      have hmap : (tuningTable x).map Machine.tableBytes = if has 4 then some bytes else none := by
        rw [htable]
        cases has 4 with
        | false => rfl
        | true => exact congrArg some (tableBytes_eq table)
      rw [hmap]
      exact partReply_eq (tableBytes_length table) _ _
    rw [tuningReply, htableReply]
    exact congrArg₂ (· ++ ·) (congrArg₂ (· ++ ·) (congrArg₂ (· ++ ·) (congrArg₂ (· ++ ·)
      (partReply_part x 0 (bytes := u16) rfl (free .U)) (partReply_part x 1 (bytes := u8) rfl (free .U)))
      (partReply_part x 2 (bytes := u16) rfl (free .L))) (partReply_part x 3 (bytes := u8) rfl (free .L))) rfl
  have hb := setTuning_applied x s hfits
  rw [hchanged, htuned, hreply] at hb
  have hexec' := hexec hb
  simp only [List.append_assoc] at hexec' ⊢
  exact hexec'

end Sys2Proof.Machine
end

section
/-! SUPPORT. O53: the items of a survey, one replaced. -/

namespace Sys2Proof.Machine

/-! ### An item replaced is the one that is read back (R4, R6) -/

theorem Winder.item_setItem_of_ne {c code : Nat} (h : c ≠ code) (w : Winder) (value : Nat) :
    (w.setItem code value).item c = w.item c := by
  unfold Winder.setItem
  split
  -- each code replaces a field that no other code reads
  all_goals
    unfold Winder.item
    split
    all_goals first | rfl | contradiction

theorem winder_item_set {c code : Nat} (h : c ≠ code) (w : Pair Winder) (f g : Frame) (value : Nat) :
    ((w.set f ((w.get f).setItem code value)).get g).item c = (w.get g).item c := by
  rw [Pair.get_set]
  split
  · next hg => rw [Winder.item_setItem_of_ne h, hg]
  · rfl

/-- An item of another code stays; the derived counts are not items that are set. -/
theorem item_setItem_of_ne {c code : Nat} (h : c ≠ code) (hnz : c ≠ 0x0A) (hnb : c ≠ 0x0B) (sv : Survey)
    (i index value : Nat) : (sv.setItem code index value).item c i = sv.item c i := by
  unfold Survey.setItem
  split
  all_goals
    unfold Survey.item
    split
    all_goals first | rfl | contradiction | exact winder_item_set h _ _ _ _

/-- The item of a code is read from, and written to, the winder that its index names. -/
structure WinderCode (c : Nat) : Prop where
  read : ∀ (sv : Survey) (i : Nat), sv.item c i = (sv.winder.get (indexFrame i)).item c
  write : ∀ (sv : Survey) (i v : Nat), sv.setItem c i v =
    { sv with winder := sv.winder.set (indexFrame i) ((sv.winder.get (indexFrame i)).setItem c v) }
  written : ∀ (w : Winder) (v : Nat), (w.setItem c v).item c = v

section
variable {c index : Nat} (sv : Survey) (value : Nat)

theorem WinderCode.same (h : WinderCode c) : (sv.setItem c index value).item c index = value := by
  rw [h.read, h.write, Pair.get_set_self, h.written]

theorem WinderCode.other (h : WinderCode c) {i : Nat} (hi : i < 2) (hindex : index < 2) (hne : i ≠ index) :
    (sv.setItem c index value).item c i = sv.item c i := by
  have hframe : indexFrame i ≠ indexFrame index := by
    unfold indexFrame
    split <;> split <;> first | omega | nofun
  rw [h.read, h.write, Pair.get_set, if_neg hframe, h.read]

end

/-- An item of the same code and another index stays: only those of landings, winders and the table have one. -/
theorem item_setItem_index {code i index n : Nat} (hn : itemIndices code = some n) (hi : i < n) (hindex : index < n)
    (h : i ≠ index) (sv : Survey) (value : Nat) : (sv.setItem code index value).item code i = sv.item code i := by
  have hbank {m : Nat} (b : Bank Nat m) : (b.set index value).getD i 0 = b.getD i 0 := by
    rw [Bank.getD_set, if_neg (fun hsame => h hsame.1)]
  unfold itemIndices at hn
  split at hn
  all_goals
    cases hn
  all_goals first
    | omega
    | exact hbank _
    | exact WinderCode.other sv value ⟨fun _ _ => rfl, fun _ _ _ => rfl, fun _ _ => rfl⟩ hi hindex h

theorem item_setItem_self {code index n lo hi : Nat} (hn : itemIndices code = some n) (hindex : index < n)
    (hr : itemRange code = some (lo, hi)) (sv : Survey) (value : Nat) :
    (sv.setItem code index value).item code index = value := by
  have hbank {m : Nat} (hm : n = m) (b : Bank Nat m) : (b.set index value).getD index 0 = value := by
    rw [Bank.getD_set, if_pos ⟨rfl, hm ▸ hindex⟩]
  unfold itemRange at hr
  split at hr
  all_goals first
    | rfl
    | exact hbank (Option.some.inj hn).symm _
    | exact WinderCode.same sv value ⟨fun _ _ => rfl, fun _ _ _ => rfl, fun _ _ => rfl⟩
    | cases hr

/-- Every other item that there is stays (R6). -/
theorem item_setItem_other {code index n c i n' : Nat} (hn : itemIndices code = some n) (hindex : index < n)
    (hn' : itemIndices c = some n') (hi : i < n') (hnz : c ≠ 0x0A) (hnb : c ≠ 0x0B) (h : (c, i) ≠ (code, index))
    (sv : Survey) (value : Nat) : (sv.setItem code index value).item c i = sv.item c i := by
  by_cases hc : c = code
  · subst hc
    obtain rfl : n' = n := Option.some.inj (hn'.symm.trans hn)
    exact item_setItem_index hn hi hindex (fun hsame => h (congrArg _ hsame)) sv value
  · exact item_setItem_of_ne hc hnz hnb sv i index value

theorem itemAccepts_of {code index value n lo hi : Nat} (hn : itemIndices code = some n) (hindex : index < n)
    (hr : itemRange code = some (lo, hi)) (hlo : lo ≤ value) (hhi : value ≤ hi) : itemAccepts code index value = true := by
  simp [itemAccepts, hn, hr, hindex, hlo, hhi]

end Sys2Proof.Machine
end

section
/-! SUPPORT. O53: SAVE_SURVEY's checks, and the hand-over to STI. -/

namespace Sys2Proof.Machine

/-! ### The lowest number that a check fails for (R8, R9) -/

/-- A condition holds of a number and of none below it. -/
def Lowest (fails : Nat → Prop) (k : Nat) : Prop :=
  fails k ∧ ∀ j < k, ¬ fails j

section
variable {l : List Nat} {c : Nat → Bool} {fails : Nat → Prop} (hc : ∀ k, fails k ↔ k ∈ l ∧ c k = true)
include hc

theorem find?_lowest (hl : l.Pairwise (· < ·)) {k : Nat} (h : Lowest fails k) : l.find? c = some k := by
  obtain ⟨hk, hleast⟩ := h
  obtain ⟨hmem, hck⟩ := (hc k).1 hk
  exact find?_least hl hmem hck fun j hj hjk =>
    Bool.eq_false_iff.2 fun hcj => hleast j hjk ((hc j).2 ⟨hj, hcj⟩)

theorem find?_none (h : ∀ k, ¬ fails k) : l.find? c = none :=
  List.find?_eq_none.2 fun k hk hck => h k ((hc k).2 ⟨hk, hck⟩)

end

theorem mem_upperLandings (sv : Survey) (k : Nat) : k ∈ sv.upperLandings ↔ 1 ≤ k ∧ k < sv.nl := by
  simp [Survey.upperLandings, and_comm]

theorem upperLandings_sorted (sv : Survey) : sv.upperLandings.Pairwise (· < ·) :=
  List.Pairwise.filter _ List.pairwise_lt_range

/-! ### The checks of the shape (R8) -/

section
variable {sv : Survey} {k : Nat}

theorem height_iff (k : Nat) : (k < sv.nl ∧ sv.sl < sv.floor k + sv.fh) ↔
    k ∈ List.range sv.nl ∧ decide (sv.floor k + sv.fh > sv.sl) = true := by
  simp

theorem upper_iff (c : Nat → Prop) [DecidablePred c] (k : Nat) :
    ((1 ≤ k ∧ k < sv.nl) ∧ c k) ↔ k ∈ sv.upperLandings ∧ decide (c k) = true := by
  rw [mem_upperLandings, decide_eq_true_iff]

theorem checkDefaultVl_none (hU : ¬ sv.winder.u.vlMax < sv.winder.u.defaultVl)
    (hL : ¬ sv.winder.l.vlMax < sv.winder.l.defaultVl) : checkDefaultVl sv = none := by
  simp [checkDefaultVl, Pair.get, hU, hL]

theorem checkDefaultVl_upper (hU : sv.winder.u.vlMax < sv.winder.u.defaultVl) : checkDefaultVl sv = some (8, 0) := by
  simp [checkDefaultVl, Pair.get, hU, frameCode]

theorem checkDefaultVl_lower (hU : ¬ sv.winder.u.vlMax < sv.winder.u.defaultVl)
    (hL : sv.winder.l.vlMax < sv.winder.l.defaultVl) : checkDefaultVl sv = some (8, 1) := by
  simp [checkDefaultVl, Pair.get, hU, hL, frameCode]

end

/-! ### The checks against the inventory (R9) -/

theorem landingInUse_iff (edit : Survey) (r : Mass) : landingInUse edit r = true ↔
    r.state = .carried ∧ ∃ k, r.landing = some k ∧ edit.nl ≤ k := by
  unfold landingInUse
  cases r.landing with
  | none => simp
  | some k => simp

theorem bayInUse_iff (state : SurveyState) (working edit : Survey) (r : Mass) : bayInUse state working edit r = true ↔
    ∃ b, r.namedBay = some b ∧ if state = .unconfigured then edit.nb ≤ b
      else edit.bayIdentity b = none ∨ edit.bayIdentity b ≠ working.bayIdentity b := by
  unfold bayInUse
  cases r.namedBay with
  | none => simp
  | some b =>
    by_cases h : state = .unconfigured <;> simp [h]

theorem validation_of_shape {s : State} {x : Nat × Nat} (h : s.svt.edit.shapeCheck = some x) : validation s = some x := by
  rw [validation, h]
  rfl

theorem validation_of_inventory {s : State} {x : Nat × Nat} (h : s.svt.edit.shapeCheck = none)
    (hx : inventoryCheck s = some x) : validation s = some x := by
  rw [validation, h, hx]
  rfl

/-! ### The hand-over (R175, R176) -/

theorem targetSlot_eq (x : Option Slot) : targetSlot x = if x = some .a then .b else .a := by
  cases x with
  | none => rfl
  | some y => cases y <;> rfl

/-- Settles O53: an item is checked and written; a save goes through its ten checks and hands the image over. -/
theorem surveyItemsAreEditedAndSaved : Obligations.SurveyItemsAreEditedAndSaved := by
  intro p item index value s noItem noSave saving sti
  have hitem {t : State} {payload : List Byte} (h : Admitted s p .setSurveyItem)
      (hb : setSurveyItem item.toNat index.toNat value.toNat s = (t, payload)) :
      exec (.setSurveyItem p item index value) s = .next (replied p .setSurveyItem payload t) :=
    exec_of_admitted rfl h hb
  have hsave {t : State} {payload : List Byte} (h : Admitted s p .saveSurvey) (hb : saveSurvey s = (t, payload)) :
      exec (.saveSurvey p) s = .next (replied p .saveSurvey payload t) := exec_of_admitted rfl h hb
  refine ⟨fun h hm => hitem h (if_pos hm), fun h hm hout => hitem h ?_, fun h hm hin hno => hitem h ?_,
    fun n lo hi h hm hin hn hindex hr hlo hhi => ?_, fun h hm => hsave h (if_pos hm), fun h hm hout => hsave h ?_,
    fun h hm hin => ?_, fun h hm hin hshape hinventory => ?_⟩
  · exact (if_neg (not_not.2 hm)).trans (if_pos hout)
  · exact (if_neg (not_not.2 hm)).trans ((if_neg (by simp [hin])).trans (if_pos (by simp [hno])))
  · have haccepts : itemAccepts item.toNat index.toNat value.toNat = true := itemAccepts_of hn hindex hr hlo hhi
    have hb : setSurveyItem item.toNat index.toNat value.toNat s = _ :=
      (if_neg (not_not.2 hm)).trans ((if_neg (by simp [hin])).trans (if_neg (by simp [haccepts])))
    exact ⟨_, _, hitem h hb, item_setItem_self hn hindex hr _ _,
      fun c i n' hn' hi hnz hnb hne => item_setItem_other hn hindex hn' hi hnz hnb hne _ _, rfl⟩
  · exact (if_neg (not_not.2 hm)).trans (if_pos hout)
  · intro sv lowest upper count head height order spacing zone bays fast landing bay none_
    have hno {code k : Nat} (hv : validation s = some (code, k)) : noSave ([0x27] ++ (u8 code ++ u8 k)) := by
      refine hsave h ((if_neg (not_not.2 hm)).trans ((if_neg (by simp [hin])).trans ?_))
      rw [hv]
      rfl
    have hcount : ¬ count → checkZoneCount sv = none := fun hc => if_neg hc
    have hhead : ¬ head → checkHeadElevation sv = none := fun hc => if_neg hc
    have hheight : none_ height → checkLandingHeight sv = none := fun hc => by
      rw [checkLandingHeight, find?_none height_iff hc]
      rfl
    have horderIff (k : Nat) : order k ↔ k ∈ sv.upperLandings ∧ decide (sv.floor k ≤ sv.floor (k - 1)) = true :=
      upper_iff (sv := sv) (fun k => sv.floor k ≤ sv.floor (k - 1)) k
    have horder : none_ order → checkLandingOrder sv = none := fun hc => by
      rw [checkLandingOrder, find?_none horderIff hc]
      rfl
    have hspacingIff (k : Nat) : spacing k ↔ k ∈ sv.upperLandings ∧ decide (sv.floor k < sv.floor (k - 1) + sv.fh) = true :=
      upper_iff (sv := sv) (fun k => sv.floor k < sv.floor (k - 1) + sv.fh) k
    have hspacing : none_ spacing → checkLandingSpacing sv = none := fun hc => by
      rw [checkLandingSpacing, find?_none hspacingIff hc]
      rfl
    have hzoneIff (k : Nat) : zone k ↔ k ∈ sv.upperLandings ∧ decide (sv.zoneOf (sv.floor k) = sv.zoneOf (sv.floor (k - 1))) = true :=
      upper_iff (sv := sv) (fun k => sv.zoneOf (sv.floor k) = sv.zoneOf (sv.floor (k - 1))) k
    have hzone : none_ zone → checkLandingZone sv = none := fun hc => by
      rw [checkLandingZone, find?_none hzoneIff hc]
      rfl
    have hbays : ¬ bays → checkBayCount sv = none := fun hc => if_neg hc
    have hshape (h1 : ¬ count) (h2 : ¬ head) (h3 : none_ height) (h4 : none_ order) (h5 : none_ spacing) (h6 : none_ zone)
        (h7 : ¬ bays) (h8 : ¬ fast .U) (h8' : ¬ fast .L) : sv.shapeCheck = none := by
      simp [Survey.shapeCheck, hcount h1, hhead h2, hheight h3, horder h4, hspacing h5, hzone h6, hbays h7, checkDefaultVl_none h8 h8']
    have hlanding (id : Nat) : landing id ↔ id ∈ massIds ∧ landingInUse s.svt.edit (s.mass id) = true := by
      rw [landingInUse_iff, mem_massIds, and_assoc]
    have hbay (id : Nat) : bay id ↔ id ∈ massIds ∧
        bayInUse s.svt.state s.svt.working s.svt.edit (s.mass id) = true := by
      rw [bayInUse_iff, mem_massIds, and_assoc]
    refine ⟨fun h1 => hno ?_, fun h1 h2 => hno ?_, fun k h1 h2 h3 => hno (code := 3) ?_, fun k h1 h2 h3 h4 => hno (code := 4) ?_,
      fun k h1 h2 h3 h4 h5 => hno (code := 5) ?_, fun k h1 h2 h3 h4 h5 h6 => hno (code := 6) ?_, fun h1 h2 h3 h4 h5 h6 => ⟨fun h7 => hno ?_,
        fun h7 h8 => hno ?_, fun h7 h8 h8' => hno ?_, fun id h7 h8 h8' h9 => hno (code := 9) ?_,
        fun id h7 h8 h8' h9 h10 => hno (code := 10) ?_⟩⟩
    · have hfails : checkZoneCount sv = some _ := if_pos h1
      refine validation_of_shape (?_ : sv.shapeCheck = _)
      simp [Survey.shapeCheck, hfails]
    · have hfails : checkHeadElevation sv = some _ := if_pos h2
      refine validation_of_shape (?_ : sv.shapeCheck = _)
      simp [Survey.shapeCheck, hcount h1, hfails]
    · have hfails : checkLandingHeight sv = some (3, k) := by
        rw [checkLandingHeight, find?_lowest height_iff List.pairwise_lt_range h3]
        rfl
      refine validation_of_shape (?_ : sv.shapeCheck = _)
      simp [Survey.shapeCheck, hcount h1, hhead h2, hfails]
    · have hfails : checkLandingOrder sv = some (4, k) := by
        rw [checkLandingOrder, find?_lowest horderIff (upperLandings_sorted sv) h4]
        rfl
      refine validation_of_shape (?_ : sv.shapeCheck = _)
      simp [Survey.shapeCheck, hcount h1, hhead h2, hheight h3, hfails]
    · have hfails : checkLandingSpacing sv = some (5, k) := by
        rw [checkLandingSpacing, find?_lowest hspacingIff (upperLandings_sorted sv) h5]
        rfl
      refine validation_of_shape (?_ : sv.shapeCheck = _)
      simp [Survey.shapeCheck, hcount h1, hhead h2, hheight h3, horder h4, hfails]
    · have hfails : checkLandingZone sv = some (6, k) := by
        rw [checkLandingZone, find?_lowest hzoneIff (upperLandings_sorted sv) h6]
        rfl
      refine validation_of_shape (?_ : sv.shapeCheck = _)
      simp [Survey.shapeCheck, hcount h1, hhead h2, hheight h3, horder h4, hspacing h5, hfails]
    · have hfails : checkBayCount sv = some _ := if_pos h7
      refine validation_of_shape (?_ : sv.shapeCheck = _)
      simp [Survey.shapeCheck, hcount h1, hhead h2, hheight h3, horder h4, hspacing h5, hzone h6, hfails]
    · refine validation_of_shape (?_ : sv.shapeCheck = _)
      simp [Survey.shapeCheck, hcount h1, hhead h2, hheight h3, horder h4, hspacing h5, hzone h6, hbays h7, checkDefaultVl_upper h8]
    · refine validation_of_shape (?_ : sv.shapeCheck = _)
      simp [Survey.shapeCheck, hcount h1, hhead h2, hheight h3, horder h4, hspacing h5, hzone h6, hbays h7, checkDefaultVl_lower h8 h8']
    · refine validation_of_inventory (hshape h1 h2 h3 h4 h5 h6 h7 h8 h8') ?_
      rw [inventoryCheck, find?_lowest hlanding massIds_sorted h9]
      rfl
    · refine validation_of_inventory (hshape h1 h2 h3 h4 h5 h6 h7 h8 h8') ?_
      rw [inventoryCheck, find?_none hlanding h9, find?_lowest hbay massIds_sorted h10]
      rfl
  · refine hsave h ((if_neg (not_not.2 hm)).trans ((if_neg (by simp [hin])).trans ?_))
    have hnone : validation s = none := by rw [validation, hshape, hinventory]; rfl
    rw [hnone]
    have hsti : s.sti.handOver .survey (surveyBody s.svt.edit) = sti := by
      cases hop : s.sti.op <;> simp only [sti, Sti.handOver, Sti.beginWrite, hop, targetSlot_eq] <;> rfl
    exact congrArg (fun x => (saving.setSti x, [Status.pending.code])) hsti

end Sys2Proof.Machine
end

section
/-! SUPPORT. O54: DECLARE_MASS and CONFIRM_INVENTORY. -/

namespace Sys2Proof.Machine

/-! ### Saves and the inventory state (R90, R92) -/

/-- The save state that a request leaves (R92). -/
def SaveState.requested : SaveState → SaveState
  | .clean => .writing
  | .writing => .writingDirty
  | .writingDirty => .writingDirty
  | .notSaved => .notSaved

theorem saveRequest_requested (w : List Waiter) (s : State) : (saveRequest w s).inv.save = s.inv.save.requested := by
  unfold saveRequest
  cases h : s.inv.save with
  | clean => rfl
  | writing => rfl
  | writingDirty => exact h
  | notSaved => exact h

theorem saveRequestIf_save (b : Bool) (s : State) :
    (saveRequestIf b s).inv.save = if b then s.inv.save.requested else s.inv.save := by
  cases b with
  | false => rfl
  | true => exact saveRequest_requested [] s

theorem setVerified_flag {v : Bool} {s : State} (h : s.inv.verified ≠ v) {w : PortId}
    (hw : isWatcher (s.port w).role = true) : ((setVerified v s).port w).flags.getLsbD 12 = true := by
  rw [setVerified, if_neg h]
  exact flag_raiseOn hw rfl

theorem setVerified_replies (v : Bool) (s : State) (p : PortId) :
    ((setVerified v s).port p).replies = (s.port p).replies := by
  have hset : Steady (s.setInv { s.inv with verified := v })
      ((s.setInv { s.inv with verified := v }).raiseWatchers .inventoryState) := Steady.raiseWatchers (.refl _) _
  unfold setVerified
  split
  · rfl
  · exact (hset.port p).replies

/-! ### A declaration (R99) -/

section
variable {s : State} {old : Mass} {nominal a b : Nat}

theorem declaredRecord_absent : declaredRecord s old nominal 0 a b = some { old with
    state := .absent, nominal := nominal, bay := none, frame := none, landing := none } := rfl

theorem declaredRecord_stored (h : a < s.svt.working.nb) : declaredRecord s old nominal 1 a b = some { old with
    state := .stored, nominal := nominal, bay := some a, frame := none, landing := none } := if_pos h

theorem declaredRecord_noBay (h : s.svt.working.nb ≤ a) : declaredRecord s old nominal 1 a b = none :=
  if_neg (Nat.not_lt.2 h)

theorem declaredRecord_carried {f : Frame} (ha : a = frameCode f) (h : b < s.svt.working.nl) :
    declaredRecord s old nominal 2 a b = some { old with
      state := .carried, nominal := nominal, bay := none, frame := some f, landing := some b } := by
  change (match frameOfCode a with
    | some f => _
    | none => _) = _
  rw [ha, frameOfCode_frameCode]
  exact if_pos h

theorem declaredRecord_noPlace (h : 2 ≤ a ∨ s.svt.working.nl ≤ b) : declaredRecord s old nominal 2 a b = none := by
  change (match frameOfCode a with
    | some f => _
    | none => _) = _
  cases hf : frameOfCode a with
  | none => rfl
  | some f =>
    refine if_neg fun hlt => ?_
    rcases h with h | h
    · rw [frameOfCode_none h] at hf
      cases hf
    · omega

theorem declaredRecord_noKind {kind : Nat} (h : 2 < kind) : declaredRecord s old nominal kind a b = none := by
  by_cases h3 : kind = 3
  · rw [h3]
    rfl
  by_cases h4 : kind = 4
  · rw [h4]
    rfl
  have hnone : massStateOfCode kind = none := List.getElem?_eq_none (by simp; omega)
  rw [declaredRecord, hnone]

end

/-- The BAY check of a declaration in a bay (R99, check 4). -/
theorem declareBayFits_iff {s : State} {id b : Nat} {r : Mass} (hr : r.bay = some b) : declareBayFits s id r = true ↔
    bayUsable s b = true ∧ ((s.bay b).content = none ∨ (s.bay b).content = some id) := by
  simp [declareBayFits, hr]

theorem declareFrameFits_iff {s : State} {id : Nat} {f : Frame} {r : Mass} (hr : r.frame = some f) :
    declareFrameFits s id r = true ↔ ∀ j ∈ massIds, j ≠ id → (s.mass j).namedFrame ≠ some f := by
  simp only [declareFrameFits, hr, List.all_eq_true, Bool.or_eq_true, beq_iff_eq, bne_iff_ne]
  exact forall₂_congr fun j _ => Decidable.or_iff_not_imp_left

section
variable {id nominal kind a b : Nat} {s : State}

theorem declareMass_range (hmode : s.mdc.mode = .lockout)
    (h : declareInRange id nominal = false ∨ declaredRecord s (s.mass id) nominal kind a b = none) :
    declareMass id nominal kind a b s = answer s .range := by
  rw [declareMass, if_neg (not_not.2 hmode)]
  rcases h with h | h
  · rw [h]
    rfl
  · rw [h]
    split <;> rfl

variable {r : Mass} (hmode : s.mdc.mode = .lockout) (hrange : declareInRange id nominal = true)
  (hr : declaredRecord s (s.mass id) nominal kind a b = some r)
include hmode hrange hr

theorem declareMass_bay (h : declareBayFits s id r = false) : declareMass id nominal kind a b s = answer s .bay := by
  rw [declareMass, if_neg (not_not.2 hmode), hrange, hr]
  dsimp only
  rw [h]
  rfl

theorem declareMass_frame (hb : declareBayFits s id r = true) (h : declareFrameFits s id r = false) :
    declareMass id nominal kind a b s = answer s .frame := by
  rw [declareMass, if_neg (not_not.2 hmode), hrange, hr]
  dsimp only
  rw [hb, h]
  rfl

theorem declareMass_declared (hb : declareBayFits s id r = true) (hf : declareFrameFits s id r = true) :
    declareMass id nominal kind a b s = answerWith (declare id r s).drive .ok
      (massItems ((declare id r s).mass id) ++ u32 (declare id r s).inv.storedKJ) := by
  rw [declareMass, if_neg (not_not.2 hmode), hrange, hr]
  dsimp only
  rw [hb, hf]
  rfl

end

/-- What a declaration leaves (R86, R90, R92, R96, R99). -/
structure Declared (id : Nat) (r : Mass) (s t : State) : Prop where
  mass : t.mass id = r
  others : ∀ j, j ≠ id → t.mass j = s.mass j
  verified : t.inv.verified = false
  save : t.inv.save = if r ≠ s.mass id ∨ s.inv.verified = true then s.inv.save.requested else s.inv.save
  bays : ∀ c < 40, (t.bay c).content = bayContent t.inv.masses c ∧ (t.bay c).inService = (s.bay c).inService
  flag : s.inv.verified = true → ∀ w, isWatcher (s.port w).role = true → (t.port w).flags.getLsbD 12 = true
  stored : t.inv.storedKJ = storedOf (rawSum s.svt.working t.inv.masses)
  svt : t.svt = s.svt
  ftk : t.ftk = s.ftk
  tku : t.tku = s.tku
  steady : Steady s t

theorem declared {id : Nat} (h1 : 1 ≤ id) (h2 : id ≤ 40) (r : Mass) (s : State) : Declared id r s (declare id r s) := by
  have hmass := putMass_mass_all r s h1 h2
  obtain ⟨hbays, hraw, hstored⟩ := putMass_places id r s (Nat.ne_of_gt h1)
  obtain ⟨hverified, -, hsave, -⟩ := putMass_inv id r s
  have hset := setVerified_inv false (putMass id r s)
  obtain ⟨hmasses', hbays', -, hverified', hstored'⟩ :=
    saveRequestIf_inv (s.mass id != r || s.inv.verified) (setVerified false (putMass id r s))
  have hsave' := saveRequestIf_save (s.mass id != r || s.inv.verified) (setVerified false (putMass id r s))
  rw [hset] at hmasses' hbays' hverified' hstored' hsave'
  have hmasses'' : (declare id r s).inv.masses = (putMass id r s).inv.masses := hmasses'
  have hbay (c : Nat) : (declare id r s).bay c = (putMass id r s).bay c := bay_of_bays hbays' c
  have hservice (c : Nat) (hc : c < 40) : ((putMass id r s).bay c).inService = (s.bay c).inService := by
    simp only [putMass, Nat.ne_of_gt h1, if_false, State.bay, State.setInv, Inv.rebuildBays, Inv.recompute,
      Bank.getD_ofFn, hc, if_true]
  have hsteady : Steady s (declare id r s) :=
    ((putMass_steady id r s).trans (setUnverified_steady _)).trans (saveRequestIf_steady _ _)
  have hkeeps := (((putMass_inventory id r s).trans (setVerified_inventory false _)).trans
    (saveRequestIf_inventory (s.mass id != r || s.inv.verified) _)).keeps
  exact {
    mass := (mass_of_masses hmasses'' id).trans ((hmass id).trans (if_pos rfl))
    others := fun j hj => (mass_of_masses hmasses'' j).trans ((hmass j).trans (if_neg hj))
    verified := hverified'
    save := by
      refine hsave'.trans ?_
      rw [hsave]
      refine if_congr ?_ rfl rfl
      rw [Bool.or_eq_true, bne_iff_ne, ne_comm]
    bays := fun c hc => by
      rw [hbay, hmasses'']
      exact ⟨hbays c hc, hservice c hc⟩
    flag := fun hv w hw => by
      have hput : (putMass id r s).inv.verified ≠ false := by
        rw [hverified, hv]
        nofun
      have hrole := ((putMass_steady id r s).port w).role
      exact ((saveRequestIf_steady _ _).port w).flag (setVerified_flag hput (hrole.symm ▸ hw))
    stored := by
      rw [hmasses'']
      exact hstored'.trans (hstored.trans (congrArg storedOf hraw))
    svt := hkeeps.2.2.2.2.2
    ftk := hkeeps.2.1
    tku := hkeeps.2.2.2.2.1
    steady := hsteady }

/-! ### CONFIRM_INVENTORY (R100) -/

theorem barsConfirming_iff (r : Mass) : barsConfirming r = true ↔ r.state = .unaccounted ∨ r.state = .inTransfer := by
  simp [barsConfirming]

theorem least_of_exists {fails : Nat → Prop} (h : ∃ j, fails j) : ∃ j, Lowest fails j := by
  classical
  exact ⟨Nat.find h, Nat.find_spec h, fun _ hlt => Nat.find_min h hlt⟩

/-- Settles O54: a declaration by its checks and its place, a confirmation by the first record that bars it. -/
theorem massesAreDeclaredAndConfirmed : Obligations.MassesAreDeclaredAndConfirmed := by
  intro p n nominal kind a b r s id old placed inLockout opt
  have hdeclare {t : State} {payload : List Byte} (h : Admitted s p .declareMass)
      (hb : declareMass id nominal.toNat kind.toNat a.toNat b.toNat s = (t, payload)) :
      exec (.declareMass p n nominal kind a b) s = .next (replied p .declareMass payload t) :=
    exec_of_admitted rfl h hb
  have hconfirm {t : State} {payload : List Byte} (h : Admitted s p .confirmInventory)
      (hb : confirmInventory s = (t, payload)) :
      exec (.confirmInventory p) s = .next (replied p .confirmInventory payload t) := exec_of_admitted rfl h hb
  have hrange (h1 : 1 ≤ id) (h2 : id ≤ 40) (h3 : 5000 ≤ nominal.toNat) (h4 : nominal.toNat ≤ 60000) :
      declareInRange id nominal.toNat = true := by simp [declareInRange, h1, h2, h3, h4]
  have hnone (hfree : ∀ j ∈ massIds, (s.mass j).state ≠ .unaccounted ∧ (s.mass j).state ≠ .inTransfer) :
      firstMass s barsConfirming = none := firstMass_eq_none fun j hj =>
    Bool.eq_false_iff.2 fun hbad => ((barsConfirming_iff _).1 hbad).elim (hfree j hj).1 (hfree j hj).2
  refine ⟨fun h hm => hdeclare h (if_pos hm), fun ⟨h, hm⟩ hout => hdeclare h ?_, fun ⟨h, hm⟩ h1 h2 h3 h4 => ?_,
    fun ⟨h, hm⟩ h1 h2 h3 h4 hplaced => ?_, fun h hm => hconfirm h (if_pos hm), fun ⟨h, hm⟩ hbarred => ?_,
    fun ⟨h, hm⟩ hfree => ⟨fun hv => hconfirm h ?_, fun hv => ?_⟩⟩
  · refine declareMass_range hm ?_
    by_cases hkind : 2 < kind.toNat
    · exact .inr (declaredRecord_noKind hkind)
    · refine .inl (Bool.eq_false_iff.2 fun hin => ?_)
      simp only [declareInRange, Bool.and_eq_true, decide_eq_true_eq] at hin
      omega
  · have hin := hrange h1 h2 h3 h4
    refine ⟨fun hk ha => hdeclare h (declareMass_range hm (.inr ?_)), fun hk hout => hdeclare h (declareMass_range hm (.inr ?_)),
      fun hk ha hbar => hdeclare h ?_, fun f hk ha hb hheld => hdeclare h ?_⟩
    · rw [hk]
      exact declaredRecord_noBay ha
    · rw [hk]
      exact declaredRecord_noPlace hout
    · have hr := declaredRecord_stored (old := s.mass id) (nominal := nominal.toNat) (b := b.toNat) ha
      have hkind : kind.toNat = 1 := by rw [hk]; rfl
      rw [← hkind] at hr
      refine declareMass_bay hm hin hr (Bool.eq_false_iff.2 fun hfits => ?_)
      obtain ⟨husable, hcontent⟩ := (declareBayFits_iff rfl).1 hfits
      obtain ⟨hservice, k, hk', hland⟩ := (bayUsable_iff s a.toNat).1 husable
      rcases hbar with hbar | ⟨k', hk'', hout⟩ | ⟨hfull, hother⟩
      · rw [hbar] at hservice
        cases hservice
      · obtain rfl : k = k' := Option.some.inj (hk'.symm.trans hk'')
        rw [hout] at hland
        cases hland
      · exact hcontent.elim hfull hother
    · have hr := declaredRecord_carried (old := s.mass id) (nominal := nominal.toNat) ha hb
      have hkind : kind.toNat = 2 := by rw [hk]; rfl
      rw [← hkind] at hr
      refine declareMass_frame hm hin hr rfl (Bool.eq_false_iff.2 fun hfits => ?_)
      obtain ⟨j, hj, hne, hnamed⟩ := hheld
      exact (declareFrameFits_iff rfl).1 hfits j hj hne hnamed
  · have hin := hrange h1 h2 h3 h4
    have hchecks : declaredRecord s (s.mass id) nominal.toNat kind.toNat a.toNat b.toNat = some r ∧
        declareBayFits s id r = true ∧ declareFrameFits s id r = true := by
      rcases hplaced with ⟨hk, rfl⟩ | ⟨hk, ha, husable, hcontent, rfl⟩ | ⟨hk, f, ha, hb, hfree, rfl⟩
      · rw [hk]
        exact ⟨rfl, rfl, rfl⟩
      · rw [hk]
        exact ⟨declaredRecord_stored ha, (declareBayFits_iff rfl).2 ⟨husable, hcontent⟩, rfl⟩
      · rw [hk]
        exact ⟨declaredRecord_carried ha hb, rfl, (declareFrameFits_iff rfl).2 hfree⟩
    obtain ⟨hr, hb, hf⟩ := hchecks
    have hd := declared h1 h2 r s
    have hexec := hdeclare h (declareMass_declared hm hin hr hb hf)
    rw [hd.mass] at hexec
    generalize declare id r s = t at *
    refine ⟨_, hexec, hd.mass, hd.others, hd.verified, ?_, hd.bays, fun hv w hw => ?_, hd.stored, ?_, hd.svt, hd.ftk, hd.tku⟩
    · refine hd.save.trans ?_
      cases s.inv.save <;> rfl
    · rw [replied_flags, drive_flags]
      exact hd.flag hv w hw
    · refine (replied_replies hd.steady.drive p _ _).trans ?_
      have hopt (x : Option Nat) : opt x = optionalByte x := by cases x <;> rfl
      simp only [hopt, massItems, List.append_assoc]
      rfl
  · obtain ⟨j, ⟨hj, hbars⟩, hleast⟩ := least_of_exists
      (fails := fun j => j ∈ massIds ∧ ((s.mass j).state = .unaccounted ∨ (s.mass j).state = .inTransfer)) hbarred
    obtain ⟨h1, h2⟩ := mem_massIds.1 hj
    have hclear (i : Nat) (hi : i ∈ massIds) (hlt : i < j) :
        ¬ ((s.mass i).state = .unaccounted ∨ (s.mass i).state = .inTransfer) := fun hbad => hleast i hlt ⟨hi, hbad⟩
    have hfirst : firstMass s barsConfirming = some j := firstMass_least hj ((barsConfirming_iff _).2 hbars)
      fun i hi hlt => Bool.eq_false_iff.2 (mt (barsConfirming_iff _).1 (hclear i hi hlt))
    refine ⟨j, h1, h2, hbars, fun i hi hlt => not_or.1 (hclear i hi hlt), hconfirm h ((if_neg (not_not.2 hm)).trans ?_)⟩
    rw [hfirst]
    rfl
  · rw [confirmInventory, if_neg (not_not.2 hm), hnone hfree]
    exact if_pos hv
  · have hb : confirmInventory s = answer (saveRequest [] (setVerified true s)).drive .ok := by
      rw [confirmInventory, if_neg (not_not.2 hm), hnone hfree]
      exact if_neg (by rw [hv]; nofun)
    have hset := setVerified_inv true s
    obtain ⟨hmasses, -, -, hverified, -⟩ := saveRequest_inv [] (setVerified true s)
    have hsave := saveRequest_requested [] (setVerified true s)
    have hsteady := saveRequest_steady [] (setVerified true s)
    rw [hset] at hmasses hverified hsave
    refine ⟨_, hconfirm h hb, hverified, hmasses, fun hs => hsave.trans (congrArg _ hs), fun hs => hsave.trans (congrArg _ hs),
      fun w hw => ?_, ?_⟩
    · rw [replied_flags, drive_flags]
      exact (hsteady.port w).flag (setVerified_flag (by rw [hv]; nofun) hw)
    · refine (replied_replies hsteady.drive p _ _).trans ?_
      rw [setVerified_replies]
      rfl

end Sys2Proof.Machine
end

section
/-! SUPPORT. O55: SAVE_INVENTORY, SET_BAY_SERVICE and SET_LANDING_SERVICE. -/

namespace Sys2Proof.Machine

/-! ### Saves (R92, R95) -/

/-- A write that is begun, or waits, names the slot that is not current (R175, R176). -/
theorem startInventoryWrite_eq (s : State) : startInventoryWrite [] s =
    (s.setSti (s.sti.handOver .inventory (inventoryBody s.inv))).setInv
      { s.inv with save := .writing, carriedWaiters := [], nextWaiters := [] } := rfl

theorem saveRequestByDispatch_starts {s : State} (h : s.inv.save = .clean ∨ s.inv.save = .notSaved) :
    saveRequestByDispatch s = startInventoryWrite [] s := by
  rcases h with h | h
  · rw [saveRequestByDispatch, saveRequest, h]
  · rw [saveRequestByDispatch, h]

theorem saveRequestByDispatch_joins {s : State} (h : s.inv.save = .writing ∨ s.inv.save = .writingDirty) :
    saveRequestByDispatch s = s.setInv { s.inv with save := .writingDirty } := by
  rcases h with h | h
  · rw [saveRequestByDispatch, saveRequest, h, List.append_nil]
  · have hsame : s.inv = { s.inv with save := .writingDirty } := by rw [← h]
    rw [saveRequestByDispatch, saveRequest, h, List.append_nil]
    exact congrArg s.setInv hsame

/-! ### Service flags (R101, R102) -/

theorem serviceFlag_bit {flag : Byte} (h : flag.toNat < 2) : serviceFlag flag.toNat = some (decide (flag = 1)) := by
  by_cases hone : flag = 1
  · rw [hone]
    rfl
  · have hne : flag.toNat ≠ 1 := fun h => hone (BitVec.eq_of_toNat_eq h)
    rw [serviceFlag, if_neg hne, if_pos (by omega), decide_eq_false hone]

theorem serviceFlag_none {n : Nat} (h : 2 ≤ n) : serviceFlag n = none := by
  rw [serviceFlag, if_neg (by omega), if_neg (by omega)]

section
variable {s : State} (hmode : s.mdc.mode ≠ .run)
include hmode

theorem setBayService_range {b n : Nat} (h : 2 ≤ n ∨ s.svt.working.nb ≤ b) : setBayService b n s = answer s .range := by
  rw [setBayService, if_neg hmode]
  split
  · rfl
  · next v hv =>
    refine if_neg fun hb => ?_
    rcases h with h | h
    · rw [serviceFlag_none h] at hv
      cases hv
    · omega

theorem setBayService_served {b n : Nat} {v : Bool} (hv : serviceFlag n = some v) (hb : b < s.svt.working.nb) :
    setBayService b n s = answerWith (setBayInService b v s) .ok (bayItems ((setBayInService b v s).bay b)) := by
  rw [setBayService, if_neg hmode, hv]
  exact if_pos hb

theorem setLandingService_range {k n : Nat} (h : 2 ≤ n ∨ s.svt.working.nl ≤ k) :
    setLandingService k n s = answer s .range := by
  rw [setLandingService, if_neg hmode]
  split
  · rfl
  · next v hv =>
    refine if_neg fun hk => ?_
    rcases h with h | h
    · rw [serviceFlag_none h] at hv
      cases hv
    · omega

theorem setLandingService_served {k n : Nat} {v : Bool} (hv : serviceFlag n = some v) (hk : k < s.svt.working.nl) :
    setLandingService k n s = answerWith (serveLanding k v s) .ok (landingItems ((serveLanding k v s).landing k)) := by
  rw [setLandingService, if_neg hmode, hv]
  exact if_pos hk

end

/-- A flag that takes a value asks for a save where it changed (R101). -/
theorem setBayInService_spec {b : Nat} (hb : b < 40) (v : Bool) (s : State) :
    (setBayInService b v s).bay b = { s.bay b with inService := v } ∧
    (∀ j, j ≠ b → (setBayInService b v s).bay j = s.bay j) ∧
    (setBayInService b v s).inv.landings = s.inv.landings ∧
    (setBayInService b v s).inv.save = (if (s.bay b).inService == v then s.inv.save else s.inv.save.requested) := by
  obtain ⟨-, hbays, hlandings, -⟩ :=
    saveRequestIf_inv ((s.bay b).inService != v) (s.setBay b { s.bay b with inService := v })
  have hbay (j : Nat) : (setBayInService b v s).bay j = (s.setBay b { s.bay b with inService := v }).bay j :=
    bay_of_bays hbays j
  have hset (j : Nat) : (s.setBay b { s.bay b with inService := v }).bay j =
      if j = b ∧ b < 40 then { s.bay b with inService := v } else s.bay j := Bank.getD_set _ _ _ _ _
  refine ⟨(hbay b).trans ((hset b).trans (if_pos ⟨rfl, hb⟩)), fun j hj => (hbay j).trans ((hset j).trans ?_), hlandings, ?_⟩
  · exact if_neg fun h => hj h.1
  · refine (saveRequestIf_save _ _).trans ?_
    rw [bne]
    cases (s.bay b).inService == v <;> rfl

/-- A landing's flag, with its indications and its marker where it comes into service (R102, R143). -/
theorem serveLanding_spec {k : Nat} (hk : k < 12) (v : Bool) (s : State) :
    (serveLanding k v s).landing k = (if v then ⟨true, false, false⟩ else { s.landing k with inService := false }) ∧
    (∀ j, j ≠ k → (serveLanding k v s).landing j = s.landing j) ∧ (serveLanding k v s).inv.bays = s.inv.bays ∧
    (serveLanding k v s).xfc.timedOut.getD k false = (if v then false else s.xfc.timedOut.getD k false) ∧
    (serveLanding k v s).inv.save = (if (s.landing k).inService == v then s.inv.save else s.inv.save.requested) := by
  obtain ⟨-, hbays, hlandings, -⟩ :=
    saveRequestIf_inv ((s.landing k).inService != v) (s.setLanding k { s.landing k with inService := v })
  have hlanding (j : Nat) : (setLandingInService k v s).landing j = (s.setLanding k { s.landing k with inService := v }).landing j :=
    landing_of_landings hlandings j
  have hset (t : State) (y : Landing) (j : Nat) : (t.setLanding k y).landing j = if j = k ∧ k < 12 then y else t.landing j :=
    Bank.getD_set _ _ _ _ _
  have hsave : (setLandingInService k v s).inv.save =
      (if (s.landing k).inService == v then s.inv.save else s.inv.save.requested) := by
    refine (saveRequestIf_save _ _).trans ?_
    rw [bne]
    cases (s.landing k).inService == v <;> rfl
  have hself := (hlanding k).trans ((hset s _ k).trans (if_pos ⟨rfl, hk⟩))
  have hothers (j : Nat) (hj : j ≠ k) : (setLandingInService k v s).landing j = s.landing j :=
    (hlanding j).trans ((hset s _ j).trans (if_neg fun h => hj h.1))
  have hxfc := (setLandingInService_inventory k v s).keeps.1
  have hmark : (setLandingInService k v s).xfc.timedOut = s.xfc.timedOut := congrArg Xfc.timedOut hxfc
  cases v with
  | false => exact ⟨hself, hothers, hbays, congrArg (·.getD k false) hmark, hsave⟩
  | true =>
    have hcleared (j : Nat) : (serveLanding k true s).landing j = if j = k ∧ k < 12 then
        { (setLandingInService k true s).landing k with late := false, unexpected := false }
        else (setLandingInService k true s).landing j := hset _ _ j
    refine ⟨(hcleared k).trans ((if_pos ⟨rfl, hk⟩).trans ?_),
      fun j hj => (hcleared j).trans ((if_neg fun h => hj h.1).trans (hothers j hj)), hbays, ?_, hsave⟩
    · rw [hself]
      rfl
    · refine (Bank.getD_set _ _ _ _ _).trans (if_pos ⟨rfl, hk⟩)

theorem serveLanding_steady (k : Nat) (v : Bool) (s : State) : Steady s (serveLanding k v s) := by
  unfold serveLanding
  dsimp only
  split
  · exact (setLandingInService_steady k v s).trans (.of_blocks rfl)
  · exact setLandingInService_steady k v s

/-- Settles O55: the saves by the save state, the services by the flag and the place. -/
theorem theInventoryIsSavedAndServed : Obligations.TheInventoryIsSavedAndServed := by
  intro p n flag s i v image written saved
  have hsave {t : State} (h : Admitted s p .saveInventory) (ht : saveRequestByDispatch s = t) :
      exec (.saveInventory p) s = .next (replied p .saveInventory ([0x01] ++ u8 (saveStateCode t.inv.save)) t) := by
    rw [← ht]
    exact exec_of_admitted rfl h rfl
  have hbay {t : State} {payload : List Byte} (h : Admitted s p .setBayService)
      (hb : setBayService i flag.toNat s = (t, payload)) :
      exec (.setBayService p n flag) s = .next (replied p .setBayService payload t) := exec_of_admitted rfl h hb
  have hlanding {t : State} {payload : List Byte} (h : Admitted s p .setLandingService)
      (hb : setLandingService i flag.toNat s = (t, payload)) :
      exec (.setLandingService p n flag) s = .next (replied p .setLandingService payload t) := exec_of_admitted rfl h hb
  have hsaved {same : Bool} {t : State} (ht : t.inv.save = if same then s.inv.save else s.inv.save.requested) :
      saved same t := by
    refine ht.trans ?_
    cases s.inv.save <;> rfl
  refine ⟨fun h hs => ?_, fun h hs => hsave h (saveRequestByDispatch_joins hs), fun h hm => hbay h (if_pos hm),
    fun h hm hout => hbay h (setBayService_range hm hout), fun h hm hflag hnb h40 => ?_, fun h hm => hlanding h (if_pos hm),
    fun h hm hout => hlanding h (setLandingService_range hm hout), fun h hm hflag hnl h12 => ?_⟩
  · have hwritten : saveRequestByDispatch s = written := by
      have hsti : s.sti.handOver .inventory (inventoryBody s.inv) = image .inventory (inventoryBody s.inv) s.sti := by
        cases hop : s.sti.op <;> simp only [image, Sti.handOver, Sti.beginWrite, hop, targetSlot_eq] <;> rfl
      rw [saveRequestByDispatch_starts hs, startInventoryWrite_eq, hsti]
    exact hsave h hwritten
  · have hb := setBayService_served hm (serviceFlag_bit hflag) hnb
    obtain ⟨hself, hothers, hlandings, hsame⟩ := setBayInService_spec h40 v s
    have hsteady := setBayInService_steady i v s
    have hexec := hbay h hb
    rw [hself] at hexec
    generalize setBayInService i v s = t at *
    refine ⟨_, hexec, hself, hothers, funext fun k => landing_of_landings hlandings k, hsaved hsame,
      (replied_replies hsteady p _ _).trans ?_⟩
    simp only [bayItems, optionalByte_eq]
    cases (s.bay i).content <;> cases (s.bay i).task <;> rfl
  · have hb := setLandingService_served hm (serviceFlag_bit hflag) hnl
    obtain ⟨hself, hothers, hbays, hmark, hsame⟩ := serveLanding_spec h12 v s
    have hsteady := serveLanding_steady i v s
    have hexec := hlanding h hb
    rw [hself] at hexec
    generalize serveLanding i v s = t at *
    refine ⟨_, hexec, hself, hothers, hbays, hmark, hsaved hsame, (replied_replies hsteady p _ _).trans ?_⟩
    cases v <;> rfl

end Sys2Proof.Machine
end

section
/-! SUPPORT. O56: COLD_RESET. -/

namespace Sys2Proof.Machine

theorem soundRoles_iff (roles : List Role) : soundRoles roles = true ↔
    roles.count .winderU = 1 ∧ roles.count .winderL = 1 ∧ roles.count .dispatch = 1 := by
  simp [soundRoles, and_assoc]

/-- A port that has just been reset raises no ATTN (R170). -/
theorem initial_ports_quiet (f : Nat → Role) :
    (Bank.ofFn 4 (fun i => PortState.initial (f i))).map (fun x => { x with attn := attnLine x }) =
      Bank.ofFn 4 (fun i => PortState.initial (f i)) := by
  have hquiet (r : Role) : attnLine (PortState.initial r) = false := by simp [attnLine, PortState.initial]
  refine Bank.ext_toList ?_
  simp only [Bank.map, Bank.ofFn, List.map_map]
  refine List.map_congr_left fun i _ => ?_
  rw [Function.comp_apply, hquiet]
  rfl

/-- With sound roles the read of the SURVEY region begins, and no line is up (R178). -/
theorem coldReset_sound {roles : List Role} (h : soundRoles roles = true) (stop : Bool) (s : State) :
    coldReset roles stop s = { State.reset with
      ports := Bank.ofFn 4 (fun i => PortState.initial (roles.getD i .monitor)), pending := s.pending
      startUp := .surveyRead, sti := { State.reset.sti with op := .read .survey }
      mdc := { mode := .lockout, latch := stop, stopN := stop, strapFault := false, fault := false } } := by
  have hports := initial_ports_quiet fun i => roles.getD i .monitor
  rw [coldReset, h]
  exact congrArg (fun x => State.mk _ _ x _ _ _ _ _ _ _ _ _ _) hports

/-- Without them the part is in strap fault (R160). -/
theorem coldReset_fault {roles : List Role} (h : soundRoles roles = false) (stop : Bool) (s : State) :
    coldReset roles stop s = { State.reset with
      ports := Bank.ofFn 4 (fun i => PortState.initial (roles.getD i .monitor)), pending := s.pending
      mdc := { mode := .lockout, latch := stop, stopN := stop, strapFault := true, fault := true } } := by
  have hports := initial_ports_quiet fun i => roles.getD i .monitor
  rw [coldReset, h]
  exact congrArg (fun x => State.mk _ _ x _ _ _ _ _ _ _ _ _ _) hports

/-- Settles O56: the roles that the straps give, and what follows for sound and for other roles. -/
theorem coldResetSamplesTheStraps : Obligations.ColdResetSamplesTheStraps := by
  intro a b c d stop s role roles sound fresh
  refine ⟨fun h => ?_, fun h => ?_⟩
  · exact congrArg Host.Outcome.next (coldReset_sound ((soundRoles_iff roles).2 h) stop s)
  · exact congrArg Host.Outcome.next
      (coldReset_fault (Bool.eq_false_iff.2 (mt (soundRoles_iff roles).1 h)) stop s)

end Sys2Proof.Machine
end

section
/-! SUPPORT. O57: what is written to the store is what is read from it. -/

namespace Sys2Proof.Machine

/-! ### Fields one after another (12, opening) -/

/-- Fields that fit their widths are read back one after another. -/
theorem readFields_fieldBytes (fields : List (Nat × Nat)) (h : ∀ x ∈ fields, x.2 < 256 ^ x.1) :
    readFields (fields.map Prod.fst) (fieldBytes fields) = fields.map Prod.snd := by
  induction fields with
  | nil => rfl
  | cons x rest ih =>
    have hbytes : fieldBytes (x :: rest) = leBytes x.1 x.2 ++ fieldBytes rest := rfl
    rw [hbytes, List.map_cons, readFields, List.take_left' (leBytes_length _ _), List.drop_left' (leBytes_length _ _),
      leNat_leBytes _ _ (h x (.head _)), ih fun y hy => h y (.tail _ hy), List.map_cons]

/-! ### The SURVEY body (12, "Store images"; R184) -/

/-- The widths of the items of a SURVEY body before its service table, with their codes and indices. -/
def surveyLayout : List (Nat × Nat × Nat) :=
  [(4, 0x01, 0), (2, 0x02, 0), (4, 0x03, 0), (2, 0x04, 0), (2, 0x05, 0), (2, 0x06, 0), (2, 0x07, 0), (2, 0x08, 0),
    (1, 0x09, 0)] ++
  (List.range 12).flatMap (fun k => [(4, 0x10, k), (1, 0x11, k)]) ++
  (List.range 2).flatMap (fun f => [(2, 0x20, f), (2, 0x21, f), (2, 0x22, f), (1, 0x23, f), (2, 0x24, f), (2, 0x25, f),
    (2, 0x26, f), (2, 0x27, f), (2, 0x28, f), (1, 0x29, f)]) ++ [(1, 0x30, 0)]

/-- The same with the service table, whose entries may hold any byte (R184). -/
def surveyPlaces : List (Nat × Nat × Nat) :=
  surveyLayout ++ (List.range 8).map (fun i => (1, 0x31, i))

theorem surveyFields_eq (sv : Survey) :
    surveyFields sv = surveyPlaces.map (fun x => (x.1, sv.item x.2.1 x.2.2)) := rfl

theorem surveyNumber (sv : Survey) {i w c k : Nat} (h : surveyPlaces[i]? = some (w, c, k)) :
    ((surveyFields sv).map Prod.snd).getD i 0 = sv.item c k := by
  rw [surveyFields_eq, List.map_map, List.getD_eq_getElem?_getD, List.getElem?_map, h]
  rfl

/-- The width of each item holds its range (R4). -/
theorem surveyLayout_wide : ∀ x ∈ surveyLayout, x.2 ∈ itemList ∧
    (itemRange x.2.1).all (fun bounds => decide (bounds.2 < 256 ^ x.1)) = true := by decide

theorem item_le {code index value lo hi : Nat} (hr : itemRange code = some (lo, hi))
    (h : itemAccepts code index value = true) : value ≤ hi := by
  unfold itemAccepts at h
  rw [hr] at h
  split at h
  · next hsome =>
    cases hsome
    simp only [Bool.and_eq_true, decide_eq_true_eq] at h
    exact h.2
  · cases h

/-- Every field of a survey in range fits its width. -/
theorem surveyFields_fit {sv : Survey} (h : sv.inRange = true) (htable : ∀ i < 8, sv.table.getD i 0 < 256) :
    ∀ x ∈ surveyFields sv, x.2 < 256 ^ x.1 := by
  have hitems := (Bool.and_eq_true_iff.1 h).1
  rw [List.all_eq_true] at hitems
  rw [surveyFields_eq]
  intro x hx
  obtain ⟨y, hy, rfl⟩ := List.mem_map.1 hx
  rcases List.mem_append.1 hy with hy | hy
  · obtain ⟨hlisted, hwide⟩ := surveyLayout_wide y hy
    have haccepts := hitems y.2 hlisted
    cases hr : itemRange y.2.1 with
    | none =>
      unfold itemAccepts at haccepts
      rw [hr] at haccepts
      cases hn : itemIndices y.2.1 <;> rw [hn] at haccepts <;> cases haccepts
    | some bounds =>
      rw [hr] at hwide
      exact lt_of_le_of_lt (item_le hr haccepts) (of_decide_eq_true hwide)
  · obtain ⟨i, hi, rfl⟩ := List.mem_map.1 hy
    exact htable i (List.mem_range.1 hi)

theorem fieldBytes_length (fields : List (Nat × Nat)) : (fieldBytes fields).length = (fields.map Prod.fst).sum := by
  rw [fieldBytes, List.length_flatMap]
  exact congrArg List.sum (List.map_congr_left fun x _ => leBytes_length x.1 x.2)

theorem surveyWidths_eq (sv : Survey) : (surveyFields sv).map Prod.fst = surveyWidths := rfl

theorem surveyBody_length (sv : Survey) : (surveyBody sv).length = 126 := by
  rw [surveyBody, fieldBytes_length, surveyWidths_eq]
  rfl

/-- The numbers of the fields, in body order, are the survey (R184). -/
theorem surveyOf_fields (sv : Survey) : surveyOf (fun i => ((surveyFields sv).map Prod.snd).getD i 0) = sv := by
  have hbank {n offset step : Nat} (b : Bank Nat n)
      (h : ∀ k < n, ((surveyFields sv).map Prod.snd).getD (offset + step * k) 0 = b.getD k 0) :
      Bank.ofFn n (fun k => ((surveyFields sv).map Prod.snd).getD (offset + step * k) 0) = b :=
    Bank.ext_toList ((List.map_congr_left fun k hk => h k (List.mem_range.1 hk)).trans (Bank.map_getD_range b 0))
  have hle := hbank (offset := 9) (step := 2) sv.le fun k hk => surveyNumber sv (w := 4) (c := 0x10) ((by decide :
    ∀ k < 12, surveyPlaces[9 + 2 * k]? = some (4, 0x10, k)) k hk)
  have hbays := hbank (offset := 10) (step := 2) sv.bays fun k hk => surveyNumber sv (w := 1) (c := 0x11) ((by decide :
    ∀ k < 12, surveyPlaces[10 + 2 * k]? = some (1, 0x11, k)) k hk)
  have htable := hbank (offset := 54) (step := 1) sv.table fun k hk => surveyNumber sv (w := 1) (c := 0x31) ((by decide :
    ∀ k < 8, surveyPlaces[54 + 1 * k]? = some (1, 0x31, k)) k hk)
  simp only [Nat.one_mul] at htable
  rw [surveyOf, hle, hbays, htable]
  rfl

theorem decodeSurvey_surveyBody {sv : Survey} (h : sv.inRange = true) (htable : ∀ i < 8, sv.table.getD i 0 < 256) :
    decodeSurvey (surveyBody sv) = sv := by
  rw [decodeSurvey, ← surveyWidths_eq sv, surveyBody, readFields_fieldBytes _ (surveyFields_fit h htable)]
  exact surveyOf_fields sv

end Sys2Proof.Machine
end

section
/-! SUPPORT. O57: the INVENTORY body, record by record. -/

namespace Sys2Proof.Machine

/-! ### A body of equal parts -/

section
variable {α : Type} {f : Nat → List α} {k : Nat} (hf : ∀ i, (f i).length = k)
include hf

theorem flatMap_range_length (n : Nat) : ((List.range n).flatMap f).length = k * n := by
  rw [List.length_flatMap, List.map_congr_left (fun i _ => hf i), List.map_const', List.sum_replicate_nat, List.length_range,
    Nat.mul_comm]

/-- Part i of a body of equal parts. -/
theorem flatMap_range_part {n i : Nat} (hi : i < n) (rest : List α) :
    ((((List.range n).flatMap f) ++ rest).drop (k * i)).take k = f i := by
  obtain ⟨m, rfl⟩ : ∃ m, n = i + (m + 1) := ⟨n - i - 1, by omega⟩
  have hsplit : ∃ tail, (List.range (i + (m + 1))).flatMap f = (List.range i).flatMap f ++ (f i ++ tail) := by
    rw [List.range_add, List.flatMap_append, List.range_succ_eq_map]
    exact ⟨_, rfl⟩
  obtain ⟨tail, htail⟩ := hsplit
  rw [htail, List.append_assoc, List.drop_left' (flatMap_range_length hf i), List.append_assoc, List.take_left' (hf i)]

end

/-! ### The INVENTORY body (R91) -/

/-- The fields of a mass record in an INVENTORY body: width and value. -/
def massFields (id : Nat) (r : Mass) : List (Nat × Nat) :=
  [(1, id), (1, massStateCode r.state), (2, r.nominal), (1, r.bay.getD 0xFF), (1, (r.frame.map frameCode).getD 0xFF),
    (1, r.landing.getD 0xFF)]

theorem massBytes_eq (id : Nat) (r : Mass) : massBytes id r = fieldBytes (massFields id r) := rfl

theorem massBytes_length (id : Nat) (r : Mass) : (massBytes id r).length = 7 := rfl

/-- The records of an INVENTORY body. -/
def bodyMasses (x : Inv) : List Byte :=
  (List.range 40).flatMap (fun i => massBytes (i + 1) (x.masses.getD i Mass.unreadable))

/-- The service flags and the state after the records. -/
def bodyFlags (x : Inv) : List Byte :=
  (List.range 40).map (fun b => if (x.bays.getD b Bay.unreadable).inService then 1 else 0) ++
    ((List.range 12).map (fun k => if (x.landings.getD k Landing.unreadable).inService then 1 else 0) ++
      [if x.verified then 1 else 0])

theorem inventoryBody_eq (x : Inv) : inventoryBody x = bodyMasses x ++ bodyFlags x := by
  have hstate : u8 (verifiedCode x.verified) = [if x.verified then 1 else 0] := u8_verifiedCode _
  have hflags {n : Nat} (c : Nat → Bool) : (List.range n).flatMap (fun i => indication (c i)) =
      (List.range n).map (fun i => if c i then 1 else 0) := List.map_eq_flatMap.symm
  rw [inventoryBody, hstate, hflags, hflags, List.append_assoc, List.append_assoc]
  rfl

theorem bodyMasses_length (x : Inv) : (bodyMasses x).length = 280 :=
  flatMap_range_length (fun _ => massBytes_length _ _) 40

theorem inventoryBody_length (x : Inv) : (inventoryBody x).length = 333 := by
  rw [inventoryBody_eq, List.length_append, bodyMasses_length]
  simp [bodyFlags]

/-- The seven bytes of a record. -/
theorem inventoryBody_mass (x : Inv) {i : Nat} (hi : i < 40) :
    ((inventoryBody x).drop (7 * i)).take 7 = massBytes (i + 1) (x.masses.getD i Mass.unreadable) := by
  rw [inventoryBody_eq]
  exact flatMap_range_part (f := fun i => massBytes (i + 1) (x.masses.getD i Mass.unreadable))
    (fun _ => massBytes_length _ _) hi _

theorem inventoryBody_flags (x : Inv) (n : Nat) : (inventoryBody x).getD (280 + n) 0 = (bodyFlags x).getD n 0 := by
  rw [inventoryBody_eq, List.getD_append_right _ _ _ _ (by rw [bodyMasses_length]; omega), bodyMasses_length,
    Nat.add_sub_cancel_left]

theorem inventoryBody_bay (x : Inv) {b : Nat} (hb : b < 40) :
    (inventoryBody x).getD (280 + b) 0 = if (x.bays.getD b Bay.unreadable).inService then 1 else 0 := by
  rw [inventoryBody_flags, bodyFlags, List.getD_append _ _ _ _ (by simpa using hb)]
  simp [List.getD_eq_getElem?_getD, hb]

theorem inventoryBody_landing (x : Inv) {k : Nat} (hk : k < 12) :
    (inventoryBody x).getD (320 + k) 0 = if (x.landings.getD k Landing.unreadable).inService then 1 else 0 := by
  have hoffset : 320 + k = 280 + (40 + k) := by omega
  rw [hoffset, inventoryBody_flags, bodyFlags, List.getD_append_right _ _ _ _ (by simp),
    List.getD_append _ _ _ _ (by simpa using hk)]
  simp [List.getD_eq_getElem?_getD, hk]

theorem inventoryBody_state (x : Inv) : (inventoryBody x).getD 332 0 = if x.verified then 1 else 0 := by
  rw [show 332 = 280 + 52 from rfl, inventoryBody_flags, bodyFlags, List.getD_append_right _ _ _ _ (by simp),
    List.getD_append_right _ _ _ _ (by simp)]
  simp

/-! ### A record as it is read (R184) -/

theorem massStateOfCode_massStateCode (x : MassState) : massStateOfCode (massStateCode x) = some x := by
  cases x <;> rfl

/-- The numbers that the place of a sound record is written as (R84). -/
theorem Mass.Sound.placedRecord {r : Mass} (h : r.Sound) : Machine.placedRecord r.state r.nominal (r.bay.getD 0xFF)
    ((r.frame.map frameCode).getD 0xFF) (r.landing.getD 0xFF) = some { r with task := none } := by
  obtain ⟨-, -, hplace⟩ := h
  obtain ⟨state, nominal, bay, frame, landing, task⟩ := r
  cases state with
  | absent | unaccounted =>
    obtain ⟨rfl, rfl, rfl⟩ := hplace
    rfl
  | stored =>
    obtain ⟨⟨b, hb, rfl⟩, rfl, rfl⟩ := hplace
    exact if_pos hb
  | carried =>
    obtain ⟨rfl, hf, k, hk, rfl⟩ := hplace
    obtain ⟨f, rfl⟩ := Option.ne_none_iff_exists'.1 hf
    cases f <;> exact if_pos hk
  | inTransfer =>
    obtain ⟨⟨b, hb, rfl⟩, hf, rfl⟩ := hplace
    obtain ⟨f, rfl⟩ := Option.ne_none_iff_exists'.1 hf
    cases f <;> exact if_pos hb

theorem Mass.Sound.bay_lt {r : Mass} (h : r.Sound) : r.bay.getD 0xFF < 256 ∧ r.landing.getD 0xFF < 256 := by
  have habsent : 0xFF < 256 := by decide
  obtain ⟨-, -, hplace⟩ := h
  obtain ⟨state, nominal, bay, frame, landing, task⟩ := r
  cases state with
  | absent | unaccounted =>
    obtain ⟨rfl, rfl, rfl⟩ := hplace
    exact ⟨habsent, habsent⟩
  | stored =>
    obtain ⟨⟨b, hb, rfl⟩, rfl, rfl⟩ := hplace
    exact ⟨Nat.lt_of_le_of_lt hb (by decide), habsent⟩
  | carried =>
    obtain ⟨rfl, -, k, hk, rfl⟩ := hplace
    exact ⟨habsent, Nat.lt_of_le_of_lt hk (by decide)⟩
  | inTransfer =>
    obtain ⟨⟨b, hb, rfl⟩, -, rfl⟩ := hplace
    exact ⟨Nat.lt_of_le_of_lt hb (by decide), habsent⟩

theorem frameByte_lt (x : Option Frame) : (x.map frameCode).getD 0xFF < 256 := by
  cases x with
  | none => decide
  | some f => cases f <;> decide

/-- The numbers of a record's seven bytes. -/
theorem readFields_massBytes {id : Nat} {r : Mass} (hid : id < 256) (h : r.Sound) :
    readFields [1, 1, 2, 1, 1, 1] (massBytes id r) = [id, massStateCode r.state, r.nominal, r.bay.getD 0xFF,
      (r.frame.map frameCode).getD 0xFF, r.landing.getD 0xFF] := by
  have hstate : massStateCode r.state < 256 := by cases r.state <;> decide
  have hnominal : r.nominal < 256 ^ 2 := Nat.lt_of_le_of_lt h.2.1 (by decide)
  obtain ⟨hbay, hlanding⟩ := h.bay_lt
  have hframe := frameByte_lt r.frame
  rw [massBytes_eq]
  refine readFields_fieldBytes (massFields id r) ?_
  simp only [massFields, List.forall_mem_cons, Nat.pow_one]
  exact ⟨hid, hstate, hnominal, hbay, hframe, hlanding, nofun⟩

/-- A sound record is what its bytes spell, but for its reservation (R91, R184). -/
theorem decodeMass_massBytes {id : Nat} {r : Mass} (hid : id < 256) (h : r.Sound) :
    decodeMass id (massBytes id r) = ({ r with task := none }, false) := by
  have hrecord : decodedRecord id (massBytes id r) = some { r with task := none } := by
    rw [decodedRecord, readFields_massBytes hid h]
    refine (if_pos ⟨rfl, h.1, h.2.1⟩).trans ?_
    change (massStateOfCode (massStateCode r.state)).bind (fun st => placedRecord st r.nominal (r.bay.getD 0xFF)
      ((r.frame.map frameCode).getD 0xFF) (r.landing.getD 0xFF)) = _
    rw [massStateOfCode_massStateCode]
    exact h.placedRecord
  rw [decodeMass, hrecord]

/-- Settles O57: the fields of each body read back, and its image is good. -/
theorem surveyImagesReadBack : Obligations.SurveyImagesReadBack := by
  refine ⟨fun sv g h htable => ?_, fun x g => ?_⟩
  · have hlength := surveyBody_length sv
    refine ⟨goodImage_imageBytes .survey g _ ?_, decodeSurvey_surveyBody h htable, ?_⟩
    · rw [hlength]
      rfl
    · rw [imageBytes_length, hlength]
  · have hlength := inventoryBody_length x
    refine ⟨goodImage_imageBytes .inventory g _ ?_, ?_, fun id h1 h2 hsound => ?_, fun b hb => inventoryBody_bay x hb,
      fun k hk => inventoryBody_landing x hk, inventoryBody_state x⟩
    · rw [hlength]
      rfl
    · rw [imageBytes_length, hlength]
    · have hid : id - 1 + 1 = id := Nat.sub_add_cancel h1
      rw [inventoryBody_mass x (by omega), hid]
      exact decodeMass_massBytes (by omega) hsound

end Sys2Proof.Machine
end

section
/-! SUPPORT. O58: SURVEY_READ_END. -/

namespace Sys2Proof.Machine

/-! ### The choice of the current slot (R177) -/

/-- The slot, generation and items that R177 chooses of what the two slots hold. -/
structure Chosen (a b : Option (BitVec 32 × List Byte)) (slot : Slot) (g : BitVec 32) (x : List Byte) : Prop where
  cases : (slot = .a ∧ a = some (g, x) ∧ b = none) ∨ (slot = .b ∧ a = none ∧ b = some (g, x)) ∨
    (slot = .b ∧ ∃ h y, a = some (h, y) ∧ b = some (g, x) ∧ g = h + 1) ∨
    (slot = .a ∧ ∃ h y, a = some (g, x) ∧ b = some (h, y) ∧ h ≠ g + 1)

theorem Chosen.chooseSlot {a b : Option (BitVec 32 × List Byte)} {slot : Slot} {g : BitVec 32} {x : List Byte}
    (h : Chosen a b slot g x) : Machine.chooseSlot a b = some (slot, g, x) := by
  rcases h.cases with ⟨rfl, rfl, rfl⟩ | ⟨rfl, rfl, rfl⟩ | ⟨rfl, h, y, rfl, rfl, hnext⟩ | ⟨rfl, h, y, rfl, rfl, hnext⟩
  · rfl
  · rfl
  · exact if_pos hnext
  · exact if_neg hnext

theorem awaitsRead_iff (s : State) (x : StartUp) (r : Region) :
    awaitsRead s x r = true ↔ s.startUp = x ∧ s.sti.op = .read r := by
  simp [awaitsRead]

/-! ### What the read found (R178, R184) -/

/-- What start-up finds in a slot, as the survey it is to take, its slot and its generation. -/
theorem startSurvey_taken {slot : Slot} {g : BitVec 32} {sv : Survey} (h : sv.passes = true)
    (htable : ∀ i < 8, sv.table.getD i 0 < 256) : startSurvey (some (slot, g, surveyBody sv)) = some sv := by
  have hrange := (Bool.and_eq_true_iff.1 h).1
  simp only [startSurvey, Option.map_some, decodeSurvey_surveyBody hrange htable, Option.filter_some, h, if_true]

theorem startSurvey_refused {slot : Slot} {g : BitVec 32} {x : List Byte} (h : (decodeSurvey x).passes = false) :
    startSurvey (some (slot, g, x)) = none := by
  simp [startSurvey, Option.filter_some, h]

/-- What the end of the SURVEY read leaves (R13, R177, R178). -/
structure Loaded (slot : Option Slot) (g : BitVec 32) (sv : Survey) (st : SurveyState) (s t : State) : Prop where
  startUp : t.startUp = .inventoryRead
  sti : t.sti = { s.sti with op := .read .inventory, current := { s.sti.current with survey := slot }
                             generation := { s.sti.generation with survey := g } }
  svt : t.svt = { working := sv, edit := sv, state := st, saveOutstanding := false
                  tuning := ⟨⟨sv.winder.u.defaultVl, sv.winder.u.defaultLeg, none, none⟩,
                    ⟨sv.winder.l.defaultVl, sv.winder.l.defaultLeg, none, none⟩⟩ }
  table : t.arb.table = sv.defaultTable
  pending : t.arb.pendingTable = none
  pointer : t.arb.pointer = 0
  mode : t.mdc.mode = s.mdc.mode
  ftk : t.ftk = s.ftk
  masses : t.inv.masses = s.inv.masses
  tku : t.tku = s.tku

theorem surveyReadEnds_loaded {slotA slotB : List (List Byte)} {chosen : Option (Slot × BitVec 32 × List Byte)}
    (hchosen : chooseSlot (slotImage .survey slotA) (slotImage .survey slotB) = chosen) (s : State) :
    Loaded (chosen.map (·.1)) ((chosen.map (·.2.1)).getD 0) ((startSurvey chosen).getD Survey.factory)
      (if (startSurvey chosen).isSome then .valid else .unconfigured) s (surveyReadEnds slotA slotB s) := by
  unfold surveyReadEnds
  rw [hchosen]
  exact ⟨rfl, rfl, rfl, rfl, rfl, rfl, rfl, rfl, rfl, rfl⟩

/-- Settles O58: what the two slots hold, and whether the survey of the chosen one passes. -/
theorem startUpTakesTheSurveyFromTheStore : Obligations.StartUpTakesTheSurveyFromTheStore := by
  intro slotA slotB s a b loaded waits chosen
  have hawaits : awaitsRead s .surveyRead .survey = true ↔ waits := awaitsRead_iff s _ _
  have hexec (hw : waits) : exec (.surveyReadEnd slotA slotB) s = .next (surveyReadEnds slotA slotB s) :=
    congrArg Host.Outcome.next (if_pos (hawaits.2 hw))
  have hloaded {slot : Option Slot} {g : BitVec 32} {sv : Survey} {st : SurveyState} (hw : waits)
      (h : Loaded slot g sv st s (surveyReadEnds slotA slotB s)) : loaded slot g sv st :=
    ⟨_, hexec hw, h.startUp, h.sti, h.svt, h.table, h.pending, h.pointer, h.mode, h.ftk, h.masses, h.tku⟩
  have hchosen {slot : Slot} {g : BitVec 32} {x : List Byte} (h : chosen slot g x) :
      chooseSlot a b = some (slot, g, x) := Chosen.chooseSlot ⟨h⟩
  refine ⟨fun hno => congrArg Host.Outcome.next (if_neg (mt hawaits.1 hno)), fun hw ha hb => ?_,
    fun slot g sv hw hpasses htable hc => ?_, fun slot g x hw hc hfails => ?_⟩
  · have hnone : chooseSlot a b = none := by rw [ha, hb]; rfl
    exact hloaded hw (surveyReadEnds_loaded hnone s)
  · have h := surveyReadEnds_loaded (hchosen hc) s
    rw [startSurvey_taken hpasses htable] at h
    exact hloaded hw h
  · have h := surveyReadEnds_loaded (hchosen hc) s
    rw [startSurvey_refused hfails] at h
    exact hloaded hw h

end Sys2Proof.Machine
end

section
/-! SUPPORT. O59: what the seven bytes of a record spell. -/

namespace Sys2Proof.Machine

/-! ### The numbers of a record's bytes (R184) -/

theorem leNat_take_one (l : List Byte) : leNat (l.take 1) = (l.getD 0 0).toNat := by
  cases l with
  | nil => rfl
  | cons b rest => simp [leNat]

theorem leNat_take_two (l : List Byte) : leNat (l.take 2) = (l.getD 0 0).toNat + 256 * (l.getD 1 0).toNat := by
  cases l with
  | nil => rfl
  | cons b rest =>
    have htail := leNat_take_one rest
    simpa [leNat] using htail

theorem getD_drop {α : Type} (l : List α) (k i : Nat) (d : α) : (l.drop k).getD i d = l.getD (k + i) d := by
  simp [List.getD_eq_getElem?_getD]

/-- Byte i of the record of a mass id in an INVENTORY body. -/
def recordByte (items : List Byte) (id i : Nat) : Nat :=
  (items.getD (7 * (id - 1) + i) 0).toNat

/-- The seven bytes of the record of a mass id. -/
def massSpelling (items : List Byte) (id : Nat) : List Byte :=
  (items.drop (7 * (id - 1))).take 7

theorem massSpelling_getD (items : List Byte) (id : Nat) {i : Nat} (hi : i < 7) :
    ((massSpelling items id).getD i 0).toNat = recordByte items id i := by
  have htake : (massSpelling items id).getD i 0 = (items.drop (7 * (id - 1))).getD i 0 := by
    simp [massSpelling, List.getD_eq_getElem?_getD, List.getElem?_take_of_lt hi]
  rw [htake, getD_drop]
  rfl

theorem readFields_massSpelling (items : List Byte) (id : Nat) :
    readFields [1, 1, 2, 1, 1, 1] (massSpelling items id) = [recordByte items id 0, recordByte items id 1,
      recordByte items id 2 + 256 * recordByte items id 3, recordByte items id 4, recordByte items id 5,
      recordByte items id 6] := by
  simp only [readFields, leNat_take_one, leNat_take_two, getD_drop]
  simp only [← massSpelling_getD items id (show 0 < 7 by decide), ← massSpelling_getD items id (show 1 < 7 by decide),
    ← massSpelling_getD items id (show 2 < 7 by decide), ← massSpelling_getD items id (show 3 < 7 by decide),
    ← massSpelling_getD items id (show 4 < 7 by decide), ← massSpelling_getD items id (show 5 < 7 by decide),
    ← massSpelling_getD items id (show 6 < 7 by decide)]

theorem clampTo_nominal (n : Nat) : clampTo 5000 60000 n = min 60000 (max 5000 n) := by
  unfold clampTo
  split
  · omega
  · split <;> omega

theorem decodedNominal_massSpelling (items : List Byte) (id : Nat) : decodedNominal (massSpelling items id) =
    min 60000 (max 5000 (recordByte items id 2 + 256 * recordByte items id 3)) := by
  rw [decodedNominal, leNat_take_two, getD_drop, getD_drop, massSpelling_getD _ _ (show 2 + 0 < 7 by decide),
    massSpelling_getD _ _ (show 2 + 1 < 7 by decide)]
  exact clampTo_nominal _

/-! ### What the numbers spell (R84, R184) -/

theorem massStateOfCode_iff (n : Nat) (x : MassState) : massStateOfCode n = some x ↔ massStateCode x = n := by
  constructor
  · intro h
    have hlt : n < 5 := by
      by_contra hno
      have hnone : massStateOfCode n = none := List.getElem?_eq_none (by simp; omega)
      rw [hnone] at h
      cases h
    interval_cases n <;> cases h <;> rfl
  · rintro rfl
    exact massStateOfCode_massStateCode x

/-- The record of a mass id that its bytes spell (R84, R184). -/
structure Spelled (items : List Byte) (id : Nat) (m : Mass) : Prop where
  own : recordByte items id 0 = id
  nominal : m.nominal = recordByte items id 2 + 256 * recordByte items id 3
  sound : m.Sound
  state : massStateCode m.state = recordByte items id 1
  bay : ∀ c, m.bay = some c → c = recordByte items id 4
  frame : ∀ f, m.frame = some f → frameCode f = recordByte items id 5
  landing : ∀ k, m.landing = some k → k = recordByte items id 6
  task : m.task = none

/-- A record that is placed is sound, and has the state and the places that were read. -/
theorem placed_sound {x : MassState} {nominal b fr la : Nat} {m : Mass} (h1 : 5000 ≤ nominal) (h2 : nominal ≤ 60000)
    (h : placedRecord x nominal b fr la = some m) : m.Sound ∧ m.nominal = nominal ∧ m.state = x ∧
      (∀ c, m.bay = some c → c = b) ∧ (∀ f, m.frame = some f → frameCode f = fr) ∧
      (∀ k, m.landing = some k → k = la) ∧ m.task = none := by
  have hcode {f : Frame} (hf : frameOfCode fr = some f) : frameCode f = fr := by
    unfold frameOfCode at hf
    split at hf
    · next hz =>
      cases hf
      exact hz.symm
    · split at hf
      · next hone =>
        cases hf
        exact hone.symm
      · cases hf
  cases x with
  | absent | unaccounted =>
    cases h
    exact ⟨⟨h1, h2, rfl, rfl, rfl⟩, rfl, rfl, nofun, nofun, nofun, rfl⟩
  | stored =>
    obtain ⟨hb, hm⟩ := Option.ite_none_right_eq_some.1 h
    cases hm
    exact ⟨⟨h1, h2, ⟨b, hb, rfl⟩, rfl, rfl⟩, rfl, rfl, fun c hc => (Option.some.inj hc).symm, nofun, nofun, rfl⟩
  | carried =>
    unfold placedRecord at h
    dsimp only at h
    split at h
    · next f hf =>
      obtain ⟨hl, hm⟩ := Option.ite_none_right_eq_some.1 h
      cases hm
      exact ⟨⟨h1, h2, rfl, nofun, la, hl, rfl⟩, rfl, rfl, nofun, fun g hg => Option.some.inj hg ▸ hcode hf,
        fun k hk => (Option.some.inj hk).symm, rfl⟩
    · cases h
  | inTransfer =>
    unfold placedRecord at h
    dsimp only at h
    split at h
    · next f hf =>
      obtain ⟨hb, hm⟩ := Option.ite_none_right_eq_some.1 h
      cases hm
      exact ⟨⟨h1, h2, ⟨b, hb, rfl⟩, nofun, rfl⟩, rfl, rfl, fun c hc => (Option.some.inj hc).symm,
        fun g hg => Option.some.inj hg ▸ hcode hf, nofun, rfl⟩
    · cases h

/-- A sound record is placed by its own numbers. -/
theorem placed_of_sound {m : Mass} {b fr la : Nat} (h : m.Sound) (hb : ∀ c, m.bay = some c → c = b)
    (hf : ∀ f, m.frame = some f → frameCode f = fr) (hl : ∀ k, m.landing = some k → k = la) (ht : m.task = none) :
    placedRecord m.state m.nominal b fr la = some m := by
  obtain ⟨-, -, hplace⟩ := h
  obtain ⟨state, nominal, bay, frame, landing, task⟩ := m
  obtain rfl : task = none := ht
  cases state with
  | absent | unaccounted =>
    obtain ⟨rfl, rfl, rfl⟩ := hplace
    rfl
  | stored =>
    obtain ⟨⟨c, hc, rfl⟩, rfl, rfl⟩ := hplace
    obtain rfl := hb c rfl
    exact if_pos hc
  | carried =>
    obtain ⟨rfl, hframe, k, hk, rfl⟩ := hplace
    obtain ⟨f, rfl⟩ := Option.ne_none_iff_exists'.1 hframe
    obtain rfl := hl k rfl
    obtain rfl := hf f rfl
    cases f <;> exact if_pos hk
  | inTransfer =>
    obtain ⟨⟨c, hc, rfl⟩, hframe, rfl⟩ := hplace
    obtain ⟨f, rfl⟩ := Option.ne_none_iff_exists'.1 hframe
    obtain rfl := hb c rfl
    obtain rfl := hf f rfl
    cases f <;> exact if_pos hc

theorem decodedRecord_iff (items : List Byte) (id : Nat) (m : Mass) :
    decodedRecord id (massSpelling items id) = some m ↔ Spelled items id m := by
  rw [decodedRecord, readFields_massSpelling]
  constructor
  · intro h
    obtain ⟨⟨hown, h1, h2⟩, hbind⟩ := Option.ite_none_right_eq_some.1 h
    obtain ⟨x, hx, hplaced⟩ := Option.bind_eq_some_iff.1 hbind
    obtain ⟨hsound, hnominal, hstate, hbay, hframe, hlanding, htask⟩ := placed_sound h1 h2 hplaced
    exact ⟨hown, hnominal, hsound, hstate ▸ (massStateOfCode_iff _ _).1 hx, hbay, hframe, hlanding, htask⟩
  · intro h
    have hplaced := placed_of_sound h.sound h.bay h.frame h.landing h.task
    have hbounds := h.sound
    rw [h.nominal] at hplaced
    refine (if_pos ⟨h.own, h.nominal ▸ hbounds.1, h.nominal ▸ hbounds.2.1⟩).trans ?_
    exact Option.bind_eq_some_iff.2 ⟨m.state, (massStateOfCode_iff _ _).2 h.state, hplaced⟩

/-- A record as it is decoded, and whether decoding made it UNACCOUNTED (R184). -/
theorem decodeMass_spelled {items : List Byte} {id : Nat} {m : Mass} (h : Spelled items id m) :
    decodeMass id (massSpelling items id) = (m, false) := by
  rw [decodeMass, (decodedRecord_iff items id m).2 h]

theorem decodeMass_unspelled {items : List Byte} {id : Nat} (h : ¬ ∃ m, Spelled items id m) :
    decodeMass id (massSpelling items id) = (Mass.placeless (min 60000 (max 5000
      (recordByte items id 2 + 256 * recordByte items id 3))), true) := by
  have hnone : decodedRecord id (massSpelling items id) = none := by
    cases hd : decodedRecord id (massSpelling items id) with
    | none => rfl
    | some m => exact absurd ⟨m, (decodedRecord_iff items id m).1 hd⟩ h
  rw [decodeMass, hnone, decodedNominal_massSpelling]

end Sys2Proof.Machine
end

section
/-! SUPPORT. O59: the records of a body as start-up judges them. -/

namespace Sys2Proof.Machine

/-! ### The judged records one by one (R179) -/

theorem judgeMasses_getElem? (sv : Option Survey) (lower : List Mass) (rs : List (Mass × Bool)) (i : Nat) :
    (judgeMasses sv lower rs)[i]? = rs[i]?.map (fun e =>
      if mustLose sv (lower ++ (rs.take i).map Prod.fst) e.1 then (Mass.placeless e.1.nominal, true) else e) := by
  induction rs generalizing lower i with
  | nil => rfl
  | cons head rest ih =>
    obtain ⟨r, made⟩ := head
    rw [judgeMasses]
    cases i with
    | zero => simp
    | succ i => simpa using ih (lower ++ [r]) i

/-- The record of a mass id as its bytes decode (R184). -/
def decodedMass (items : List Byte) (id : Nat) : Mass × Bool :=
  decodeMass id (massSpelling items id)

/-- The records of lower id as decoded (log 18). -/
def lowerMasses (items : List Byte) (id : Nat) : List Mass :=
  ((decodeMasses items).take (id - 1)).map Prod.fst

/-- The record of a mass id after the checks of R179. -/
def judgedMass (sv : Option Survey) (items : List Byte) (id : Nat) : Mass × Bool :=
  if mustLose sv (lowerMasses items id) (decodedMass items id).1 then
    (Mass.placeless (decodedMass items id).1.nominal, true)
  else decodedMass items id

theorem decodeMasses_getElem? (items : List Byte) {id : Nat} (h1 : 1 ≤ id) (h2 : id ≤ 40) :
    (decodeMasses items)[id - 1]? = some (decodedMass items id) := by
  have hid : id - 1 + 1 = id := Nat.sub_add_cancel h1
  rw [decodeMasses, List.getElem?_map, List.getElem?_range (by omega), Option.map_some, hid]
  rfl

theorem loadedMasses_getElem? (s : State) (items : List Byte) {id : Nat} (h1 : 1 ≤ id) (h2 : id ≤ 40) :
    (loadedMasses s items)[id - 1]? = some (judgedMass (validSurvey s) items id) := by
  rw [loadedMasses, judgeMasses_getElem?, decodeMasses_getElem? items h1 h2]
  rfl

theorem judgeMasses_length (sv : Option Survey) (lower : List Mass) (rs : List (Mass × Bool)) :
    (judgeMasses sv lower rs).length = rs.length := by
  induction rs generalizing lower with
  | nil => rfl
  | cons head rest ih => exact congrArg (· + 1) (ih _)

theorem decodeMasses_length (items : List Byte) : (decodeMasses items).length = 40 := by
  rw [decodeMasses, List.length_map, List.length_range]

theorem loadedMasses_length (s : State) (items : List Byte) : (loadedMasses s items).length = 40 := by
  rw [loadedMasses, judgeMasses_length, decodeMasses_length]

theorem mem_lowerMasses {items : List Byte} {id : Nat} (h2 : id ≤ 40) (r : Mass) :
    r ∈ lowerMasses items id ↔ ∃ j ∈ massIds, j < id ∧ (decodedMass items j).1 = r := by
  rw [lowerMasses, List.mem_map]
  constructor
  · rintro ⟨e, he, rfl⟩
    obtain ⟨i, hi, hget⟩ := List.getElem_of_mem he
    rw [List.length_take] at hi
    rw [List.getElem_take] at hget
    have hd := decodeMasses_getElem? items (id := i + 1) (by omega) (by omega)
    rw [Nat.add_sub_cancel, List.getElem?_eq_getElem (by rw [decodeMasses_length]; omega), hget] at hd
    exact ⟨i + 1, mem_massIds.2 (by omega), by omega, congrArg Prod.fst (Option.some.inj hd).symm⟩
  · rintro ⟨j, hj, hlt, rfl⟩
    obtain ⟨h1, h40⟩ := mem_massIds.1 hj
    refine ⟨_, List.mem_of_getElem? (i := j - 1) ?_, rfl⟩
    rw [List.getElem?_take_of_lt (by omega)]
    exact decodeMasses_getElem? items h1 h40

/-! ### The checks of R179 -/

/-- Start-up keeps the record of a mass id (R179; log 18). -/
structure Keeps (sv : Option Survey) (items : List Byte) (id : Nat) (m : Mass) : Prop where
  settled : m.state ≠ .inTransfer
  inside : ∀ v, sv = some v → (∀ c, m.bay = some c → c < v.nb) ∧ ∀ k, m.landing = some k → k < v.nl
  apart : ∀ j ∈ massIds, j < id → ∀ n, Spelled items j n →
    (∀ c, m.namedBay = some c → n.namedBay ≠ some c) ∧ ∀ f, m.namedFrame = some f → n.namedFrame ≠ some f

theorem samePlace_iff (a b : Mass) : samePlace a b = true ↔
    (∃ c, a.namedBay = some c ∧ b.namedBay = some c) ∨ ∃ f, a.namedFrame = some f ∧ b.namedFrame = some f := by
  rw [samePlace, Bool.or_eq_true, Bool.and_eq_true, Bool.and_eq_true, beq_iff_eq, beq_iff_eq, Option.isSome_iff_exists,
    Option.isSome_iff_exists]
  grind

theorem Mass.Sound.namedBay {m : Mass} (h : m.Sound) : m.namedBay = m.bay := by
  obtain ⟨-, -, hplace⟩ := h
  obtain ⟨state, nominal, bay, frame, landing, task⟩ := m
  cases state with
  | stored | inTransfer => rfl
  | absent | unaccounted | carried => exact hplace.1.symm

theorem outsideShaft_iff {m : Mass} (h : m.Sound) (v : Survey) : outsideShaft v m = false ↔
    (∀ c, m.bay = some c → c < v.nb) ∧ ∀ k, m.landing = some k → k < v.nl := by
  rw [outsideShaft, h.namedBay]
  cases m.bay <;> cases m.landing <;> simp

theorem decodedMass_cases (items : List Byte) (id : Nat) : (∃ m, Spelled items id m ∧ decodedMass items id = (m, false)) ∨
    ((¬ ∃ m, Spelled items id m) ∧ decodedMass items id = (Mass.placeless (min 60000 (max 5000
      (recordByte items id 2 + 256 * recordByte items id 3))), true)) := by
  by_cases h : ∃ m, Spelled items id m
  · obtain ⟨m, hm⟩ := h
    exact .inl ⟨m, hm, decodeMass_spelled hm⟩
  · exact .inr ⟨h, decodeMass_unspelled h⟩

theorem mustLose_eq_false_iff (sv : Option Survey) (lower : List Mass) (m : Mass) : mustLose sv lower m = false ↔
    m.state ≠ .inTransfer ∧ (∀ v, sv = some v → outsideShaft v m = false) ∧ lower.any (samePlace m) = false := by
  cases sv with
  | none => simp [mustLose]
  | some v => simp [mustLose, and_assoc]

theorem mustLose_iff {sv : Option Survey} {items : List Byte} {id : Nat} (h2 : id ≤ 40) {m : Mass} (h : m.Sound) :
    mustLose sv (lowerMasses items id) m = false ↔ Keeps sv items id m := by
  have happart : (lowerMasses items id).any (samePlace m) = false ↔ ∀ j ∈ massIds, j < id → ∀ n, Spelled items j n →
      (∀ c, m.namedBay = some c → n.namedBay ≠ some c) ∧ ∀ f, m.namedFrame = some f → n.namedFrame ≠ some f := by
    simp only [List.any_eq_false, mem_lowerMasses h2, samePlace_iff]
    constructor
    · intro hno j hj hlt n hn
      have hd : decodedMass items j = (n, false) := decodeMass_spelled hn
      have hsame := hno n ⟨j, hj, hlt, congrArg Prod.fst hd⟩
      exact ⟨fun c hm hn => hsame (.inl ⟨c, hm, hn⟩), fun f hm hn => hsame (.inr ⟨f, hm, hn⟩)⟩
    · rintro hall r ⟨j, hj, hlt, rfl⟩
      rcases decodedMass_cases items j with ⟨n, hn, hd⟩ | ⟨-, hd⟩
      · rw [hd]
        obtain ⟨hbay, hframe⟩ := hall j hj hlt n hn
        rintro (⟨c, hm, hc⟩ | ⟨f, hm, hf⟩)
        · exact hbay c hm hc
        · exact hframe f hm hf
      · rw [hd]
        rintro (⟨c, -, hc⟩ | ⟨f, -, hf⟩)
        · exact absurd hc nofun
        · exact absurd hf nofun
  rw [mustLose_eq_false_iff, happart]
  exact ⟨fun ⟨hsettled, hinside, hapart⟩ => ⟨hsettled, fun v hv => (outsideShaft_iff h v).1 (hinside v hv), hapart⟩,
    fun hk => ⟨hk.settled, fun v hv => (outsideShaft_iff h v).2 (hk.inside v hv), hk.apart⟩⟩

theorem Spelled.unique {items : List Byte} {id : Nat} {m n : Mass} (hm : Spelled items id m) (hn : Spelled items id n) :
    m = n :=
  Option.some.inj (((decodedRecord_iff items id m).2 hm).symm.trans ((decodedRecord_iff items id n).2 hn))

/-- An UNACCOUNTED record names no place, so start-up keeps it. -/
theorem keeps_of_unaccounted {sv : Option Survey} {items : List Byte} {id : Nat} {m : Mass} (h : m.Sound)
    (hstate : m.state = .unaccounted) : Keeps sv items id m := by
  obtain ⟨-, -, hplace⟩ := h
  obtain ⟨state, nominal, bay, frame, landing, task⟩ := m
  obtain rfl : state = .unaccounted := hstate
  obtain ⟨rfl, rfl, rfl⟩ := hplace
  exact ⟨nofun, fun v hv => ⟨nofun, nofun⟩, fun j hj hlt n hn => ⟨nofun, nofun⟩⟩

/-! ### What each record becomes -/

section
variable {sv : Option Survey} {items : List Byte} {id : Nat} {m : Mass} (h2 : id ≤ 40)
include h2

theorem judgedMass_kept (h : Spelled items id m) (hk : Keeps sv items id m) : judgedMass sv items id = (m, false) := by
  have hd : decodedMass items id = (m, false) := decodeMass_spelled h
  rw [judgedMass, hd, (mustLose_iff h2 h.sound).2 hk]
  rfl

theorem judgedMass_lost (h : Spelled items id m) (hk : ¬ Keeps sv items id m) :
    judgedMass sv items id = (Mass.placeless m.nominal, true) := by
  have hd : decodedMass items id = (m, false) := decodeMass_spelled h
  rw [judgedMass, hd]
  exact if_pos (Bool.eq_true_of_not_eq_false (mt (mustLose_iff h2 h.sound).1 hk))

omit h2 in
theorem judgedMass_unspelled (h : ¬ ∃ m, Spelled items id m) : judgedMass sv items id = (Mass.placeless (min 60000 (max 5000
    (recordByte items id 2 + 256 * recordByte items id 3))), true) := by
  have hd := decodeMass_unspelled h
  unfold judgedMass decodedMass
  rw [hd]
  exact ite_self _

theorem judgedMass_settled : (judgedMass sv items id).1.state ≠ .inTransfer ∧ (judgedMass sv items id).1.task = none := by
  by_cases h : ∃ m, Spelled items id m
  · obtain ⟨m, hm⟩ := h
    by_cases hk : Keeps sv items id m
    · rw [judgedMass_kept h2 hm hk]
      exact ⟨hk.settled, hm.task⟩
    · rw [judgedMass_lost h2 hm hk]
      exact ⟨nofun, rfl⟩
  · rw [judgedMass_unspelled h]
    exact ⟨nofun, rfl⟩

/-- Start-up has not made a record UNACCOUNTED, exactly where an UNACCOUNTED one was spelled so (R179). -/
theorem judgedMass_made : (judgedMass sv items id).2 = false ↔
    ((judgedMass sv items id).1.state = .unaccounted → ∃ m, Spelled items id m ∧ m.state = .unaccounted) := by
  by_cases h : ∃ m, Spelled items id m
  · obtain ⟨m, hm⟩ := h
    by_cases hk : Keeps sv items id m
    · rw [judgedMass_kept h2 hm hk]
      exact ⟨fun _ hstate => ⟨m, hm, hstate⟩, fun _ => rfl⟩
    · rw [judgedMass_lost h2 hm hk]
      refine ⟨nofun, fun hno => ?_⟩
      obtain ⟨n, hn, hstate⟩ := hno rfl
      obtain rfl := Spelled.unique hm hn
      exact absurd (keeps_of_unaccounted hm.sound hstate) hk
  · rw [judgedMass_unspelled h]
    exact ⟨nofun, fun hno => absurd ((hno rfl).imp fun m hm => hm.1) h⟩

end

end Sys2Proof.Machine
end

section
/-! SUPPORT. O59: INVENTORY_READ_END. -/

namespace Sys2Proof.Machine

/-! ### The inventory that start-up adopts (R179, R180) -/

theorem Sti.handOver_chosen (x : Sti) (r : Region) (items : List Byte) :
    (x.handOver r items).current = x.current ∧ (x.handOver r items).generation = x.generation := by
  unfold Sti.handOver
  split <;> exact ⟨rfl, rfl⟩

/-- A save request leaves the current slots and their generations. -/
theorem saveRequestIf_chosen (b : Bool) (s : State) :
    (saveRequestIf b s).sti.current = s.sti.current ∧ (saveRequestIf b s).sti.generation = s.sti.generation := by
  unfold saveRequestIf saveRequest
  split
  · split
    · exact s.sti.handOver_chosen _ _
    · exact ⟨rfl, rfl⟩
    · exact ⟨rfl, rfl⟩
    · exact ⟨rfl, rfl⟩
  · exact ⟨rfl, rfl⟩

theorem inventoryBody_congr {x y : Inv} (hm : x.masses = y.masses) (hb : x.bays = y.bays) (hl : x.landings = y.landings)
    (hv : x.verified = y.verified) : inventoryBody x = inventoryBody y := by
  unfold inventoryBody
  rw [hm, hb, hl, hv]

/-- The inventory adopted, INVENTORY_STATE raised and a save requested where the two conditions hold. -/
def adopt (x : Inv) (announced saved : Bool) (s : State) : State :=
  saveRequestIf saved (announceIf announced (adoptInventory x s))

/-- What start-up leaves once it has adopted an inventory (R179, R180). -/
structure Started (x : Inv) (announced saved : Bool) (s t : State) : Prop where
  startUp : t.startUp = .ended
  mode : t.mdc.mode = if s.svt.state = .valid ∧ x.verified = true then .hold else .lockout
  changed : ∀ w, (t.port w).flags.getLsbD 0 = true
  announced : announced = true → ∀ w, isWatcher (s.port w).role = true → (t.port w).flags.getLsbD 12 = true
  svt : t.svt = s.svt
  ftk : t.ftk = s.ftk
  tku : t.tku = s.tku
  current : t.sti.current = s.sti.current
  generation : t.sti.generation = s.sti.generation
  masses : t.inv.masses = x.masses
  landings : t.inv.landings = x.landings
  verified : t.inv.verified = x.verified
  bay : ∀ c < 40, t.bay c = { x.bays.getD c Bay.unreadable with content := bayContent x.masses c }
  save : t.inv.save = if saved then x.save.requested else x.save
  body : inventoryBody t.inv = inventoryBody x.rebuildBays

theorem announceIf_flag {s : State} {w : PortId} (hw : isWatcher (s.port w).role = true) :
    ((announceIf true s).port w).flags.getLsbD 12 = true :=
  flag_raiseOn (s := s) hw rfl

theorem announceIf_blocks (announced : Bool) (s : State) : (announceIf announced s).inv = s.inv ∧
    (announceIf announced s).sti = s.sti := by
  unfold announceIf
  split <;> exact ⟨rfl, rfl⟩

/-- The inventory adopted, before the mode is entered. -/
structure Adopted (x : Inv) (announced saved : Bool) (s t : State) : Prop where
  frame : InventoryFrame s t
  port : ∀ w, t.port w = (announceIf announced s).port w
  current : t.sti.current = s.sti.current
  generation : t.sti.generation = s.sti.generation
  masses : t.inv.masses = x.masses
  bays : t.inv.bays = x.rebuildBays.bays
  landings : t.inv.landings = x.landings
  verified : t.inv.verified = x.verified
  save : t.inv.save = if saved then x.save.requested else x.save

theorem adopt_adopted (x : Inv) (announced saved : Bool) (s : State) :
    Adopted x announced saved s (adopt x announced saved s) := by
  obtain ⟨hinv, hsti⟩ := announceIf_blocks announced (adoptInventory x s)
  obtain ⟨hmasses, hbays, hlandings, hverified, -⟩ := saveRequestIf_inv saved (announceIf announced (adoptInventory x s))
  obtain ⟨hcurrent, hgeneration⟩ := saveRequestIf_chosen saved (announceIf announced (adoptInventory x s))
  have hsave := saveRequestIf_save saved (announceIf announced (adoptInventory x s))
  have hports := saveRequestIf_ports saved (announceIf announced (adoptInventory x s))
  rw [hinv] at hmasses hbays hlandings hverified hsave
  rw [hsti] at hcurrent hgeneration
  have hframe : InventoryFrame s (adopt x announced saved s) :=
    ((adoptInventory_inventory x s).trans (announceIf_inventory _ _)).trans (saveRequestIf_inventory _ _)
  have hannounced : (announceIf announced (adoptInventory x s)).ports = (announceIf announced s).ports := by
    cases announced <;> rfl
  refine ⟨hframe, fun w => ?_, hcurrent, hgeneration, hmasses, hbays, hlandings, hverified, hsave⟩
  exact congrArg (fun b => b.getD w.val (PortState.initial .monitor)) (hports.trans hannounced)

theorem enterMode_port (s : State) (w : PortId) : ((enterMode s).drive.port w).flags = ((s.port w).raise .modeChanged).flags := by
  rw [drive_flags]
  exact congrArg PortState.flags (State.port_raiseAll (setMode (startMode s) s) .modeChanged w)

theorem Adopted.started {x : Inv} {announced saved : Bool} {s t : State} (h : Adopted x announced saved s t) :
    Started x announced saved s (enterMode t).drive := by
  have hframe := h.frame
  unfold InventoryFrame at hframe
  have hsvt : t.svt = s.svt := (congrArg State.svt hframe :)
  have hflags := enterMode_port t
  refine ⟨rfl, ?_, fun w => ?_, fun ha w hw => ?_, hsvt, (congrArg State.ftk hframe :), (congrArg State.tku hframe :),
    h.current, h.generation, h.masses, h.landings, h.verified, fun c hc => ?_, h.save, ?_⟩
  · change startMode t = _
    rw [startMode, hsvt, h.verified]
  · rw [hflags]
    simp [PortState.raise, Event.bit]
  · subst ha
    have hflag := announceIf_flag hw
    rw [hflags, h.port, PortState.raise]
    simp [hflag]
  · refine (congrArg (fun b => b.getD c Bay.unreadable) h.bays).trans ?_
    simp only [Inv.rebuildBays, Bank.getD_ofFn, if_pos hc]
  · exact inventoryBody_congr h.masses h.bays h.landings h.verified

end Sys2Proof.Machine
end

section
/-! SUPPORT. O59: the two inventories that start-up can adopt, and the command. -/

namespace Sys2Proof.Machine

/-! ### The records of a body -/

/-- The inventory that a body gives. -/
def bodyInventory (items : List Byte) (s : State) : Inv :=
  s.inv.load items (loadedMasses s items)

theorem mem_loadedMasses {s : State} {items : List Byte} (e : Mass × Bool) :
    e ∈ loadedMasses s items ↔ ∃ id ∈ massIds, judgedMass (validSurvey s) items id = e := by
  constructor
  · intro he
    obtain ⟨i, hi, hget⟩ := List.getElem_of_mem he
    have hlt : i < 40 := loadedMasses_length s items ▸ hi
    have hj := loadedMasses_getElem? s items (id := i + 1) (by omega) (by omega)
    rw [Nat.add_sub_cancel, List.getElem?_eq_getElem hi, hget] at hj
    exact ⟨i + 1, mem_massIds.2 (by omega), (Option.some.inj hj).symm⟩
  · rintro ⟨id, hid, rfl⟩
    obtain ⟨h1, h40⟩ := mem_massIds.1 hid
    exact List.mem_of_getElem? (loadedMasses_getElem? s items h1 h40)

section
variable {x : Inv} {s u t : State} {items : List Byte} {announced saved : Bool}

theorem Started.mass_loaded (h : Started (bodyInventory items s) announced saved u t) {id : Nat}
    (hid : id ∈ massIds) : t.mass id = (judgedMass (validSurvey s) items id).1 := by
  obtain ⟨h1, h40⟩ := mem_massIds.1 hid
  rw [mass_of_ne_zero t (by omega), h.masses, bodyInventory, Inv.load, Bank.getD_ofFn, if_pos (by omega),
    loadedMasses_getElem? s items h1 h40]
  rfl

theorem bodyInventory_verified : (bodyInventory items s).verified = true ↔
    items.getD 332 0 = 1 ∧ ∀ id ∈ massIds, (judgedMass (validSurvey s) items id).2 = false := by
  have hany : (loadedMasses s items).any Prod.snd = false ↔
      ∀ id ∈ massIds, (judgedMass (validSurvey s) items id).2 = false := by
    simp only [List.any_eq_false, mem_loadedMasses]
    exact ⟨fun h id hid => Bool.eq_false_iff.2 (h _ ⟨id, hid, rfl⟩),
      fun h e ⟨id, hid, he⟩ => he ▸ Bool.eq_false_iff.1 (h id hid)⟩
  rw [← hany]
  simp [bodyInventory, Inv.load, serviceByte]

/-- Judging leaves an UNACCOUNTED record that nothing spelled, exactly where start-up made it so (R179). -/
theorem Started.verified_iff (h : Started (bodyInventory items s) announced saved u t) :
    t.inv.verified = true ↔ items.getD 332 0 = 1 ∧ ∀ id ∈ massIds, (t.mass id).state = .unaccounted →
      ∃ m, Spelled items id m ∧ m.state = .unaccounted := by
  rw [h.verified, bodyInventory_verified]
  refine and_congr_right fun _ => forall₂_congr fun id hid => ?_
  rw [h.mass_loaded hid]
  exact judgedMass_made (mem_massIds.1 hid).2

theorem Started.bay_loaded (h : Started (bodyInventory items s) announced saved u t) {c : Nat} (hc : c < 40) :
    (t.bay c).inService = (items.getD (280 + c) 0 == 1) := by
  rw [h.bay c hc]
  simp only [bodyInventory, Inv.load, Bank.getD_ofFn, if_pos hc, serviceByte]

theorem Started.landing_loaded (h : Started (bodyInventory items s) announced saved u t) {k : Nat}
    (hk : k < 12) : (t.landing k).inService = (items.getD (320 + k) 0 == 1) := by
  rw [State.landing, h.landings]
  simp only [bodyInventory, Inv.load, Bank.getD_ofFn, if_pos hk, serviceByte]

/-! ### The records of an unreadable region -/

theorem Started.mass_unreadable (h : Started x.loadUnreadable announced saved u t) {id : Nat} (hid : id ∈ massIds) :
    t.mass id = Mass.unreadable := by
  obtain ⟨h1, h40⟩ := mem_massIds.1 hid
  rw [mass_of_ne_zero t (by omega), h.masses, Inv.loadUnreadable, Bank.getD_ofFn, if_pos (by omega)]

theorem Started.bay_content (h : Started x announced saved u t) {c : Nat} (hc : c < 40) :
    (t.bay c).content = bayContent t.inv.masses c := by
  rw [h.bay c hc, h.masses]

theorem Started.bay_unreadable (h : Started x.loadUnreadable announced saved u t) {c : Nat} (hc : c < 40) :
    (t.bay c).inService = true ∧ (t.bay c).content = none := by
  constructor
  · rw [h.bay c hc]
    simp only [Inv.loadUnreadable, Bank.getD_ofFn, if_pos hc]
    rfl
  · rw [h.bay_content hc, bayContent_eq_find, List.find?_eq_none]
    intro id hid
    rw [h.mass_unreadable hid]
    exact Bool.false_ne_true

theorem Started.landing_unreadable (h : Started x.loadUnreadable announced saved u t) {k : Nat} (hk : k < 12) :
    (t.landing k).inService = true := by
  rw [State.landing, h.landings]
  simp only [Inv.loadUnreadable, Bank.getD_ofFn, if_pos hk]

end

/-! ### The end of the read -/

section
variable {s : State} {slotA slotB : List (List Byte)}

/-- The state once the read has found a slot, or none. -/
theorem inventoryReadEnds_none (h : chooseSlot (slotImage .inventory slotA) (slotImage .inventory slotB) = none) :
    Started s.inv.loadUnreadable true true (endRead .inventory none s) (inventoryReadEnds slotA slotB s) := by
  unfold inventoryReadEnds
  rw [h]
  exact (adopt_adopted s.inv.loadUnreadable true true (endRead .inventory none s)).started

theorem adopt_differing (x : Inv) (said : Bool) (items : List Byte) (s : State) :
    (let t := announceIf (said && !(adoptInventory x s).inv.verified) (adoptInventory x s);
      saveRequestIf (inventoryBody t.inv != items) t) =
      adopt x (said && !x.verified) (inventoryBody x.rebuildBays != items) s := by
  have hbody : inventoryBody (announceIf (said && !(adoptInventory x s).inv.verified) (adoptInventory x s)).inv =
      inventoryBody x.rebuildBays := by
    rw [(announceIf_blocks _ _).1]
    rfl
  dsimp only
  rw [hbody]
  rfl

theorem loadBody_eq (items : List Byte) (s : State) : loadBody items s =
    adopt (bodyInventory items s) (serviceByte items 332 && !(bodyInventory items s).verified)
      (inventoryBody (bodyInventory items s).rebuildBays != items) s :=
  adopt_differing (bodyInventory items s) (serviceByte items 332) items s

theorem bodyInventory_endRead (items : List Byte) (chosen : Option (Slot × BitVec 32 × List Byte)) (s : State) :
    bodyInventory items (endRead .inventory chosen s) = bodyInventory items s := rfl

theorem inventoryReadEnds_some {slot : Slot} {g : BitVec 32} {items : List Byte}
    (h : chooseSlot (slotImage .inventory slotA) (slotImage .inventory slotB) = some (slot, g, items)) :
    Started (bodyInventory items s) (serviceByte items 332 && !(bodyInventory items s).verified)
      (inventoryBody (bodyInventory items s).rebuildBays != items) (endRead .inventory (some (slot, g, items)) s)
      (inventoryReadEnds slotA slotB s) := by
  have hload (u : State) : loadInventory (some (slot, g, items)) u = loadBody items u := rfl
  unfold inventoryReadEnds
  dsimp only
  rw [h, hload, loadBody_eq, bodyInventory_endRead]
  exact (adopt_adopted _ _ _ _).started

end

/-- Start-up judges the places of a record by a VALID survey alone (R179). -/
theorem keeps_iff {s : State} {items : List Byte} {id : Nat} {m : Mass} : Keeps (validSurvey s) items id m ↔
    m.state ≠ .inTransfer ∧
      (s.svt.state = .valid → (∀ c, m.bay = some c → c < s.svt.working.nb) ∧
        ∀ k, m.landing = some k → k < s.svt.working.nl) ∧
      ∀ j ∈ massIds, j < id → ∀ n, Spelled items j n →
        (∀ c, m.namedBay = some c → n.namedBay ≠ some c) ∧ ∀ f, m.namedFrame = some f → n.namedFrame ≠ some f := by
  constructor
  · intro h
    exact ⟨h.settled, fun hvalid => h.inside s.svt.working (if_pos hvalid), h.apart⟩
  · rintro ⟨hsettled, hinside, hapart⟩
    refine ⟨hsettled, fun v hv => ?_, hapart⟩
    obtain ⟨hvalid, hsome⟩ := Option.ite_none_right_eq_some.1 hv
    cases hsome
    exact hinside hvalid

theorem save_started {s t : State} {x : Inv} {announced saved : Bool} (h : Started x announced saved s t)
    (hclean : x.save = .clean) : t.inv.save = if saved then .writing else .clean := by
  rw [h.save, hclean]
  rfl

/-- Settles O59: what the two slots hold, and what each record of the chosen body spells. -/
theorem startUpTakesTheInventoryAndEntersTheMode : Obligations.StartUpTakesTheInventoryAndEntersTheMode := by
  intro slotA slotB s a b waits chosen lost
  have hawaits : awaitsRead s .inventoryRead .inventory = true ↔ waits := awaitsRead_iff s _ _
  have hchosen {slot : Slot} {g : BitVec 32} {x : List Byte} (h : chosen slot g x) :
      chooseSlot a b = some (slot, g, x) := Chosen.chooseSlot ⟨h⟩
  refine ⟨fun hno => congrArg Host.Outcome.next (if_neg (mt hawaits.1 hno)), fun hw =>
    ⟨inventoryReadEnds slotA slotB s, congrArg Host.Outcome.next (if_pos (hawaits.2 hw)), ?_⟩⟩
  cases hc : chooseSlot a b with
  | none =>
    have h := inventoryReadEnds_none (s := s) hc
    refine ⟨h.startUp, by rw [h.verified]; exact h.mode, h.changed, h.svt, h.ftk, h.tku, fun id hid => ?_,
      fun c hc => h.bay_content hc, fun _ _ => ⟨h.verified, congrArg PerRegion.inventory h.current,
        fun hclean => save_started h hclean, fun id hid => ?_, fun c hc => h.bay_unreadable hc,
        fun k hk => h.landing_unreadable hk⟩, fun slot g items hsome => ?_⟩
    · rw [h.mass_unreadable hid]
      exact ⟨nofun, rfl⟩
    · rw [h.mass_unreadable hid]
      rfl
    · exact absurd (hc.symm.trans (hchosen hsome)) nofun
  | some found =>
    obtain ⟨slot, g, items⟩ := found
    have h := inventoryReadEnds_some (s := s) hc
    have hmass {id : Nat} (hid : id ∈ massIds) := h.mass_loaded hid
    refine ⟨h.startUp, by rw [h.verified]; exact h.mode, h.changed, h.svt, h.ftk, h.tku, fun id hid => ?_,
      fun c hc => h.bay_content hc, fun ha hb => ?_, fun slot' g' items' hsome => ?_⟩
    · rw [hmass hid]
      exact judgedMass_settled (mem_massIds.1 hid).2
    · rw [ha, hb] at hc
      exact absurd hc nofun
    · cases hc.symm.trans (hchosen hsome)
      intro field spelled keeps
      have hspelled (id : Nat) (m : Mass) : spelled id m ↔ Spelled items id m :=
        ⟨fun ⟨h1, h2, h3, h4, h5, h6, h7, h8⟩ => ⟨h1, h2, h3, h4, h5, h6, h7, h8⟩,
          fun ⟨h1, h2, h3, h4, h5, h6, h7, h8⟩ => ⟨h1, h2, h3, h4, h5, h6, h7, h8⟩⟩
      have hkeeps (id : Nat) (m : Mass) : keeps id m ↔ Keeps (validSurvey s) items id m := by
        rw [keeps_iff]
        simp only [keeps, hspelled]
      simp only [hspelled, hkeeps]
      refine ⟨congrArg PerRegion.inventory h.current, congrArg PerRegion.inventory h.generation,
        fun id hid => ⟨fun m hm hk => ?_, fun m hm hk => ?_, fun hno => ?_⟩, h.verified_iff, fun hyes hno => ?_,
        fun hclean => ?_, fun c hc => h.bay_loaded hc, fun k hk => h.landing_loaded hk⟩
      · rw [hmass hid, judgedMass_kept (mem_massIds.1 hid).2 hm hk]
      · rw [hmass hid, judgedMass_lost (mem_massIds.1 hid).2 hm hk]
        rfl
      · rw [hmass hid, judgedMass_unspelled hno]
        rfl
      · refine h.announced ?_
        rw [← h.verified, hno]
        exact (Bool.and_true _).trans (beq_iff_eq.2 hyes)
      · rw [save_started h hclean, h.body]
        by_cases hbody : inventoryBody (bodyInventory items s).rebuildBays = items
        · rw [if_pos hbody, if_neg (by simp [hbody])]
        · rw [if_neg hbody, if_pos (by simp [hbody])]

end Sys2Proof.Machine
end

section
/-! SUPPORT. O60: the end of a write attempt, and the writes that start-up and SAVE_SURVEY hand over. -/

namespace Sys2Proof.Machine

/-! ### The end of an attempt (R175, R176) -/

section
variable {s : State} {back : Option (List Byte)} {r : Region} {slot : Slot} {g : BitVec 32} {image : List Byte}

theorem storeAttemptEnds_idle (h : ∀ r x y z, s.sti.op ≠ .write r x y z) : storeAttemptEnds back s = s := by
  unfold storeAttemptEnds
  split
  · next hop => exact absurd hop (h _ _ _ _)
  · rfl
  · rfl

variable (hop : s.sti.op = .write r slot g image)
include hop

theorem storeAttemptEnds_write :
    storeAttemptEnds back s = (attemptEnds r slot g (back == some image) s).drive := by
  unfold storeAttemptEnds
  rw [hop]

theorem storeAttemptEnds_good (h : back = some image) : storeAttemptEnds back s =
    (tellWriteEnd r true (s.setSti (s.sti.commit r slot g).endOperation)).drive := by
  rw [storeAttemptEnds_write hop, attemptEnds, if_pos (beq_iff_eq.2 h)]

/-- An attempt that does not read back is made again, up to the third. -/
theorem storeAttemptEnds_again (h : back ≠ some image) (hless : s.sti.attempts ≤ 1) : storeAttemptEnds back s =
    (s.setSti { s.sti with attempts := s.sti.attempts + 1 }).drive := by
  have hattempts : s.sti.attempts + 1 < Config.storeAttempts := Nat.lt_of_le_of_lt (Nat.succ_le_succ hless) (by decide)
  rw [storeAttemptEnds_write hop, attemptEnds, if_neg (mt beq_iff_eq.1 h), if_pos hattempts]

theorem storeAttemptEnds_failed (h : back ≠ some image) (hthird : s.sti.attempts = 2) : storeAttemptEnds back s =
    (tellWriteEnd r false (s.setSti s.sti.endOperation)).drive := by
  have hattempts : ¬ s.sti.attempts + 1 < Config.storeAttempts := by
    rw [hthird]
    decide
  rw [storeAttemptEnds_write hop, attemptEnds, if_neg (mt beq_iff_eq.1 h), if_neg hattempts]

end

/-- With nothing waiting no operation follows. -/
theorem Sti.endOperation_alone {x : Sti} (h : x.waiting = ⟨none, none⟩) :
    x.endOperation = { x with op := .idle, attempts := 0 } := by
  simp only [Sti.endOperation, h]

/-- The one write that waits begins (R175). -/
theorem Sti.endOperation_next {x : Sti} {r : Region} {items : List Byte}
    (h : x.waiting = (⟨none, none⟩ : PerRegion (Option (List Byte))).set r (some items)) :
    x.endOperation = ({ x with op := .idle, attempts := 0, waiting := ⟨none, none⟩ } : Sti).beginWrite r items := by
  cases r <;> simp only [Sti.endOperation, h, PerRegion.set]

theorem Sti.beginWrite_eq (x : Sti) (r : Region) (items : List Byte) : x.beginWrite r items = { x with
    op := .write r (if x.current.get r = some .a then .b else .a) (x.generation.get r + 1)
      (imageBytes r (x.generation.get r + 1) items) } := by
  rw [← targetSlot_eq]
  rfl

/-! ### A survey that is saved (R11) -/

/-- What a take-over of the survey leaves (R11). -/
structure TakenOver (s t : State) : Prop where
  svt : t.svt = { working := s.svt.edit, edit := s.svt.edit, state := .valid, saveOutstanding := false
                  tuning := s.svt.edit.tuning }
  grants : t.gru.grants = ⟨none, none⟩
  table : t.arb.table = s.svt.edit.defaultTable
  pointer : t.arb.pointer = 0
  pending : t.arb.pendingTable = none
  current : t.sti.current = s.sti.current
  generation : t.sti.generation = s.sti.generation
  save : t.inv.save = s.inv.save.requested
  mass : ∀ j, t.mass j = s.mass j
  account : t.inv.storedKJ = storedOf (rawSum s.svt.edit s.inv.masses)

/-- The state that has taken the survey over, before its save request. -/
def takingOver (s : State) : State :=
  let t := s.setSvt { working := s.svt.edit, edit := s.svt.edit, state := .valid, saveOutstanding := false
                      tuning := s.svt.edit.tuning }
  let t := (t.setGru { t.gru with grants := ⟨none, none⟩ }).setArb (t.arb.adopt s.svt.edit)
  t.setInv (t.inv.adopt s.svt)

theorem takeOverSurvey_eq (s : State) : takeOverSurvey s = saveRequest [] (takingOver s) := rfl

theorem takeOverSurvey_drive (s : State) : TakenOver s (takeOverSurvey s).drive := by
  have hframe := saveRequest_inventory [] (takingOver s)
  unfold InventoryFrame at hframe
  obtain ⟨hmasses, -, -, -, haccount⟩ := saveRequest_inv [] (takingOver s)
  obtain ⟨hcurrent, hgeneration⟩ := saveRequestIf_chosen true (takingOver s)
  have hsave := saveRequest_requested [] (takingOver s)
  rw [takeOverSurvey_eq]
  exact ⟨(congrArg State.svt hframe :), (congrArg (fun u => u.gru.grants) hframe :),
    (congrArg (fun u => u.arb.table) hframe :), (congrArg (fun u => u.arb.pointer) hframe :),
    (congrArg (fun u => u.arb.pendingTable) hframe :), hcurrent, hgeneration, hsave,
    mass_of_masses hmasses, haccount⟩

end Sys2Proof.Machine
end

section
/-! SUPPORT. O60: the answers to the requesters of an inventory write. -/

namespace Sys2Proof.Machine

/-! ### The task after a verified change (R118, R123) -/

section
variable {id : Nat} {s : State} (f : Frame)

theorem advanceTask_onward (hid : id < 32) (hphase : (s.task id).phase = .loading)
    (hcancel : (s.task id).cancelPending = false) :
    (advanceTask id f s).task id = { s.task id with phase := .toDrop } ∧
      (advanceTask id f s).tku.completion = s.tku.completion := by
  have heq : advanceTask id f s = (setPhase id .toDrop s).raiseWinder f .taskChanged := by
    simp only [advanceTask, hphase, hcancel, Bool.false_eq_true, if_false]
  rw [heq]
  refine ⟨?_, rfl⟩
  rw [raiseWinder_task, setPhase, State.task_setTask, if_pos ⟨rfl, hid⟩]

/-- Where a cancel is pending the task becomes a return, and leaves the bay it no longer goes to. -/
theorem advanceTask_return (hid : id < 32) (hphase : (s.task id).phase = .loading)
    (hcancel : (s.task id).cancelPending = true) :
    (advanceTask id f s).task id = { s.task id with
      dest := (s.task id).source.getD (s.task id).dest, reasons := (s.task id).reasons ||| 0x0001,
      cancelPending := false, phase := .toDrop } ∧
    ((advanceTask id f s).bay (s.task id).dest).task =
      if (s.task id).source.getD (s.task id).dest ≠ (s.task id).dest ∧ (s.bay (s.task id).dest).task = some id then none
      else (s.bay (s.task id).dest).task := by
  have hreleased : (releaseBay (s.task id).dest id s).task id = s.task id := by
    rw [State.task, releaseBay_frame]
    rfl
  have heq : advanceTask id f s = returnTask id f s := by
    simp only [advanceTask, hphase, hcancel, if_true]
  rw [heq]
  unfold returnTask
  dsimp only
  split
  · next hback =>
    refine ⟨?_, (if_neg fun h => h.1 hback).symm⟩
    rw [raiseWinder_task, State.task_setTask, if_pos ⟨rfl, hid⟩]
    rfl
  · next hback =>
    constructor
    · rw [raiseWinder_task, State.task_setTask, if_pos ⟨rfl, hid⟩, hreleased]
      rfl
    · refine (congrArg Bay.task (releaseBay_bay (s.task id).dest id (s.task id).dest s)).trans ?_
      simp only [hback, not_false_eq_true, ne_eq, true_and]
      split
      · rfl
      · rfl

theorem advanceTask_done (hpool : PoolPartitioned s) (hid : id ∈ s.tku.queues.get f)
    (hphase : (s.task id).phase = .unloading) :
    ((advanceTask id f s).task id).phase = .done ∧
      (advanceTask id f s).tku.completion = s.tku.completion ++ [id] ∧
      (advanceTask id f s).tku.queues.get f = (s.tku.queues.get f).erase id := by
  obtain ⟨hlt, hnodup, -⟩ := pool_disjoint hpool f hid
  have hlive := liveIn_of_pool hpool hid
  obtain ⟨hcompletion, hqueues, -⟩ := endTask_collections id .done true s hlive
  have heq : advanceTask id f s = endTask id .done true s := by simp only [advanceTask, hphase]
  rw [heq]
  refine ⟨?_, hcompletion, ?_⟩
  · rw [endTask_task_self hlive hlt .done fun _ => hnodup.not_mem_erase]
    rfl
  · rw [hqueues, Pair.get_set_self]

end

/-! ### The end of a transfer that is told of its save (R138, R145) -/

theorem flag_transferEnded {s : State} {f : Frame} {q : PortId} (h : (s.port q).role = winderRole f) :
    ((s.raiseWinder f .transferEnded).port q).flags.getLsbD 7 = true := by
  rw [State.port_raiseWinder, if_pos h]
  simp [PortState.raise, Event.bit]

theorem clearContext_port (f : Frame) (r : TransferResult) (s : State) (q : PortId) :
    (clearContext f r s).port q = s.port q := rfl

/-- A transfer's end: its result, its event (R147). -/
structure EndedWith (f : Frame) (r : TransferResult) (s t : State) : Prop where
  transfer : t.transfer f = none
  result : t.xfc.lastResult.get f = some r
  save : t.inv.save = s.inv.save
  flag : ∀ q, (s.port q).role = winderRole f → (t.port q).flags.getLsbD 7 = true

section
variable {s : State} {f : Frame} {x : Transfer} (hx : s.transfer f = some x) (saved : Bool)
include hx

theorem endAbandoned_ended : EndedWith f (x.result .abandoned x.cause saved) s (endAbandoned f saved s) ∧
    (endAbandoned f saved s).tku = s.tku ∧ (endAbandoned f saved s).inv = s.inv := by
  rw [endAbandoned_eq hx]
  refine ⟨⟨Pair.get_set_self _ _ _, Pair.get_set_self _ _ _, rfl, fun q hq => ?_⟩, rfl, rfl⟩
  exact flag_transferEnded (by rw [clearContext_port, hq])

theorem endCompleted_eq : endCompleted f saved s =
    (advanceTask x.task f (clearContext f (x.result .completed .none saved) s)).raiseWinder f .transferEnded := by
  rw [endCompleted, hx]

theorem endCompleted_ended : EndedWith f (x.result .completed .none saved) s (endCompleted f saved s) := by
  obtain ⟨hxfc, -, -, -, -, -, -, hsave⟩ :=
    (advanceTask_frame x.task f (clearContext f (x.result .completed .none saved) s)).keeps
  have hsteady := advanceTask_steady x.task f (clearContext f (x.result .completed .none saved) s)
  rw [endCompleted_eq hx]
  refine ⟨?_, ?_, hsave, fun q hq => flag_transferEnded ?_⟩
  · exact (congrArg (fun y => y.contexts.get f) hxfc).trans (Pair.get_set_self _ _ _)
  · exact (congrArg (fun y => y.lastResult.get f) hxfc).trans (Pair.get_set_self _ _ _)
  · rw [(hsteady.port q).role, clearContext_port, hq]

end

/-! ### What follows the answers -/

/-- What follows the answers leaves: INV, TKU, STI, the transfers, and flags that are set. -/
structure AnsweredAs (u t : State) : Prop where
  contexts : t.xfc.contexts = u.xfc.contexts
  results : t.xfc.lastResult = u.xfc.lastResult
  inv : t.inv = u.inv
  tku : t.tku = u.tku
  sti : t.sti = u.sti
  flag : ∀ w i, (u.port w).flags.getLsbD i = true → (t.port w).flags.getLsbD i = true

theorem AnsweredAs.drive (u : State) : AnsweredAs u u.drive :=
  ⟨rfl, rfl, rfl, rfl, rfl, fun w i h => by rwa [drive_flags]⟩

theorem AnsweredAs.faulted (u : State) : AnsweredAs u (enterHold (u.raiseWatchers .storeFault)).drive := by
  have hflag : Steady u (u.raiseWatchers .storeFault) := Steady.raiseWatchers (.refl u) _
  have hhold := hflag.trans (enterHold_steady (u.raiseWatchers .storeFault))
  have hframe := enterHold_frame (u.raiseWatchers .storeFault)
  exact ⟨(congrArg (fun v => v.xfc.contexts) hframe :), (congrArg (fun v => v.xfc.lastResult) hframe :),
    (congrArg State.inv hframe :), (congrArg State.tku hframe :), (congrArg State.sti hframe :),
    fun w i h => by rw [drive_flags]; exact (hhold.port w).flag h⟩

theorem AnsweredAs.transfer {u t : State} (h : AnsweredAs u t) (f : Frame) : t.transfer f = u.transfer f :=
  congrArg (fun c => c.get f) h.contexts

theorem AnsweredAs.ended {s u t : State} {f : Frame} {r : TransferResult} (h : AnsweredAs u t) (hu : EndedWith f r s u) :
    EndedWith f r s t :=
  ⟨(h.transfer f).trans hu.transfer, (congrArg (fun c => c.get f) h.results).trans hu.result,
    (congrArg Inv.save h.inv).trans hu.save, fun q hq => h.flag q 7 (hu.flag q hq)⟩

end Sys2Proof.Machine
end

section
/-! SUPPORT. O60: the answers leave the store and what is persisted. -/

namespace Sys2Proof.Machine

/-! ### Service flags of bays (R85, R91) -/

theorem releaseBay_service (b n c : Nat) (s : State) : ((releaseBay b n s).bay c).inService = (s.bay c).inService := by
  rw [releaseBay_bay]
  split
  · next h => rw [h.1]
  · rfl

theorem releaseBayOf_service (b : Option Nat) (n c : Nat) (s : State) :
    ((releaseBayOf b n s).bay c).inService = (s.bay c).inService := by
  cases b with
  | none => rfl
  | some b => exact releaseBay_service b n c s

theorem releaseTask_service (id c : Nat) (s : State) : ((releaseTask id s).bay c).inService = (s.bay c).inService := by
  unfold releaseTask
  dsimp only
  rw [releaseBay_service, releaseBayOf_service, bay_of_bays (releaseMass_bays _ _ _)]

theorem endTask_service (id c : Nat) (p : Phase) (next : Bool) (s : State) :
    ((endTask id p next s).bay c).inService = (s.bay c).inService := by
  cases hlive : liveIn s id with
  | none => rw [endTask_of_not_live hlive]
  | some f => rw [bay_of_bays (congrArg Inv.bays (endTask_inv hlive p next)), releaseTask_service]

theorem returnTask_service (id c : Nat) (f : Frame) (s : State) :
    ((returnTask id f s).bay c).inService = (s.bay c).inService := by
  unfold returnTask
  dsimp only
  split
  · rfl
  · exact releaseBay_service _ _ _ _

theorem advanceTask_service (id c : Nat) (f : Frame) (s : State) :
    ((advanceTask id f s).bay c).inService = (s.bay c).inService := by
  unfold advanceTask
  split
  · split
    · exact returnTask_service _ _ _ _
    · rfl
  · exact endTask_service _ _ _ _ _
  · rfl

/-! ### What is persisted (R91) -/

/-- Where records, but for reservations, and flags and state stay, so does the persisted inventory. -/
theorem inventoryBody_kept {s t : State} (hmass : ∀ id, ∃ n, t.mass id = { s.mass id with task := n })
    (hbay : ∀ c, (t.bay c).inService = (s.bay c).inService) (hlandings : t.inv.landings = s.inv.landings)
    (hverified : t.inv.verified = s.inv.verified) : inventoryBody t.inv = inventoryBody s.inv := by
  have hmasses (i : Nat) : massBytes (i + 1) (t.inv.masses.getD i Mass.unreadable) =
      massBytes (i + 1) (s.inv.masses.getD i Mass.unreadable) := by
    obtain ⟨n, hn⟩ := hmass (i + 1)
    have hn : t.inv.masses.getD i Mass.unreadable = { s.inv.masses.getD i Mass.unreadable with task := n } := hn
    rw [hn]
    rfl
  have hbays (c : Nat) : indication (t.inv.bays.getD c Bay.unreadable).inService =
      indication (s.inv.bays.getD c Bay.unreadable).inService := congrArg indication (hbay c)
  unfold inventoryBody
  simp only [hmasses, hbays, hlandings, hverified]

/-! ### Answers (R136, R138, R145) -/

/-- What an answer leaves: the store, the save state, and with a save that was made the persisted inventory. -/
structure ToldKept (saved : Bool) (s t : State) : Prop where
  sti : t.sti = s.sti
  save : t.inv.save = s.inv.save
  body : saved = true → inventoryBody t.inv = inventoryBody s.inv

theorem ToldKept.refl (saved : Bool) (s : State) : ToldKept saved s s := ⟨rfl, rfl, fun _ => rfl⟩

theorem ToldKept.trans {saved : Bool} {s t u : State} (h1 : ToldKept saved s t) (h2 : ToldKept saved t u) :
    ToldKept saved s u :=
  ⟨h2.sti.trans h1.sti, h2.save.trans h1.save, fun h => (h2.body h).trans (h1.body h)⟩

theorem advanceTask_told (id : Nat) (f : Frame) (saved : Bool) (s : State) : ToldKept saved s (advanceTask id f s) := by
  obtain ⟨-, -, -, -, hsti, hverified, hlandings, hsave⟩ := (advanceTask_frame id f s).keeps
  exact ⟨hsti, hsave, fun _ => inventoryBody_kept (advanceTask_untouched id f s).mass
    (fun c => advanceTask_service id c f s) hlandings hverified⟩

theorem endAbandoned_told (f : Frame) (saved told : Bool) (s : State) : ToldKept told s (endAbandoned f saved s) := by
  unfold endAbandoned
  split
  · exact ⟨rfl, rfl, fun _ => rfl⟩
  · exact .refl _ s

theorem endCompleted_told (f : Frame) (saved told : Bool) (s : State) : ToldKept told s (endCompleted f saved s) := by
  unfold endCompleted
  split
  · next x hx =>
    have hclear : ToldKept told s (clearContext f (x.result .completed .none saved) s) := ⟨rfl, rfl, fun _ => rfl⟩
    have hraise (u : State) : ToldKept told u (u.raiseWinder f .transferEnded) := ⟨rfl, rfl, fun _ => rfl⟩
    exact (hclear.trans (advanceTask_told x.task f told _)).trans (hraise _)
  · exact .refl _ s

theorem returned_sti (x : Transfer) (s : State) : (returned x s).sti = s.sti := by
  obtain ⟨-, -, -, -, -, hsti⟩ := putMass_inv x.mass ((s.mass x.mass).restored x.ret) s
  rw [← restoreMass_eq] at hsti
  exact hsti

theorem abandoning_sti (f : Frame) (x : Transfer) (c : Cause) (s : State) : (abandoning f x c s).sti = s.sti := by
  obtain ⟨-, -, -, -, hsti, -⟩ :=
    (restoreTask_frame x.task f (returned x (s.setTransfer f (some (abandoned x c))))).keeps
  exact hsti.trans (returned_sti x (s.setTransfer f (some (abandoned x c))))

/-- A commit that was not saved ends its transfer at once, for the part is in NOT_SAVED (R92, R136). -/
theorem commitAnswered_told {f : Frame} {x : Transfer} {s : State} (hx : s.transfer f = some x) {saved : Bool}
    (h : saved = false → s.inv.save = .notSaved) : ToldKept saved s (commitAnswered f x saved s) := by
  cases saved with
  | true => exact ⟨rfl, rfl, fun _ => rfl⟩
  | false =>
    have heq : commitAnswered f x false s = enterAbandoning f .storeFault s := rfl
    rw [heq, enterAbandoning_closed hx .storeFault (h rfl)]
    exact ⟨abandoning_sti f x .storeFault s, (abandoning_blocks f x .storeFault s).2.2.2.2.1, nofun⟩

theorem saveAnswered_told (w : Waiter) {saved : Bool} {s : State} (h : saved = false → s.inv.save = .notSaved) :
    ToldKept saved s (saveAnswered w saved s) := by
  unfold saveAnswered
  split
  · next x hx =>
    split
    · exact commitAnswered_told hx h
    · exact endAbandoned_told _ _ _ s
    · exact endCompleted_told _ _ _ s
    · exact .refl _ s
  · exact .refl _ s

theorem tellAll_told (ws : List Waiter) {saved : Bool} {s : State} (h : saved = false → s.inv.save = .notSaved) :
    ToldKept saved s (tellAll ws saved s) := by
  unfold tellAll
  induction ws generalizing s with
  | nil => exact .refl _ s
  | cons w ws ih =>
    have htold := saveAnswered_told w h
    exact htold.trans (ih fun hs => htold.save.trans (h hs))

end Sys2Proof.Machine
end

section
/-! SUPPORT. O60: the ends of inventory writes, and the write that waits. -/

namespace Sys2Proof.Machine

/-! ### The end of an inventory write (R93, R94) -/

theorem inventoryWriteCompleted_writing {s : State} (h : s.inv.save = .writing) :
    inventoryWriteCompleted s = tellAll s.inv.carriedWaiters true (settleSave .clean s) := by
  simp only [inventoryWriteCompleted, h]

/-- Where changes waited the next write begins, once the requesters of this one have been told. -/
theorem inventoryWriteCompleted_dirty {s : State} (h : s.inv.save = .writingDirty) :
    inventoryWriteCompleted s = startInventoryWrite (tellAll s.inv.carriedWaiters true s).inv.nextWaiters
      (tellAll s.inv.carriedWaiters true s) := by
  simp only [inventoryWriteCompleted, h]

theorem inventoryWriteFailed_flight {s : State} (h : s.inv.save = .writing ∨ s.inv.save = .writingDirty) :
    inventoryWriteFailed s = enterHold
      ((tellAll (s.inv.carriedWaiters ++ s.inv.nextWaiters) false (settleSave .notSaved s)).raiseWatchers .storeFault) := by
  rcases h with h | h <;> simp only [inventoryWriteFailed, h] <;> rfl

/-! ### An operation that has begun already (R175) -/

/-- The operation in flight goes on. -/
structure Busy (s t : State) : Prop where
  op : t.sti.op = s.sti.op
  attempts : t.sti.attempts = s.sti.attempts

theorem Busy.of_sti {s t : State} (h : t.sti = s.sti) : Busy s t := ⟨by rw [h], by rw [h]⟩

theorem Busy.trans {s t u : State} (h1 : Busy s t) (h2 : Busy t u) : Busy s u :=
  ⟨h2.op.trans h1.op, h2.attempts.trans h1.attempts⟩

section
variable {x : Sti} {r : Region} {slot : Slot} {g : BitVec 32} {image : List Byte}

theorem Sti.handOver_busy (h : x.op = .write r slot g image) (q : Region) (items : List Byte) :
    x.handOver q items = { x with waiting := x.waiting.set q (some items) } := by
  simp only [Sti.handOver, h]

variable {s : State} (h : s.sti.op = .write r slot g image)
include h

theorem startInventoryWrite_busy (ws : List Waiter) : (startInventoryWrite ws s).sti =
    { s.sti with waiting := s.sti.waiting.set .inventory (some (inventoryBody s.inv)) } :=
  Sti.handOver_busy h .inventory (inventoryBody s.inv)

theorem saveRequest_busy (ws : List Waiter) : Busy s (saveRequest ws s) := by
  have hstart := startInventoryWrite_busy h ws
  unfold saveRequest
  split
  · exact ⟨(congrArg Sti.op hstart :), (congrArg Sti.attempts hstart :)⟩
  · exact .of_sti rfl
  · exact .of_sti rfl
  · exact .of_sti rfl

theorem inventoryWriteCompleted_busy : Busy s (inventoryWriteCompleted s) := by
  have htold (u : State) : ToldKept true u (tellAll s.inv.carriedWaiters true u) := tellAll_told _ nofun
  unfold inventoryWriteCompleted
  split
  · exact .of_sti (htold (settleSave .clean s)).sti
  · have hsti := (htold s).sti
    have hstart := startInventoryWrite_busy (s := tellAll s.inv.carriedWaiters true s) (by rw [hsti, h])
      (tellAll s.inv.carriedWaiters true s).inv.nextWaiters
    refine (Busy.of_sti hsti).trans ⟨(congrArg Sti.op hstart :), (congrArg Sti.attempts hstart :)⟩
  · exact .of_sti rfl
  · exact .of_sti rfl

omit h in
theorem enterNotSaved_sti : (enterNotSaved s).sti = s.sti := by
  have htold := tellAll_told (s.inv.carriedWaiters ++ s.inv.nextWaiters) (saved := false)
    (s := settleSave .notSaved s) fun _ => rfl
  unfold enterNotSaved
  dsimp only
  rw [enterHold_frame]
  exact htold.sti

omit h in
theorem inventoryWriteFailed_sti : (inventoryWriteFailed s).sti = s.sti := by
  unfold inventoryWriteFailed
  split
  · exact enterNotSaved_sti
  · exact enterNotSaved_sti
  · rfl
  · rfl

theorem tellWriteEnd_busy (q : Region) (completed : Bool) : Busy s (tellWriteEnd q completed s) := by
  unfold tellWriteEnd
  split
  · have htaken : Busy s (takingOver s) := .of_sti rfl
    rw [takeOverSurvey_eq]
    exact htaken.trans (saveRequest_busy (s := takingOver s) h [])
  · exact .of_sti rfl
  · exact inventoryWriteCompleted_busy h
  · exact .of_sti inventoryWriteFailed_sti

end

/-! ### The write that waits (R175) -/

/-- What a write that was waiting leaves as it begins and the block of the ended one is told. -/
structure NextBegun (s : State) (region r : Region) (good : Bool) (items : List Byte) (t : State) : Prop where
  op : t.sti.op = .write r (if s.sti.current.get r = some .a then .b else .a) (s.sti.generation.get r + 1)
    (imageBytes r (s.sti.generation.get r + 1) items)
  attempts : t.sti.attempts = 0
  dirty : region = .inventory → good = true → s.inv.save = .writingDirty →
    t.inv.save = .writing ∧ t.sti.waiting = ⟨none, some (inventoryBody s.inv)⟩
  survey : region = .survey → good = true → s.inv.save = .writing →
    t.inv.save = .writingDirty ∧ t.sti.waiting = ⟨none, none⟩

theorem nextBegun {s u : State} {region r : Region} {items : List Byte} {good : Bool} (hinv : u.inv = s.inv)
    (hop : u.sti.op = .write r (if s.sti.current.get r = some .a then .b else .a) (s.sti.generation.get r + 1)
      (imageBytes r (s.sti.generation.get r + 1) items)) (hattempts : u.sti.attempts = 0)
    (hwaiting : u.sti.waiting = ⟨none, none⟩) : NextBegun s region r good items (tellWriteEnd region good u).drive := by
  have hbusy := tellWriteEnd_busy hop region good
  refine ⟨hbusy.op.trans hop, hbusy.attempts.trans hattempts, ?_, ?_⟩
  · rintro rfl rfl hsave
    have htold := tellAll_told u.inv.carriedWaiters (saved := true) (s := u) nofun
    have hstart := startInventoryWrite_busy (s := tellAll u.inv.carriedWaiters true u) (by rw [htold.sti, hop])
      (tellAll u.inv.carriedWaiters true u).inv.nextWaiters
    have heq : tellWriteEnd .inventory true u = _ := inventoryWriteCompleted_dirty (by rw [hinv, hsave])
    rw [heq]
    refine ⟨rfl, (congrArg Sti.waiting hstart :).trans ?_⟩
    rw [htold.sti, hwaiting, htold.body rfl, hinv]
    rfl
  · rintro rfl rfl hsave
    have hsave' : (takingOver u).inv.save = .writing := (congrArg Inv.save hinv).trans hsave
    obtain ⟨-, hdirty⟩ := saveRequest_waiters [] (s := takingOver u)
    obtain ⟨hs, hsti, -⟩ := hdirty (by rw [hsave']; decide) (by rw [hsave']; decide)
    exact ⟨hs, (congrArg Sti.waiting hsti).trans hwaiting⟩

section
variable {s : State} {back : Option (List Byte)} {region r : Region} {slot : Slot} {g : BitVec 32}
  {image items : List Byte}

theorem storeAttemptEnds_next (hop : s.sti.op = .write region slot g image)
    (hlast : back = some image ∨ s.sti.attempts = 2)
    (hwaiting : s.sti.waiting = (⟨none, none⟩ : PerRegion (Option (List Byte))).set r (some items)) (hr : r ≠ region) :
    NextBegun s region r (back == some image) items (storeAttemptEnds back s) := by
  by_cases hback : back = some image
  · have hcurrent : (s.sti.commit region slot g).current.get r = s.sti.current.get r :=
      (PerRegion.get_set _ _ _ _).trans (if_neg hr)
    have hgeneration : (s.sti.commit region slot g).generation.get r = s.sti.generation.get r :=
      (PerRegion.get_set _ _ _ _).trans (if_neg hr)
    have hnext := Sti.endOperation_next (x := s.sti.commit region slot g) hwaiting
    rw [Sti.beginWrite_eq] at hnext
    rw [storeAttemptEnds_good hop hback, beq_iff_eq.2 hback]
    refine nextBegun (u := s.setSti (s.sti.commit region slot g).endOperation) rfl ?_ ?_ ?_
    · exact (congrArg Sti.op hnext).trans (by dsimp only; rw [hcurrent, hgeneration])
    · exact congrArg Sti.attempts hnext
    · exact congrArg Sti.waiting hnext
  · have hnext := Sti.endOperation_next hwaiting
    rw [Sti.beginWrite_eq] at hnext
    rw [storeAttemptEnds_failed hop hback (hlast.resolve_left hback), beq_eq_false_iff_ne.2 hback]
    exact nextBegun (u := s.setSti s.sti.endOperation) rfl (congrArg Sti.op hnext) (congrArg Sti.attempts hnext)
      (congrArg Sti.waiting hnext)

end

end Sys2Proof.Machine
end

section
/-! SUPPORT. O60: STORE_ATTEMPT_END. -/

namespace Sys2Proof.Machine

theorem exec_storeAttemptEnd (back : Option (List Byte)) (s : State) :
    exec (.storeAttemptEnd back) s = .next (storeAttemptEnds back s) := rfl

section
variable {s : State} {back : Option (List Byte)} {slot : Slot} {g : BitVec 32} {image : List Byte}

/-! ### Writes that no requester waits for (R11, R12, R93) -/

/-- STI once a write has completed with nothing waiting (R176). -/
def Sti.completed (x : Sti) (r : Region) (slot : Slot) (g : BitVec 32) : Sti :=
  { x with op := .idle, attempts := 0, current := x.current.set r (some slot), generation := x.generation.set r g }

theorem Sti.endOperation_completed {x : Sti} (h : x.waiting = ⟨none, none⟩) (r : Region) (slot : Slot) (g : BitVec 32) :
    (x.commit r slot g).endOperation = x.completed r slot g :=
  Sti.endOperation_alone (x := x.commit r slot g) h

theorem storeAttemptEnds_completed {r : Region} (hop : s.sti.op = .write r slot g image) (hback : back = some image)
    (hwaiting : s.sti.waiting = ⟨none, none⟩) :
    storeAttemptEnds back s = (tellWriteEnd r true (s.setSti (s.sti.completed r slot g))).drive := by
  rw [storeAttemptEnds_good hop hback, Sti.endOperation_completed hwaiting]

theorem storeAttemptEnds_lost {r : Region} (hop : s.sti.op = .write r slot g image) (hback : back ≠ some image)
    (hthird : s.sti.attempts = 2) (hwaiting : s.sti.waiting = ⟨none, none⟩) :
    storeAttemptEnds back s = (tellWriteEnd r false (s.setSti { s.sti with op := .idle, attempts := 0 })).drive := by
  rw [storeAttemptEnds_failed hop hback hthird, Sti.endOperation_alone hwaiting]

theorem completed_clean {u : State} (hsave : u.inv.save = .writing) (hnone : u.inv.carriedWaiters = []) :
    tellWriteEnd .inventory true u = settleSave .clean u := by
  have heq : tellWriteEnd .inventory true u = _ := inventoryWriteCompleted_writing hsave
  rw [heq, hnone]
  rfl

/-- The next write begins with what has changed since (R93). -/
theorem completed_dirty {u : State} (hsave : u.inv.save = .writingDirty) (hnone : u.inv.carriedWaiters = []) :
    tellWriteEnd .inventory true u = startInventoryWrite u.inv.nextWaiters u := by
  have heq : tellWriteEnd .inventory true u = _ := inventoryWriteCompleted_dirty hsave
  rw [heq, hnone]
  rfl

theorem startInventoryWrite_idle {u : State} (hop : u.sti.op = .idle) (ws : List Waiter) :
    (startInventoryWrite ws u).sti = u.sti.beginWrite .inventory (inventoryBody u.inv) := by
  have h : u.sti.handOver .inventory (inventoryBody u.inv) = u.sti.beginWrite .inventory (inventoryBody u.inv) := by
    simp only [Sti.handOver, hop]
  exact h

/-- What a failed inventory write leaves where no requester waits (R93, R94). -/
structure FailedWrite (s t : State) : Prop where
  save : t.inv.save = .notSaved
  masses : t.inv.masses = s.inv.masses
  mode : t.mdc.mode = if s.mdc.mode = .run then .hold else s.mdc.mode
  flag : ∀ w, isWatcher (s.port w).role = true → (t.port w).flags.getLsbD 10 = true

theorem failed_notSaved {u : State} (hsave : u.inv.save = .writing ∨ u.inv.save = .writingDirty)
    (hcarried : u.inv.carriedWaiters = []) (hnext : u.inv.nextWaiters = []) :
    FailedWrite u (tellWriteEnd .inventory false u).drive := by
  have heq : tellWriteEnd .inventory false u = enterHold ((settleSave .notSaved u).raiseWatchers .storeFault) := by
    refine (inventoryWriteFailed_flight hsave).trans ?_
    rw [hcarried, hnext]
    rfl
  have hframe := enterHold_frame ((settleSave .notSaved u).raiseWatchers .storeFault)
  have hsteady := enterHold_steady ((settleSave .notSaved u).raiseWatchers .storeFault)
  rw [heq]
  refine ⟨(congrArg (fun v => v.inv.save) hframe :), (congrArg (fun v => v.inv.masses) hframe :),
    (congrArg (fun v => v.mdc.mode) hframe :), fun w hw => ?_⟩
  rw [drive_flags]
  refine (hsteady.port w).flag ?_
  have hport : (settleSave .notSaved u).port w = u.port w := rfl
  rw [State.port_raiseWatchers, hport, if_pos hw]
  simp [PortState.raise, Event.bit]

/-! ### A write that one requester waits for (R136, R138, R145) -/

/-- The state in which the one requester is told. -/
def settledAs (saved : Bool) (x : Sti) (s : State) : State :=
  settleSave (if saved then .clean else .notSaved) (s.setSti x)

theorem storeAttemptEnds_answered (hop : s.sti.op = .write .inventory slot g image) {saved : Bool}
    (hend : if saved then back = some image else back ≠ some image ∧ s.sti.attempts = 2)
    (hsave : s.inv.save = .writing) {w : Waiter} (hcarried : s.inv.carriedWaiters = [w])
    (hnext : saved = false → s.inv.nextWaiters = []) :
    ∃ x, AnsweredAs (saveAnswered w saved (settledAs saved x s)) (storeAttemptEnds back s) := by
  cases saved with
  | true =>
    have heq (x : Sti) : tellWriteEnd .inventory true (s.setSti x) =
        saveAnswered w true (settleSave .clean (s.setSti x)) := by
      refine (inventoryWriteCompleted_writing (s := s.setSti x) hsave).trans ?_
      rw [State.setSti_inv, hcarried]
      rfl
    refine ⟨(s.sti.commit .inventory slot g).endOperation, ?_⟩
    rw [storeAttemptEnds_good hop hend, heq]
    exact .drive _
  | false =>
    have heq (x : Sti) : tellWriteEnd .inventory false (s.setSti x) =
        enterHold ((saveAnswered w false (settleSave .notSaved (s.setSti x))).raiseWatchers .storeFault) := by
      refine (inventoryWriteFailed_flight (s := s.setSti x) (.inl hsave)).trans ?_
      rw [State.setSti_inv, hcarried, hnext rfl]
      rfl
    refine ⟨s.sti.endOperation, ?_⟩
    rw [storeAttemptEnds_failed hop hend.1 hend.2, heq]
    exact .faulted _

/-- The gear lines follow, for the state has been driven (R131). -/
theorem storeAttemptEnds_lines {r : Region} (hop : s.sti.op = .write r slot g image) :
    LinesFollow (storeAttemptEnds back s) := by
  rw [storeAttemptEnds_write hop]
  exact drive_follows _

section
variable {f : Frame} {x : Transfer} {u : State} (hx : u.transfer f = some x)
include hx

theorem saveAnswered_commit (hphase : x.phase = .committing) (saved : Bool) :
    saveAnswered ⟨f, .commit⟩ saved u = commitAnswered f x saved u := by
  simp only [saveAnswered, hx, hphase]

theorem saveAnswered_late (hphase : x.phase = .abandoning) (saved : Bool) : saveAnswered ⟨f, .commit⟩ saved u = u := by
  simp only [saveAnswered, hx, hphase]

theorem saveAnswered_restore (hphase : x.phase = .abandoning) (saved : Bool) :
    saveAnswered ⟨f, .restore⟩ saved u = endAbandoned f saved u := by
  simp only [saveAnswered, hx, hphase]

theorem saveAnswered_verified (hphase : x.phase = .finishing) (saved : Bool) :
    saveAnswered ⟨f, .verified⟩ saved u = endCompleted f saved u := by
  simp only [saveAnswered, hx, hphase]

end

end

end Sys2Proof.Machine
end

section
/-! SUPPORT. O60: the transfer that an inventory write ends, and the obligation. -/

namespace Sys2Proof.Machine

section
variable {s t : State} {f : Frame} {x : Transfer} {saved : Bool} {sti : Sti}

theorem settledAs_transfer (hx : s.transfer f = some x) : (settledAs saved sti s).transfer f = some x := hx

/-- The gear of a commit that is saved is commanded (R131, R136). -/
theorem answered_commit (hx : s.transfer f = some x) (hphase : x.phase = .committing)
    (h : AnsweredAs (saveAnswered ⟨f, .commit⟩ true (settledAs true sti s)) t) : t.inv.save = .clean ∧
      t.transfer f = some { x with
        phase := .gearRunning, timer := some (s.time + BitVec.ofNat 32 (s.svt.working.tto * 1000)) } := by
  rw [saveAnswered_commit (settledAs_transfer hx) hphase] at h
  exact ⟨congrArg Inv.save h.inv, (h.transfer f).trans (Pair.get_set_self _ _ _)⟩

theorem gear_commanded (hlines : LinesFollow t) {y : Transfer} (hy : t.transfer f = some y)
    (hphase : y.phase = .gearRunning) (hk : y.landing < 12) :
    (y.kind = .load → t.xfc.ldcmd.getD y.landing false = true) ∧
      (y.kind = .unload → t.xfc.ulcmd.getD y.landing false = true) :=
  ⟨fun hkind => (hlines.load y.landing hk).2 ⟨f, y, hy, hphase, hkind, rfl⟩,
    fun hkind => (hlines.unload y.landing hk).2 ⟨f, y, hy, hphase, hkind, rfl⟩⟩

/-- A commit that is not saved ends its transfer with STORE_FAULT (R136, R137). -/
theorem answered_uncommitted (hx : s.transfer f = some x) (hphase : x.phase = .committing)
    (h : AnsweredAs (saveAnswered ⟨f, .commit⟩ false (settledAs false sti s)) t) : t.inv.save = .notSaved ∧
      t.transfer f = none ∧ t.xfc.lastResult.get f = some (x.result .abandoned .storeFault false) := by
  have hx' : (settledAs false sti s).transfer f = some x := settledAs_transfer hx
  have htold := commitAnswered_told (saved := false) hx' fun _ => rfl
  have heq : commitAnswered f x false (settledAs false sti s) = enterAbandoning f .storeFault (settledAs false sti s) := rfl
  rw [saveAnswered_commit hx' hphase] at h
  obtain ⟨hnone, hresult⟩ := (enterAbandoning_xfc hx' .storeFault).2.1 rfl
  rw [← heq] at hnone hresult
  exact ⟨(congrArg Inv.save h.inv).trans htold.save, (h.transfer f).trans hnone,
    (congrArg (fun c => c.get f) h.results).trans hresult⟩

/-- What a requester's transfer leaves as it ends (R147). -/
structure EndedSaved (f : Frame) (r : TransferResult) (saved : Bool) (s t : State) : Prop where
  transfer : t.transfer f = none
  result : t.xfc.lastResult.get f = some r
  save : t.inv.save = if saved then .clean else .notSaved
  flag : ∀ q, (s.port q).role = winderRole f → (t.port q).flags.getLsbD 7 = true

theorem EndedWith.toSaved {r : TransferResult} (h : EndedWith f r (settledAs saved sti s) t) : EndedSaved f r saved s t :=
  ⟨h.transfer, h.result, h.save, h.flag⟩

theorem answered_restore (hx : s.transfer f = some x) (hphase : x.phase = .abandoning)
    (h : AnsweredAs (saveAnswered ⟨f, .restore⟩ saved (settledAs saved sti s)) t) :
    EndedSaved f (x.result .abandoned x.cause saved) saved s t ∧ t.tku = s.tku ∧ t.inv.masses = s.inv.masses := by
  have hx' : (settledAs saved sti s).transfer f = some x := settledAs_transfer hx
  rw [saveAnswered_restore hx' hphase] at h
  obtain ⟨hended, htku, hinv⟩ := endAbandoned_ended hx' saved
  exact ⟨(h.ended hended).toSaved, h.tku.trans htku, (congrArg Inv.masses (h.inv.trans hinv) :)⟩

/-- The task of a verified transfer, as the answer leaves it (R118, R123). -/
structure Advanced (f : Frame) (id : Nat) (s t : State) : Prop where
  onward : id < 32 → (s.task id).phase = .loading → (s.task id).cancelPending = false →
    t.task id = { s.task id with phase := .toDrop } ∧ t.tku.completion = s.tku.completion
  back : id < 32 → (s.task id).phase = .loading → (s.task id).cancelPending = true →
    t.task id = { s.task id with
      dest := (s.task id).source.getD (s.task id).dest, reasons := (s.task id).reasons ||| 0x0001,
      cancelPending := false, phase := .toDrop } ∧
    (t.bay (s.task id).dest).task =
      if (s.task id).source.getD (s.task id).dest ≠ (s.task id).dest ∧ (s.bay (s.task id).dest).task = some id then none
      else (s.bay (s.task id).dest).task
  done : PoolPartitioned s → id ∈ s.tku.queues.get f → (s.task id).phase = .unloading →
    (t.task id).phase = .done ∧ t.tku.completion = s.tku.completion ++ [id] ∧
      t.tku.queues.get f = (s.tku.queues.get f).erase id

theorem advanceTask_advanced (f : Frame) (id : Nat) (s : State) : Advanced f id s (advanceTask id f s) :=
  ⟨advanceTask_onward f, advanceTask_return f, advanceTask_done f⟩

/-- Advancing speaks of TKU and of bays alone. -/
theorem Advanced.of_blocks {id : Nat} {u v : State} (h : Advanced f id s t) (htku : u.tku = s.tku)
    (hinv : u.inv.bays = s.inv.bays) (htku' : v.tku = t.tku) (hinv' : v.inv.bays = t.inv.bays) : Advanced f id u v := by
  have htask : u.task id = s.task id := by rw [State.task, htku, State.task]
  have htask' : v.task id = t.task id := by rw [State.task, htku', State.task]
  obtain ⟨honward, hback, hdone⟩ := h
  refine ⟨?_, ?_, fun hpool => ?_⟩
  · rw [htask, htask', htku, htku']
    exact honward
  · rw [htask, htask', bay_of_bays hinv, bay_of_bays hinv']
    exact hback
  · rw [htask, htask', htku, htku']
    exact hdone (PoolPartitioned.of_collections hpool (by rw [htku]) (by rw [htku]) (by rw [htku]))

theorem answered_verified (hx : s.transfer f = some x) (hphase : x.phase = .finishing)
    (h : AnsweredAs (saveAnswered ⟨f, .verified⟩ saved (settledAs saved sti s)) t) :
    EndedSaved f (x.result .completed .none saved) saved s t ∧ Advanced f x.task s t := by
  have hx' : (settledAs saved sti s).transfer f = some x := settledAs_transfer hx
  rw [saveAnswered_verified hx' hphase] at h
  refine ⟨(h.ended (endCompleted_ended hx' saved)).toSaved, ?_⟩
  rw [endCompleted_eq hx'] at h
  have hadvanced := advanceTask_advanced f x.task
    (clearContext f (x.result .completed .none saved) (settledAs saved sti s))
  exact hadvanced.of_blocks rfl rfl h.tku (congrArg Inv.bays h.inv :)

end

end Sys2Proof.Machine
end

section
/-! SUPPORT. O60: STORE_ATTEMPT_END, clause by clause. -/

namespace Sys2Proof.Machine

/-- Settles O60: the ends of the attempts, of the write, and of the transfer that waits on it. -/
theorem storeAttemptsEndTheWrite : Obligations.StoreAttemptsEndTheWrite := by
  intro back region slot g image s c writing completes fails done
  have hexec : exec c s = .next (storeAttemptEnds back s) := exec_storeAttemptEnd back s
  have hsame {t : State} (h : storeAttemptEnds back s = t) : exec c s = .next t := hexec.trans (congrArg _ h)
  have hdone (h : completes) :
      storeAttemptEnds back s = (tellWriteEnd region true (s.setSti (s.sti.completed region slot g))).drive :=
    storeAttemptEnds_completed h.1 h.2.1 h.2.2
  have hlost (h : fails) : storeAttemptEnds back s =
      (tellWriteEnd region false (s.setSti { s.sti with op := .idle, attempts := 0 })).drive :=
    storeAttemptEnds_lost h.1 h.2.1 h.2.2.1 h.2.2.2
  have hend {saved : Bool} (h : if saved then completes else fails) :
      writing ∧ if saved then back = some image else back ≠ some image ∧ s.sti.attempts = 2 := by
    cases saved with
    | true => exact ⟨h.1, h.2.1⟩
    | false => exact ⟨h.1, h.2.1, h.2.2.1⟩
  refine ⟨fun hno => hsame (storeAttemptEnds_idle hno), fun hw hback hless => hsame (storeAttemptEnds_again hw hback hless),
    fun h hr hsave => ?_, fun h hr => ?_, fun h hr hsave hnone => ?_, fun f x h hr hsave hone hx hphase => ?_,
    fun h hr hsave hnone => ?_, fun h hr hsave hcarried hnext => ?_, fun f x h hr hsave hone hnext hx hphase => ?_,
    fun f x w saved h hr hsave hone hnext hx => ?_, fun r items hw hlast hwaiting hne => ?_⟩
  · subst hr
    have htaken := takeOverSurvey_drive (s.setSti (s.sti.completed .survey slot g))
    refine ⟨_, hsame (hdone h), htaken.svt, htaken.grants, htaken.table, htaken.pointer, htaken.pending, htaken.current,
      htaken.generation, htaken.save.trans ?_, htaken.mass, htaken.account⟩
    exact congrArg SaveState.requested hsave
  · subst hr
    exact hsame (hlost h)
  · subst hr
    refine hsame ((hdone h).trans (congrArg State.drive ?_))
    exact completed_clean (u := s.setSti (s.sti.completed .inventory slot g)) hsave hnone
  · subst hr
    obtain ⟨sti, hanswered⟩ := storeAttemptEnds_answered (saved := true) h.1 h.2.1 hsave hone nofun
    obtain ⟨hclean, htransfer⟩ := answered_commit hx hphase hanswered
    refine ⟨_, hexec, hclean, htransfer, fun hk => ?_⟩
    obtain ⟨hload, hunload⟩ := gear_commanded (storeAttemptEnds_lines (back := back) h.1) htransfer rfl hk
    split
    · next hkind => exact hload hkind
    · next hkind => exact hunload hkind
  · subst hr
    have hdirty := completed_dirty (u := s.setSti (s.sti.completed .inventory slot g)) hsave hnone
    have hidle := startInventoryWrite_idle (u := s.setSti (s.sti.completed .inventory slot g)) rfl s.inv.nextWaiters
    rw [Sti.beginWrite_eq] at hidle
    refine ⟨_, hsame ((hdone h).trans (congrArg State.drive hdirty)), rfl, rfl, (congrArg Sti.op hidle :).trans ?_⟩
    cases slot <;> rfl
  · subst hr
    have hfailed := failed_notSaved (u := s.setSti { s.sti with op := .idle, attempts := 0 }) hsave hcarried hnext
    exact ⟨_, hsame (hlost h), hfailed.save, hfailed.masses, hfailed.mode, hfailed.flag⟩
  · subst hr
    obtain ⟨sti, hanswered⟩ := storeAttemptEnds_answered (saved := false) h.1 ⟨h.2.1, h.2.2.1⟩ hsave hone fun _ => hnext
    obtain ⟨hnot, hnone, hresult⟩ := answered_uncommitted hx hphase hanswered
    exact ⟨_, hexec, hnot, hnone, hresult⟩
  · subst hr
    obtain ⟨hw, hback⟩ := hend h
    obtain ⟨sti, hanswered⟩ := storeAttemptEnds_answered hw hback hsave hone fun _ => hnext
    intro ended y backTo
    refine ⟨fun hphase hc => ?_, fun hphase hc => ?_, fun hphase hc => ?_⟩
    · subst hc
      rw [saveAnswered_late (settledAs_transfer hx) hphase] at hanswered
      exact ⟨_, hexec, (hanswered.transfer f).trans hx, hanswered.tku⟩
    · subst hc
      obtain ⟨hended, htku, hmasses⟩ := answered_restore hx hphase hanswered
      exact ⟨_, hexec, ⟨hended.transfer, hended.result, hended.save, hended.flag⟩, htku, hmasses⟩
    · subst hc
      obtain ⟨hended, hadvanced⟩ := answered_verified hx hphase hanswered
      exact ⟨_, hexec, ⟨hended.transfer, hended.result, hended.save, hended.flag⟩, hadvanced.onward, hadvanced.back,
        hadvanced.done⟩
  · have hnext := storeAttemptEnds_next hw hlast hwaiting hne
    exact ⟨_, hexec, hnext.op, hnext.attempts, fun hr hback => hnext.dirty hr (beq_iff_eq.2 hback),
      fun hr hback => hnext.survey hr (beq_iff_eq.2 hback)⟩

end Sys2Proof.Machine
end
